-- ==== Sys2Proof/Word.lean ====
section
/-! DEFINITION. Word.lean: the word types and index types of the W24 that every other file uses. -/

namespace Sys2Proof

/-- One byte of a line frame or of a flash read. -/
abbrev Byte := BitVec 8

/-- A reading of the 32-bit station time counter, in ticks of 100 µs (R1). It wraps. -/
abbrev Time := BitVec 32

/-- A station number, 0 to 15 (R195). -/
abbrev Station := Fin 16

/-- A key of the station's division, 0 to 63 (R168). -/
abbrev Key := Fin 64

/-- A stop of the station's division, 0 to 15 (R174). -/
abbrev StopNo := Fin 16

/-- An entry of the action table, 0 to 63 (R147). -/
abbrev EntryNo := Fin 64

/-- A fire channel, 0 to 7 (R154). -/
abbrev ChannelNo := Fin 8

/-- A fault channel, 0 to 7 (R182). -/
abbrev FaultNo := Fin 8

end Sys2Proof
end

