-- ==== Sys2Proof/Syntax.lean ====
section
/-! DEFINITION. Syntax.lean: the commands of the W24, one constructor for each row of spec/opcode_table.json. A command is one event
that reaches the part: at a pin, on the station line, at the flash port, or the expiry or internal step that the row names. Its
operands are what the outside brings with that event. -/

namespace Sys2Proof

/-- The two push buttons of the cue port (R61). -/
inductive Button where
  | start | stop
deriving DecidableEq, Repr

/-- The two coils of a stop (R174). -/
inductive Coil where
  | on | off
deriving DecidableEq, Repr

/-- What happens at the sound input port (R23): a rising edge of the word sync, or a rising edge of the bit clock with the level it finds on the
data line. -/
inductive SoundEdge where
  | wordSync
  | bit (level : Bool)
deriving DecidableEq, Repr

/-- The commands, one constructor per row of the table, in the table's order. -/
inductive Instr where
  /-- RESET_ASSERTED (R194). -/
  | resetAsserted
  /-- FULL_START (R195): `straps` is the number read from the four straps. -/
  | fullStart (straps : Station)
  /-- CONFIGURATION_SECTION_READ (R196): `bytes` is what the flash returned. -/
  | configurationSectionRead (bytes : List Byte)
  /-- SOUND_CHECK_TIMEOUT (R200). -/
  | soundCheckTimeout
  /-- OFF_PULSES_END (R201). -/
  | offPulsesEnd
  /-- JOIN_COUNT_COMPLETE (R12). -/
  | joinCountComplete
  /-- LINE_QUIET (R4): the level of the line outside a frame, as the run of high bit times that R4 counts: `highBits` since the end of the stop
  bit or of the low period, 11 at the moment the line becomes quiet, and 0 at the first low bit, which ends the quiet. -/
  | lineQuiet (highBits : Nat)
  /-- SYNC_MARK_BEGIN (R6). -/
  | syncMarkBegin
  /-- FRAME_MARK (R5): a rising edge ends a low period of `lowBits` bit times. -/
  | frameMark (lowBits : Nat)
  /-- FRAME_CLASH (R9): bit `bit` of the frame, counted from the first bit of its sync mark, is read back as `level`. -/
  | frameClash (bit : Nat) (level : Bool)
  /-- FRAME_COMPLETE (R8). -/
  | frameComplete
  /-- LINE_HELD_LOW (R11): the line has been low for `lowBits` bit times. -/
  | lineHeldLow (lowBits : Nat)
  /-- LINE_RELEASED_HIGH (R11). -/
  | lineReleasedHigh
  /-- INVALID_FRAME (R18): the bytes read whole, and then the bits of the byte whose start or stop bit was bad: the high start bit alone, or the
  ten bits up to the low stop bit; none when the framing was good. -/
  | invalidFrame (bytes : List Byte) (broken : List Bool)
  /-- HEARD_RECEIVED (R19): the bytes of the frame, first byte to check. -/
  | heardReceived (bytes : List Byte)
  /-- PULSE_RECEIVED (R19). -/
  | pulseReceived (bytes : List Byte)
  /-- HALT_RECEIVED (R19). -/
  | haltReceived (bytes : List Byte)
  /-- FAULT_RECEIVED (R19). -/
  | faultReceived (bytes : List Byte)
  /-- DUPLICATE (R20). -/
  | duplicate (bytes : List Byte)
  /-- PEER_ABSENCE_EXPIRY (R88). -/
  | peerAbsenceExpiry (peer : Station)
  /-- SAMPLE_TAKEN (R23, R24): the edges at the sound input port since the last sample was taken, the last of them the bit clock edge that reads
  the sixteenth bit, and how many ticks before now the last word sync edge among them came. -/
  | sampleTaken (edges : List SoundEdge) (ago : Nat)
  /-- SOUND_INPUT_LOST (R34). -/
  | soundInputLost
  /-- HYMN_NUMBER_STABLE (R62). -/
  | hymnNumberStable
  /-- BUTTON_PRESS_EDGE (R63). -/
  | buttonPressEdge (button : Button)
  /-- BOTH_HELD_RESTART (R63). -/
  | bothHeldRestart
  /-- SELECT (R66): the bytes of a peer's CUE frame carrying SELECT. -/
  | select (bytes : List Byte)
  /-- START (R67): the bytes of a peer's CUE frame carrying START. -/
  | start (bytes : List Byte)
  /-- STOP (R68): the bytes of a peer's CUE frame carrying STOP. -/
  | stop (bytes : List Byte)
  /-- RESTART (R70): the bytes of a peer's CUE frame carrying RESTART. -/
  | restart (bytes : List Byte)
  /-- DIRECTORY_READ (R43). -/
  | directoryRead (bytes : List Byte)
  /-- HEADER_READ (R44). -/
  | headerRead (bytes : List Byte)
  /-- VERSE_PLAN_READ (R45). -/
  | versePlanRead (bytes : List Byte)
  /-- MARK_BLOCK_READ (R50). -/
  | markBlockRead (bytes : List Byte)
  /-- NOTE_BLOCK_READ (R53). -/
  | noteBlockRead (bytes : List Byte)
  /-- MARK_APPEND (R50). -/
  | markAppend
  /-- NOTE_PAIR_INSERT (R53). -/
  | notePairInsert
  /-- STOP_ACTION_INSERT (R54). -/
  | stopActionInsert
  /-- END_OF_SCORE (R55). -/
  | endOfScore
  /-- ONSET_TAKEN (R91). -/
  | onsetTaken
  /-- RELEASE_TAKEN (R100). -/
  | releaseTaken
  /-- GATHER_OPEN (R90). -/
  | gatherOpen
  /-- GATHER_CLOSE_EXPIRY (R94): of the open gathers, 0 for the one opened first, 1 for the other. -/
  | gatherCloseExpiry (which : Fin 2)
  /-- GATHER_CLOSE_TAKEN (R108). -/
  | gatherCloseTaken
  /-- CLUSTER_TAKEN (R135). -/
  | clusterTaken
  /-- BEAT_EVENT (R114). -/
  | beatEvent
  /-- BROADEN_MARK_REACHED (R115). -/
  | broadenMarkReached
  /-- HOLD_POINT_REACHED (R139). -/
  | holdPointReached
  /-- HOLD_LIMIT_EXPIRY (R142). -/
  | holdLimitExpiry
  /-- HOLD_RELEASE (R143). -/
  | holdRelease
  /-- RETIME_VISIT (R159). -/
  | retimeVisit
  /-- ACTION_ARM (R152). -/
  | actionArm (entry : EntryNo)
  /-- DUE_TIME_PASSED_WAITING (R153). -/
  | dueTimePassedWaiting (entry : EntryNo)
  /-- CHANNEL_EXPIRY (R154). -/
  | channelExpiry (channel : ChannelNo)
  /-- STOP_PULSE_END (R156). -/
  | stopPulseEnd (channel : ChannelNo)
  /-- COIL_RELEASE (R174). -/
  | coilRelease (stop : StopNo) (coil : Coil)
  /-- VALVE_FRAME_START (R170). -/
  | valveFrameStart
  /-- VALVE_FRAME_LATCH (R171): the 96 bits read at the return input. -/
  | valveFrameLatch (returned : BitVec 96)
  /-- CUTOFF_PIN_CHANGE (R172): the pin's new level. -/
  | cutoffPinChange (asserted : Bool)
  /-- ASSERTION_EDGE (R173). -/
  | assertionEdge
  /-- CUTOFF_RELEASE_EDGE (R173). -/
  | cutoffReleaseEdge
  /-- PWM_PERIOD_START (R176). -/
  | pwmPeriodStart
  /-- DEBOUNCED_LEVEL_CHANGE (R61): one cue port sample; bits 0 to 9 the hymn lines, bit 10 START, bit 11 STOP, a set bit a line
  that carries a 1 or a button that is pressed. -/
  | debouncedLevelChange (lines : BitVec 12)
  /-- SYNC_MARK_REJECTED (R5): a low period of `lowBits` bit times, seen while waiting for a sync mark. -/
  | syncMarkRejected (lowBits : Nat)
deriving DecidableEq, Repr

end Sys2Proof
end

