-- ==== Sys2Proof/Decode.lean ====
section
/-! DEFINITION. Decode.lean: the command that a word of spec/opcode_table.json spells. The table gives no row any bits: the W24 takes
events at its pins and has no command words. So no word spells a command. -/

namespace Sys2Proof

/-- The command an opcode word spells: none, since no row of the table has bits. -/
def decodeTableWord (_nbits _w : Nat) : Option Instr := none

end Sys2Proof
end

