-- ==== Sys2Proof/Machine/Arith.lean ====
section
/-! DEFINITION. Machine/Arith.lean: the arithmetic of the manual (R1, R2, R104, R105): rounding, clamping, signed differences of times, and
small helpers over lists and vectors. -/

namespace Sys2Proof.Machine

/-- `n / d` rounded to nearest, ties away from zero (R2), for a positive `d`. -/
def roundDiv (n d : Int) : Int :=
  if 0 ≤ n then (2 * n + d) / (2 * d) else -((2 * -n + d) / (2 * d))

/-- Clamp to [lo, hi]: lo when below, hi when above (R2). -/
def clampInt (lo hi x : Int) : Int := if x < lo then lo else if hi < x then hi else x

/-- Clamp of a natural number to [lo, hi] (R2). -/
def clampNat (lo hi x : Nat) : Nat := if x < lo then lo else if hi < x then hi else x

/-- The signed 32-bit difference of two times, `later - earlier` (R1). -/
def since (later earlier : Time) : Int := (later - earlier).toInt

/-- Whether the time `t` is at or before `now` (R1). -/
def reached (t now : Time) : Bool := decide (0 ≤ since now t)

/-- The later of two times by their signed difference. -/
def laterOf (a b : Time) : Time := if 0 ≤ since a b then a else b

/-- A time moved by a signed number of ticks; it wraps (R1). -/
def addTicks (t : Time) (n : Int) : Time := t + BitVec.ofInt 32 n

/-- Whether `t` lies in the window [first, last], both ends included (R89). -/
def inWindow (first last t : Time) : Bool := reached first t && reached t last

/-- Up to `fuel` turns of a step, ending at the first turn that answers none. -/
def iterate {α : Type} (step : α → Option α) : Nat → α → α
  | 0, a => a
  | fuel + 1, a =>
    match step a with
    | none => a
    | some b => iterate step fuel b

/-- The function applied at every place of a vector. -/
def mapVec {α β : Type} {n : Nat} (f : α → β) (v : Vector α n) : Vector β n :=
  ⟨(v.toList.map f).toArray, by simp⟩

/-- The bits of a list as a number, the first element the least significant bit. -/
def bitsToNat (bits : List Bool) : Nat := bits.foldr (fun b n => 2 * n + b.toNat) 0

/-- The element of a list with the least key, the first of equals; the comparison is given. -/
def leastBy {α : Type} (less : α → α → Bool) : List α → Option α
  | [] => none
  | a :: as =>
    match leastBy less as with
    | none => some a
    | some b => if less b a then some b else some a

/-- An element put into a list before the first element that the comparison puts after it. -/
def insertBy {α : Type} (less : α → α → Bool) (a : α) : List α → List α
  | [] => [a]
  | b :: bs => if less a b then a :: b :: bs else b :: insertBy less a bs

/-- A list put in order by a comparison; of equals, the one that stands first in the list stays first. -/
def orderBy {α : Type} (less : α → α → Bool) : List α → List α
  | [] => []
  | a :: as => insertBy (fun x y => !less y x) a (orderBy less as)

end Sys2Proof.Machine
end

