-- ==== Sys2Proof/Config.lean ====
section
/-! DEFINITION. Config.lean: the fixed numbers of the manual and the free values, the points the manual leaves open on which the
machine goes on. A free value has no body, so nothing can be proved about which value it is. -/

namespace Sys2Proof.Config

/-- Bit times in one tick (R1). -/
abbrev bitsPerTick : Nat := 25
/-- Consecutive high bit times that make the line quiet (R4). -/
abbrev quietBits : Nat := 11
/-- High bit times that the end of a byte can add to those after its stop bit: the stop bit and eight data bits of 1 (R3, R12). -/
abbrev tailBits : Nat := 9
/-- High bit times counted before a JOINING transmitter becomes ACTIVE (R12). -/
abbrev joinBits : Nat := 500
/-- Age limit of a HEARD frame, in ticks (R7, R14). -/
abbrev heardAgeLimit : Nat := 800
/-- Age limit of a PULSE frame, in ticks (R7, R14). -/
abbrev pulseAgeLimit : Nat := 2000
/-- Frames the transmit queue holds (R15). -/
abbrev queueCapacity : Nat := 8
/-- Clashes after which a frame is removed (R10). -/
abbrev clashLimit : Nat := 8
/-- Samples in one block of the sound front end (R24). -/
abbrev blockSamples : Nat := 64
/-- Envelopes the level window holds (R31). -/
abbrev windowLength : Nat := 32
/-- Ticks without a sample after which the sound input is lost (R34). -/
abbrev soundLossTicks : Nat := 500
/-- Marks the mark queue holds (R50). -/
abbrev markCapacity : Nat := 24
/-- The note reader's horizon ahead of the ruling position, in su (R52). -/
abbrev horizonSu : Nat := 96
/-- Ticks from the START frame's mark to play beat 0 (R67). -/
abbrev startLead : Nat := 6000
/-- Ticks a hymn number stands before it is sent (R62). -/
abbrev stableTicks : Nat := 2500
/-- Ticks both buttons are held before RESTART is offered (R63). -/
abbrev bothHeldTicks : Nat := 20000
/-- Entries the observation queue holds (R84). -/
abbrev observationCapacity : Nat := 32
/-- Ticks without a frame after which a peer is ABSENT (R88). -/
abbrev absenceTicks : Nat := 50000
/-- Ticks after a window's end at which its gather closes (R89). -/
abbrev closeGrace : Nat := 300
/-- Members the unmatched pool holds (R97). -/
abbrev poolCapacity : Nat := 8
/-- The arm horizon, in ticks (R152). -/
abbrev armHorizon : Nat := 200
/-- Ticks a NOTE_OFF's floor stands after its NOTE_ON's due time (R150). -/
abbrev floorTicks : Nat := 100
/-- Ticks between two valve port frames, two cutoff samples and two cue port samples (R170, R172, R61). -/
abbrev sampleTicks : Nat := 10
/-- Ticks of one PWM period (R176). -/
abbrev pwmTicks : Nat := 200
/-- Ticks the sound self-check waits for a block (R200). -/
abbrev soundCheckTicks : Nat := 1000

/-- FREE VALUE (log 6): in a directory range of even length, whether the search probes the upper of the two middle entries (R43
says "the entry in the middle of the range still open"). -/
opaque upperMiddle : Bool

/-- FREE VALUE (log 7): the debounced level given to a line whose first three samples after full start do not agree (R61, R172 say
only that the first three samples set it). The argument is the count of free values taken so far, `Clock.opened`. -/
opaque startLevel : Nat → Bool

/-- FREE VALUE (log 8): which hymn a join is formed for when claims of two peers count toward each of several hymns at once (R75).
The argument is the count of free values taken so far; the value is taken modulo the number of such hymns. -/
opaque joinPick : Nat → Nat

/-- FREE VALUE (log 9): whether an ONSET that finds the pool full and ties with the earliest member enters (R97). -/
opaque poolTieEnters : Nat → Bool

/-- FREE VALUE (log 9): which of several members tied for the earliest event time leaves a full pool (R97). The value is taken
modulo the number of members so tied. -/
opaque poolTieLeaver : Nat → Nat

end Sys2Proof.Config
end

