-- ==== Sys2Proof/Machine/State.lean ====
section
/-! DEFINITION. Machine/State.lean: everything the W24 holds, block by block as the manual cuts it, the state under reset, and the ways a
step could stop. -/

namespace Sys2Proof.Machine

/-! ## The station time counter -/

/-- The station time counter (R1). `bit` counts the bit times gone by in the current tick, 0 to 24. `opened` is the MODEL's own: how
many free values the run has taken, so that each is a fresh one. -/
structure Clock where
  time : Time
  bit : Nat
  opened : Nat
deriving DecidableEq, Repr

/-! ## Start-up (chapter 11) -/

/-- The start steps (R194, R195). STRAPS is passed within FULL_START. -/
inductive StartStep where
  | held | straps | read | checks | pulses | joining | done
deriving DecidableEq, Repr

/-- The reaction of a fault channel (R183). -/
inductive Reaction where
  | report | lead | silence
deriving DecidableEq, Repr

/-- One speech zone: the lowest key of the zone and its speech delay (R148, R197). -/
structure Zone where
  lower : Nat
  speech : Nat
deriving DecidableEq, Repr

/-- The configuration record (R196), the zones as R197 leaves them. -/
structure Configuration where
  division : Option (Fin 8)
  listen : Bool
  play : Bool
  pickupDelay : Nat
  chamberDelay : Nat
  bias : Int
  zones : List Zone
  offTrim : Nat
  articulation : Nat
  lateLimit : Nat
  kp : Nat
  ki : Nat
  kc : Nat
  windowFactor : Nat
  quorum : Nat
  selfWeight : Nat
  peerDefault : Nat
  weightMax : Nat
  masks : BitVec 7
  reactions : Vector Reaction 8
  attnEnables : BitVec 8
  onsetFloor : Nat
  onsetRatio : Nat
  persistence : Nat
  refractory : Nat
  releaseRatio : Nat
  swellRest : Nat
  stopPulse : Nat
  stopLead : Nat
deriving DecidableEq, Repr

/-- The default reaction of each fault channel (R182): SILENCE for VALVE, REPORT for the others. -/
def defaultReaction (ch : FaultNo) : Reaction := if ch = 7 then .silence else .report

/-- The defaults of R196: the division NONE, the roles LISTEN alone, the masks of R120, the reactions of R182. -/
def Configuration.defaults : Configuration where
  division := none
  listen := true
  play := false
  pickupDelay := 0
  chamberDelay := 0
  bias := 0
  zones := [⟨0, 0⟩]
  offTrim := 50
  articulation := 2
  lateLimit := 300
  kp := 6
  ki := 16
  kc := 2
  windowFactor := 4
  quorum := 24
  selfWeight := 8
  peerDefault := 8
  weightMax := 12
  masks := 0b0001111#7
  reactions := Vector.ofFn defaultReaction
  attnEnables := 0xFF#8
  onsetFloor := 400
  onsetRatio := 32
  persistence := 2
  refractory := 1200
  releaseRatio := 4
  swellRest := 0
  stopPulse := 1000
  stopLead := 1500

/-- The state of start-up. `valveCheck` is the number of comparisons the valve loop check still takes, none when it does not run
(R199); `soundCheck` is set while the sound check runs (R200). -/
structure StartUp where
  step : StartStep
  strap : Station
  config : Configuration
  silencingRecorded : Bool
  configEnd : Time
  valveCheck : Option Nat
  soundCheck : Bool
  pulsesEnd : Time
deriving DecidableEq, Repr

/-! ## The line interface (chapter 1) -/

/-- The event a HEARD frame or an observation reports (R19, R32). -/
inductive ObsKind where
  | onset | release
deriving DecidableEq, Repr

/-- The four cues (R65). -/
inductive Cue where
  | select | start | stop | restart
deriving DecidableEq, Repr

/-- Who sets the tempo: the play state a PULSE frame carries (R60), and the return state of a hold (R74). -/
inductive Tempo where
  | leading | following
deriving DecidableEq, Repr

/-- The fields of a PULSE frame but its age (R118). -/
structure PulseFields where
  hymn : Nat
  beat : Nat
  period : Nat
  confidence : Nat
  tempo : Tempo
  level : Nat
  resync : Bool
  listening : Bool
  leadLock : Bool
  fault : Bool
  summary : Bool
  culprit : Option Station
deriving DecidableEq, Repr

/-- What a frame of each kind says (R19), its age apart. -/
inductive FrameBody where
  | heard (event : ObsKind) (sequence : BitVec 8) (strength : Nat)
  | pulse (fields : PulseFields)
  | cue (cue : Cue) (hymn : Nat)
  | halt
  | fault (channel : FaultNo) (reaction : Reaction) (culprit : Option Station) (sequence : BitVec 8)
deriving DecidableEq, Repr

/-- A frame of the transmit queue: the event time it was queued with (HEARD and PULSE, R13), its clash count (R15), and a tag, the
MODEL's own, by which the fault unit knows the FAULT frame that silencing in progress names (R187). -/
structure QueuedFrame where
  body : FrameBody
  eventTime : Time
  clashes : Nat
  tag : Nat
deriving DecidableEq, Repr

/-- The frame on the line (R7), and the age written at its frame mark, none before the mark (R8, R13). -/
structure LineFrame where
  frame : QueuedFrame
  age : Option (BitVec 16)
deriving DecidableEq, Repr

/-- The transmitter state (R6, R11, R12, R17). -/
inductive Transmitter where
  | joining | active | suspended | off
deriving DecidableEq, Repr

/-- The receive framing (R5, R18). -/
inductive Framing where
  | waitSync | receiving | waitQuiet
deriving DecidableEq, Repr

/-- The state of the line interface (R21). `quiet` is the number of bit times the line has been quiet, none when it is not quiet (R4). `low` says
that the line is low outside a frame being received, and `high` for how many bit times it has been continuously high (R4, R12). `joinTime` is
the bit times since the count of R12 began, none when it does not run. -/
structure LineInterface where
  queue : List QueuedFrame
  onLine : Option LineFrame
  transmitter : Transmitter
  lowReported : Bool
  quiet : Option Nat
  low : Bool
  high : Nat
  joinTime : Option Nat
  framing : Framing
  markLatch : Time
deriving DecidableEq, Repr

/-! ## The sound front end (chapter 2) -/

/-- The block being formed (R24): samples taken, the sum of their magnitudes, the first sample's stamp. -/
structure Block where
  count : Nat
  sum : Nat
  start : Time
deriving DecidableEq, Repr

/-- The detector state (R26, R29). -/
inductive Detector where
  | quiet | sounding
deriving DecidableEq, Repr

/-- A candidate (R26, R29). `largest` is the largest envelope from the candidate block on, which R28 needs for the peak. -/
inductive Candidate where
  | onset (start : Time) (envelope baseline count largest : Nat)
  | release (start : Time) (peak count : Nat)
deriving DecidableEq, Repr

/-- The state of the sound front end (R37). `portTicks`, the MODEL's own, is how many ticks ago the port was first read, or the last sample was
taken: a sample begins no earlier (R36, log 46). -/
structure FrontEnd where
  block : Block
  history : List Nat
  window : List Nat
  detector : Detector
  candidate : Option Candidate
  peak : Nat
  refractory : Option Time
  sequence : BitVec 8
  lastSample : Time
  lossReported : Bool
  portTicks : Nat
deriving DecidableEq, Repr

/-! ## The score store controller (chapter 3) -/

/-- What one flash read asks for (R40). -/
inductive FlashUnit where
  | configuration | directoryCount | directoryEntry | header | plan | markBlock | noteBlock
deriving DecidableEq, Repr

/-- One read: its unit, its first address and its length in bytes (R40, R206). -/
structure FlashRead where
  unit : FlashUnit
  address : Nat
  length : Nat
deriving DecidableEq, Repr

/-- The flash port and its arbiter (R40, R41). `abandoned` says that the read in flight is to be discarded; `granting` is clear in
HALTED. -/
structure FlashPort where
  serving : Option FlashRead
  abandoned : Bool
  loaderWaits : Option FlashRead
  markWaits : Option FlashRead
  noteWaits : Option FlashRead
  granting : Bool
deriving DecidableEq, Repr

/-- Where a stream stands in its hymn record, and its count of records (R38). -/
structure StreamRef where
  offset : Nat
  count : Nat
deriving DecidableEq, Repr

/-- A hymn header (R38, R44). -/
structure Header where
  number : Nat
  period : Nat
  length : Nat
  verses : Nat
  introFirst : Nat
  introLast : Nat
  gap : Nat
  marks : StreamRef
  notes : Vector StreamRef 8
deriving DecidableEq, Repr

/-- The swell modes of the verse plan (R38). -/
inductive SwellMode where
  | fixed | quick | steady | slow
deriving DecidableEq, Repr

/-- One entry of the verse plan (R38, R45). -/
structure PlanEntry where
  voices : BitVec 5
  stops : Vector (BitVec 16) 8
  mode : SwellMode
  floor : Nat
  ceiling : Nat
  scale : Nat
deriving DecidableEq, Repr

/-- A loaded hymn (R46): the address of its record, its header and its verse plan. -/
structure Hymn where
  address : Nat
  header : Header
  plan : List PlanEntry
deriving DecidableEq, Repr

/-- The loader's step (R43 to R46). In the search, `low` up to but not including `high` is the range still open and `probe` the entry
being read. -/
inductive Loader where
  | idle
  | count (hymn : Nat)
  | search (hymn low high probe : Nat)
  | header (hymn address length : Nat)
  | plan (address : Nat) (header : Header)
  | priming
deriving DecidableEq, Repr

/-- Whether a reader is idle, running or stopped (chapter 3's state table). -/
inductive ReaderPhase where
  | idle | running | stopped
deriving DecidableEq, Repr

/-- A mark record as it stands in a block (R49). -/
structure MarkRecord where
  beat : Nat
  sub : Nat
  sung : Bool
  hold : Bool
  broaden : Bool
  holdOffset : Nat
  holdBeats : Nat
deriving DecidableEq, Repr

/-- A note record as it stands in a block (R53). -/
structure NoteRecord where
  beat : Nat
  sub : Nat
  length : Nat
  key : Key
  voice : Nat
deriving DecidableEq, Repr

/-- One flag of a mark: not carried, carried and unserved, or served (R49, R51). -/
inductive MarkFlag where
  | absent | unserved | served
deriving DecidableEq, Repr

/-- A mark of the mark queue (R49): its play position, its flags, and with HOLD its hold point and hold beat count. -/
structure Mark where
  position : Nat
  sung : MarkFlag
  hold : MarkFlag
  broaden : MarkFlag
  holdPoint : Nat
  holdBeats : Nat
deriving DecidableEq, Repr

/-- The mark reader (R50). `section` 0 is the intro, v is verse v. `block` is the next block of the stream to read; `discardBelow` the
play position a seek discards below (R56); `ended` says the whole stream has been read through the last verse. -/
structure MarkReader where
  phase : ReaderPhase
  sect : Nat
  block : Nat
  buffer : List MarkRecord
  lastValid : Option Nat
  discardBelow : Nat
  ended : Bool
deriving DecidableEq, Repr

/-- The note reader (R52 to R55). `finished` says it has finished its pass of the last verse; `endReached` is end of score as it has been reported,
and `endPassed` that it has been reached and is yet to be reported. `inHand` says that the note or stop action next to be inserted has come
below the horizon and waits for FREE entries alone (R53, R54). -/
structure NoteReader where
  phase : ReaderPhase
  sect : Nat
  block : Nat
  buffer : List NoteRecord
  lastValid : Option Nat
  start : Nat
  planned : BitVec 16
  finished : Bool
  endReached : Bool
  inHand : Bool
  endPassed : Bool
deriving DecidableEq, Repr

/-- The state of the score store controller (R59). -/
structure ScoreStore where
  port : FlashPort
  loader : Loader
  hymn : Option Hymn
  marks : MarkReader
  queue : List Mark
  notes : NoteReader
  seek : Option Nat
deriving DecidableEq, Repr

/-! ## The play controller and the cue port (chapter 4) -/

/-- The play states. `starting` stands for "no play state", before full start ends (R202). -/
inductive PlayState where
  | starting | idle | loading | loaded | leading | following | holding | silenced | halted
deriving DecidableEq, Repr

/-- The anchor and target of a join that has started (R76). -/
structure JoinAnchor where
  beat : Nat
  time : Time
  period : Nat
  target : Nat
deriving DecidableEq, Repr

/-- A join request (R75, R76). -/
structure Join where
  hymn : Nat
  anchor : Option JoinAnchor
deriving DecidableEq, Repr

/-- The state of the play controller (R82). `joinLoad` is the hymn of the join request that the load in progress was begun for (R66). `sect` is
none outside play; 0 is the intro, v is verse v. -/
structure PlayController where
  state : PlayState
  pendingStart : Option Time
  join : Option Join
  joinLoad : Option Nat
  barred : Option Nat
  returnState : Option Tempo
  sect : Option Nat
  run : Nat
  leadLock : Bool
deriving DecidableEq, Repr

/-- The state of the cue port (R61 to R63, R82). Bits 0 to 9 of `levels` are the hymn lines, bit 10 START, bit 11 STOP. `runs` counts
for each line the consecutive samples that differ from its level; `early` are the first samples after full start. A press edge not
yet taken stands in `startEdge` or `stopEdge`. -/
structure CuePort where
  levels : BitVec 12
  runs : Vector Nat 12
  early : List (BitVec 12)
  settled : Bool
  sampledAt : Option Time
  changedAt : Time
  lastSent : Nat
  bothHeld : Option Time
  bothSent : Bool
  startEdge : Bool
  stopEdge : Bool
deriving DecidableEq, Repr

/-! ## The gather unit (chapter 5) -/

/-- The source of an observation (R83). -/
inductive Source where
  | own | peer (station : Station)
deriving DecidableEq, Repr

/-- An entry of the observation queue (R83). -/
structure Observation where
  source : Source
  kind : ObsKind
  time : Time
  sequence : BitVec 8
  weight : Nat
deriving DecidableEq, Repr

/-- A peer's beat claim (R87). -/
structure Claim where
  fields : PulseFields
  beatTime : Time
  heard : Time
deriving DecidableEq, Repr

/-- An entry of the peer table (R86). -/
structure Peer where
  present : Bool
  lastHeard : Time
  weight : Nat
  claim : Option Claim
deriving DecidableEq, Repr

/-- A window of time, both ends included (R89). -/
structure Window where
  first : Time
  last : Time
deriving DecidableEq, Repr

/-- An open gather (R89, R91). `gapPrev` is the distance from the previous SUNG position as it stood when the gather opened. -/
structure Gather where
  mark : Nat
  gapPrev : Option Nat
  gapNext : Option Nat
  window : Window
  expiry : Time
  members : List Observation
  sum : Nat
deriving DecidableEq, Repr

/-- A cluster (R98). -/
structure Cluster where
  members : List Observation
  time : Time
deriving DecidableEq, Repr

/-- The taking state (R85): free, or awaiting the follower's acceptance of a close or of a cluster. -/
inductive Taking where
  | free
  | close (gather : Gather)
  | cluster (cluster : Cluster)
deriving DecidableEq, Repr

/-- The state of the gather unit (R102). `closed` is the closed-window record, newest last. -/
structure GatherUnit where
  queue : List Observation
  taking : Taking
  peers : Vector Peer 16
  opens : List Gather
  previousSung : Option Nat
  closed : List Window
  playStart : Time
  pool : List Observation
deriving DecidableEq, Repr

/-! ## The beat follower (chapters 6 and 7) -/

/-- An anchor with its period: the ruling line, or the line of a slot (R103). -/
structure Anchor where
  position : Nat
  time : Time
  period : Nat
deriving DecidableEq, Repr

/-- The tags of a slot that is not EMPTY (R127). -/
inductive Tag where
  | active | provisional | fallback
deriving DecidableEq, Repr

/-- A slot that is not EMPTY (R128). -/
structure Slot where
  tag : Tag
  anchor : Anchor
  pushed : Option Nat
deriving DecidableEq, Repr

/-- The changes of the ruling anchor (R107). -/
inductive Change where
  | close | cluster | beat | hold | release | playBegin | join
deriving DecidableEq, Repr

/-- The watched hold mark and its hold point (R138). -/
structure Watch where
  mark : Nat
  point : Nat
deriving DecidableEq, Repr

/-- The hold record (R139). `due` says that a release is due (R141, R142). -/
structure HoldRecord where
  mark : Nat
  point : Nat
  threshold : Time
  limit : Time
  sum : Nat
  sources : List Source
  due : Bool
deriving DecidableEq, Repr

/-- The state of the beat follower (R126, R146). A slot that is none is EMPTY. -/
structure Follower where
  slots : Vector (Option Slot) 4
  top : Fin 4
  confirmCount : Nat
  nextBeat : Option Nat
  confidence : Nat
  misses : Nat
  broaden : Bool
  overrunPending : Bool
  resyncPending : Bool
  sticky : BitVec 7
  culprit : Option (Station × BitVec 8)
  change : Option Change
  watch : Option Watch
  hold : Option HoldRecord
deriving DecidableEq, Repr

/-! ## The action scheduler (chapter 8) -/

/-- Why an action is HELD (R147). -/
inductive HeldReason where
  | hold | slip
deriving DecidableEq, Repr

/-- The state of an action (R147), an ARMED one with the channel that serves it. -/
inductive ActionState where
  | waiting | armed (channel : ChannelNo) | held (reason : HeldReason)
deriving DecidableEq, Repr

/-- The kind of an action, with its key or stop (R147). -/
inductive ActionKind where
  | noteOn (key : Key) | noteOff (key : Key) | stop (stop : StopNo) (coil : Coil)
deriving DecidableEq, Repr

/-- The pair of an action (R147): absent for a STOP, an entry, or FIRED with the floor time. -/
inductive Pair where
  | absent | entry (entry : EntryNo) | fired (floor : Time)
deriving DecidableEq, Repr

/-- An action of the table (R147). -/
structure Action where
  state : ActionState
  kind : ActionKind
  position : Nat
  lead : Nat
  due : Option Time
  pair : Pair
deriving DecidableEq, Repr

/-- A fire channel (R154). A PULSING channel holds the end of its pulse. -/
inductive Channel where
  | free | waiting (entry : EntryNo) (expiry : Time) | pulsing (ends : Time)
deriving DecidableEq, Repr

/-- The cursor of a re-time pass: at the start, or the play position and entry visited last (R158). -/
inductive Cursor where
  | start | after (position : Nat) (entry : EntryNo)
deriving DecidableEq, Repr

/-- The state of the action scheduler (R167). An entry that is none is FREE. The hold point in force and the slip position are read
from the follower's hold record and stack, which hold them (R162, R163). -/
structure Scheduler where
  table : Vector (Option Action) 64
  channels : Vector Channel 8
  pass : Option Cursor
  barrier : Option Nat
deriving DecidableEq, Repr

/-! ## The output stage (chapter 9) -/

/-- The cutoff input (R172): the pin's level, the debounced state, the count of consecutive samples that differ from it, and the samples
taken before the state is first set. -/
structure Cutoff where
  pin : Bool
  asserted : Bool
  differing : Nat
  early : List Bool
  settled : Bool
  sampledAt : Time
deriving DecidableEq, Repr

/-- The state of the output stage (R181). A coil output holds its release time while it is set. `frame` is the valve port frame being
sent, `sent` the frame sent before it. `pwmTaken` is the position taken at the start of the PWM period,
`pwmStart` that start. -/
structure OutputStage where
  counts : Vector Nat 64
  onCoils : Vector (Option Time) 16
  offCoils : Vector (Option Time) 16
  stopImage : BitVec 16
  frame : Option (BitVec 96)
  sent : Option (BitVec 96)
  frameStart : Time
  mismatchRun : Nat
  mismatchReported : Bool
  cutoff : Cutoff
  swell : Nat
  target : Nat
  pwmTaken : Nat
  pwmStart : Option Time
deriving DecidableEq, Repr

/-! ## The fault unit (chapter 10) -/

/-- The state of the fault unit (R193). `silencing` is the tag of the FAULT frame that silencing in progress names; `nextTag`, the MODEL's
own, is the tag the next FAULT frame takes. -/
structure FaultUnit where
  latches : BitVec 8
  silencing : Option Nat
  nextTag : Nat
deriving DecidableEq, Repr

/-! ## The whole -/

/-- The state of the W24, and the commands that wait to be taken, first in, first out. -/
structure State where
  pending : List Instr
  clock : Clock
  startup : StartUp
  line : LineInterface
  front : FrontEnd
  store : ScoreStore
  play : PlayController
  cue : CuePort
  gather : GatherUnit
  follow : Follower
  sched : Scheduler
  out : OutputStage
  fault : FaultUnit
deriving DecidableEq, Repr

/-- The ways the machine could stop with a fault: none. Every condition the manual calls a fault is a fault channel's latch and reaction,
which are state (R182), so no meaning raises a fault of the machine. -/
inductive Fault where
deriving DecidableEq, Repr

/-- The ways a command could be refused. -/
inductive Refusal where
  /-- Raised by `exec` for a command that has no meaning yet; safe, since the machine stops. No arm raises it. -/
  | notModelled (mnemonic : String)
deriving DecidableEq, Repr

/-! ## Under reset -/

/-- Start-up while the reset input is held (R194). -/
def StartUp.initial : StartUp where
  step := .held
  strap := 0
  config := .defaults
  silencingRecorded := false
  configEnd := 0
  valveCheck := none
  soundCheck := false
  pulsesEnd := 0

/-- The line interface at full start (R21). -/
def LineInterface.initial : LineInterface where
  queue := []
  onLine := none
  transmitter := .joining
  lowReported := false
  quiet := none
  low := false
  high := 0
  joinTime := none
  framing := .waitSync
  markLatch := 0

/-- A block with no sample. -/
def Block.empty : Block := ⟨0, 0, 0⟩

/-- The sound front end at full start (R37). -/
def FrontEnd.initial : FrontEnd where
  block := .empty
  history := []
  window := []
  detector := .quiet
  candidate := none
  peak := 0
  refractory := none
  sequence := 0
  lastSample := 0
  lossReported := false
  portTicks := 0

/-- The flash port at full start (R41). -/
def FlashPort.initial : FlashPort := ⟨none, false, none, none, none, true⟩

/-- An idle mark reader. -/
def MarkReader.initial : MarkReader := ⟨.idle, 0, 0, [], none, 0, false⟩

/-- An idle note reader with the planned stop set all off (R59). -/
def NoteReader.initial : NoteReader := ⟨.idle, 0, 0, [], none, 0, 0, false, false, false, false⟩

/-- The score store controller at full start (R59). -/
def ScoreStore.initial : ScoreStore where
  port := .initial
  loader := .idle
  hymn := none
  marks := .initial
  queue := []
  notes := .initial
  seek := none

/-- The play controller before full start ends (R82, R202). -/
def PlayController.initial : PlayController := ⟨.starting, none, none, none, none, none, none, 0, false⟩

/-- The cue port before its first sample (R61, R82). -/
def CuePort.initial : CuePort where
  levels := 0
  runs := Vector.replicate 12 0
  early := []
  settled := false
  sampledAt := none
  changedAt := 0
  lastSent := 0
  bothHeld := none
  bothSent := false
  startEdge := false
  stopEdge := false

/-- A peer entry at full start: ABSENT, weight 0, no claim (R102). -/
def Peer.absent : Peer := ⟨false, 0, 0, none⟩

/-- The gather unit at full start (R102). -/
def GatherUnit.initial : GatherUnit where
  queue := []
  taking := .free
  peers := Vector.replicate 16 .absent
  opens := []
  previousSung := none
  closed := []
  playStart := 0
  pool := []

/-- The beat follower at full start (R126, R146). -/
def Follower.initial : Follower where
  slots := Vector.replicate 4 none
  top := 0
  confirmCount := 0
  nextBeat := none
  confidence := 0
  misses := 0
  broaden := false
  overrunPending := false
  resyncPending := false
  sticky := 0
  culprit := none
  change := none
  watch := none
  hold := none

/-- The action scheduler at full start (R167). -/
def Scheduler.initial : Scheduler where
  table := Vector.replicate 64 none
  channels := Vector.replicate 8 .free
  pass := none
  barrier := none

/-- The cutoff input before its first sample; the pin's level is the outside's. -/
def Cutoff.initial (pin : Bool) : Cutoff := ⟨pin, false, 0, [], false, 0⟩

/-- The output stage at full start (R181). -/
def OutputStage.initial (pin : Bool) : OutputStage where
  counts := Vector.replicate 64 0
  onCoils := Vector.replicate 16 none
  offCoils := Vector.replicate 16 none
  stopImage := 0
  frame := none
  sent := none
  frameStart := 0
  mismatchRun := 0
  mismatchReported := false
  cutoff := .initial pin
  swell := 0
  target := 0
  pwmTaken := 0
  pwmStart := none

/-- The fault unit at full start (R193). -/
def FaultUnit.initial : FaultUnit := ⟨0, none, 0⟩

/-- The machine under reset: the reset input held, every block as full start sets it, no command waiting (R194). -/
def State.reset : State where
  pending := []
  clock := ⟨0, 0, 0⟩
  startup := .initial
  line := .initial
  front := .initial
  store := .initial
  play := .initial
  cue := .initial
  gather := .initial
  follow := .initial
  sched := .initial
  out := .initial false
  fault := .initial

end Sys2Proof.Machine
end

