-- ==== Sys2Proof/Machine/Operands.lean ====
section
/-! DEFINITION. Machine/Operands.lean: the byte layouts of chapter 12: the check, the line frames and the bits they are sent as, the
configuration section, the directory, the hymn record and the stream records. -/

namespace Sys2Proof.Machine

/-! ## The check and byte order (R204) -/

/-- One shift of the check register (R204). -/
def crcShift (reg : BitVec 16) : BitVec 16 :=
  if reg.msb then (reg <<< 1) ^^^ 0x1021#16 else reg <<< 1

/-- The check register after one byte (R204). -/
def crcByte (reg : BitVec 16) (b : Byte) : BitVec 16 :=
  Nat.repeat crcShift 8 (reg ^^^ (b.setWidth 16 <<< 8))

/-- The check of a run of bytes (R204). -/
def crc (bytes : List Byte) : BitVec 16 := bytes.foldl crcByte 0xFFFF#16

/-- A check as it is stored or sent, high byte first (R204). -/
def crcBytes (c : BitVec 16) : List Byte := [(c >>> 8).setWidth 8, c.setWidth 8]

/-- Whether a run of bytes ends with the check of the bytes before it (R204). -/
def checked (bytes : List Byte) : Bool :=
  2 ≤ bytes.length && bytes.drop (bytes.length - 2) == crcBytes (crc (bytes.take (bytes.length - 2)))

/-- The number that bytes give, low byte first (R204). -/
def leNat : List Byte → Nat
  | [] => 0
  | b :: bs => b.toNat + 256 * leNat bs

/-- A number as `width` bytes, low byte first (R204). -/
def leBytes : Nat → Nat → List Byte
  | 0, _ => []
  | width + 1, n => BitVec.ofNat 8 n :: leBytes width (n / 256)

/-- The field of `width` bytes at an offset (chapter 12's tables). -/
def field (bytes : List Byte) (offset width : Nat) : Nat := leNat ((bytes.drop offset).take width)

/-! ## Line frames (R3, R18, R204, R205) -/

/-- A frame as it stands on the line: its sender, what it says, and its age, 0 for the kinds that carry none. -/
structure WireFrame where
  sender : Station
  body : FrameBody
  age : Nat
deriving DecidableEq, Repr

/-- What the receive framing makes of the bytes it read (R18): not well-formed; well-formed and not valid; valid. -/
inductive Judgement where
  | malformed
  | invalid
  | valid (frame : WireFrame)
deriving DecidableEq, Repr

/-- The kind code of a frame (chapter 12). -/
def FrameBody.kind : FrameBody → Nat
  | .heard .. => 1
  | .pulse .. => 2
  | .cue .. => 3
  | .halt => 4
  | .fault .. => 5

/-- The event code of a HEARD frame. -/
def ObsKind.code : ObsKind → Byte
  | .onset => 0
  | .release => 1

/-- The cue code of a CUE frame. -/
def Cue.code : Cue → Byte
  | .select => 1
  | .start => 2
  | .stop => 3
  | .restart => 4

/-- The reaction code of a FAULT frame (R183). -/
def Reaction.code : Reaction → Byte
  | .report => 0
  | .lead => 1
  | .silence => 2

/-- The play state code of a PULSE frame. -/
def Tempo.code : Tempo → Nat
  | .leading => 1
  | .following => 2

/-- A culprit station, 255 for none. -/
def culpritByte : Option Station → Byte
  | none => 255
  | some p => BitVec.ofNat 8 p.val

/-- The flags byte of a PULSE frame, 0 in bits 5 to 7 (R205). -/
def PulseFields.flags (f : PulseFields) : Byte :=
  BitVec.ofNat 8 (bitsToNat [f.resync, f.listening, f.leadLock, f.fault, f.summary])

/-- The payload of a frame (chapter 12). -/
def FrameBody.payload (age : Nat) : FrameBody → List Byte
  | .heard event sequence strength => event.code :: sequence :: (leBytes 2 age ++ [BitVec.ofNat 8 strength])
  | .pulse f =>
    leBytes 2 f.hymn ++ leBytes 2 f.beat ++ leBytes 2 age ++ leBytes 2 f.period ++
      [BitVec.ofNat 8 (f.confidence + 16 * f.tempo.code), BitVec.ofNat 8 f.level, f.flags, culpritByte f.culprit]
  | .cue c hymn => c.code :: leBytes 2 hymn
  | .halt => [0]
  | .fault ch reaction culprit sequence =>
    [BitVec.ofNat 8 ch.val, reaction.code, culpritByte culprit, sequence]

/-- The bytes of a frame, from the kind and sender byte to the check (R3, R204, R205). -/
def encodeFrame (w : WireFrame) : List Byte :=
  let payload := w.body.payload w.age
  let covered := BitVec.ofNat 8 (w.sender.val + 16 * w.body.kind) :: BitVec.ofNat 8 payload.length :: payload
  covered ++ crcBytes (crc covered)

/-- A culprit station byte: 255 for none, 0 to 15 for a station, anything else out of range (R18). -/
def decodeCulprit (b : Byte) : Option (Option Station) :=
  if b = 255 then some none else if h : b.toNat < 16 then some (some ⟨b.toNat, h⟩) else none

/-- The payload of a HEARD frame (R18, R205). -/
def decodeHeard : List Byte → Option (FrameBody × Nat)
  | [event, sequence, a0, a1, strength] =>
    let age := leNat [a0, a1]
    if event = 0 then some (.heard .onset sequence strength.toNat, age)
    else if event = 1 then some (.heard .release sequence strength.toNat, age)
    else none
  | _ => none

/-- A play state code (R205). -/
def decodeTempo (code : Nat) : Option Tempo :=
  if code = 1 then some .leading else if code = 2 then some .following else none

/-- The payload of a PULSE frame (R18, R205). Bits 5 to 7 of the flags are ignored. -/
def decodePulse : List Byte → Option (FrameBody × Nat)
  | [h0, h1, b0, b1, a0, a1, p0, p1, cs, level, flags, cu] =>
    match decodeTempo (cs.toNat / 16), decodeCulprit cu with
    | some tempo, some culprit =>
      let hymn := leNat [h0, h1]
      let period := leNat [p0, p1]
      if hymn ≤ 1023 ∧ 2000 ≤ period ∧ period ≤ 24000 then
        some (.pulse
          { hymn := hymn, beat := leNat [b0, b1], period := period, confidence := cs.toNat % 16, tempo := tempo,
            level := level.toNat, resync := flags.getLsbD 0, listening := flags.getLsbD 1, leadLock := flags.getLsbD 2,
            fault := flags.getLsbD 3, summary := flags.getLsbD 4, culprit := culprit }, leNat [a0, a1])
      else none
    | _, _ => none
  | _ => none

/-- A cue code (R205). -/
def decodeCue (b : Byte) : Option Cue :=
  if b = 1 then some .select else if b = 2 then some .start else if b = 3 then some .stop
  else if b = 4 then some .restart else none

/-- The payload of a CUE frame (R18, R205). -/
def decodeCueFrame : List Byte → Option (FrameBody × Nat)
  | [c, h0, h1] =>
    match decodeCue c with
    | some cue => if leNat [h0, h1] ≤ 1023 then some (.cue cue (leNat [h0, h1]), 0) else none
    | none => none
  | _ => none

/-- The payload of a HALT frame (R18, R205). -/
def decodeHalt : List Byte → Option (FrameBody × Nat)
  | [cause] => if cause = 0 then some (.halt, 0) else none
  | _ => none

/-- A reaction code (R183, R205). -/
def decodeReaction (b : Byte) : Option Reaction :=
  if b = 0 then some .report else if b = 1 then some .lead else if b = 2 then some .silence else none

/-- The payload of a FAULT frame (R18, R205). -/
def decodeFault : List Byte → Option (FrameBody × Nat)
  | [channel, reaction, culprit, sequence] =>
    match decodeReaction reaction, decodeCulprit culprit with
    | some r, some c => if h : channel.toNat < 8 then some (.fault ⟨channel.toNat, h⟩ r c sequence, 0) else none
    | _, _ => none
  | _ => none

/-- The payload of a well-formed frame of the kind given; none when the frame is not valid (R18). -/
def decodeBody (kind : Nat) (payload : List Byte) : Option (FrameBody × Nat) :=
  if kind = 1 then decodeHeard payload
  else if kind = 2 then decodePulse payload
  else if kind = 3 then decodeCueFrame payload
  else if kind = 4 then decodeHalt payload
  else if kind = 5 then decodeFault payload
  else none

/-- What the receive framing makes of the bytes of a frame (R18). -/
def judgeFrame : List Byte → Judgement
  | kindSender :: len :: rest =>
    if 12 < len.toNat then .malformed
    else if rest.length ≠ len.toNat + 2 then .malformed
    else if checked (kindSender :: len :: rest) = false then .malformed
    else
      match decodeBody (kindSender.toNat / 16) (rest.take len.toNat) with
      | none => .invalid
      | some (body, age) => .valid ⟨⟨kindSender.toNat % 16, Nat.mod_lt _ (by decide)⟩, body, age⟩
  | _ => .malformed

/-- The bits of one byte on the line: a start bit 0, the data least significant bit first, a stop bit 1 (R3). -/
def byteBits (b : Byte) : List Bool := false :: ((List.range 8).map b.getLsbD ++ [true])

/-- The bits of a frame on the line from the first bit time of its sync mark: 12 low, 1 high, then the bytes (R3). -/
def frameBits (bytes : List Byte) : List Bool :=
  List.replicate 12 false ++ true :: bytes.flatMap byteBits

/-- The high bit times in which bits on the line end (R12). -/
def highRun (bits : List Bool) : Nat := (bits.reverse.takeWhile id).length

/-- The high bit times with which the last byte of a frame ends on the line: its stop bit and the data bits of 1 before it (R3, R12). -/
def highTail (bytes : List Byte) : Nat := highRun (bytes.flatMap byteBits)

/-! ## The flash port (R40, R204) -/

/-- The bytes sent to the flash for a read: the read command and the address, most significant byte first (R40, R204). R206 leaves an address
past the last of the store untested and does not say what is sent for it: the three bytes then carry the low 24 bits (log 43, DESIGN CHOICE). -/
def FlashRead.command (r : FlashRead) : List Byte := 0x03#8 :: (leBytes 3 r.address).reverse

/-! ## The configuration section (R196, R197) -/

/-- Zones 1 onward merged into the last zone kept, whose lower bound is `last` (R197). -/
def mergeAfter (last : Nat) : List Zone → List Zone
  | [] => []
  | z :: zs => if last < z.lower then z :: mergeAfter z.lower zs else mergeAfter last zs

/-- The zones put in order (R197). -/
def mergeZones : List Zone → List Zone
  | [] => []
  | z :: zs => z :: mergeAfter z.lower zs

/-- A reaction code of the section; above 2 it is the channel's default (R196). -/
def sectionReaction (bytes : List Byte) (ch : FaultNo) : Reaction :=
  match field bytes (46 + ch.val) 1 with
  | 0 => .report
  | 1 => .lead
  | 2 => .silence
  | _ => defaultReaction ch

/-- The division byte: 0 to 7, 255 for NONE; any other byte becomes NONE (R197). -/
def sectionDivision (bytes : List Byte) : Option (Fin 8) :=
  if h : field bytes 0 1 < 8 then some ⟨field bytes 0 1, h⟩ else none

/-- Whether the division byte is neither 0 to 7 nor 255, which raises CONFIG (R197). -/
def sectionDivisionBad (bytes : List Byte) : Bool := 8 ≤ field bytes 0 1 && field bytes 0 1 != 255

/-- The zones of the section as read, each item clamped (R196). -/
def sectionZones (bytes : List Byte) : List Zone :=
  (List.range 8).map fun i => ⟨clampNat 0 63 (field bytes (8 + 3 * i) 1), clampNat 0 2000 (field bytes (9 + 3 * i) 2)⟩

/-- The configuration record of a section whose check matches (R196, R197). -/
def parseSection (bytes : List Byte) : Configuration where
  division := sectionDivision bytes
  listen := (BitVec.ofNat 8 (field bytes 1 1)).getLsbD 0
  play := (BitVec.ofNat 8 (field bytes 1 1)).getLsbD 1
  pickupDelay := clampNat 0 1000 (field bytes 2 2)
  chamberDelay := clampNat 0 4000 (field bytes 4 2)
  bias := clampInt (-500) 500 (BitVec.ofNat 16 (field bytes 6 2)).toInt
  zones := mergeZones (sectionZones bytes)
  offTrim := clampNat 0 500 (field bytes 32 2)
  articulation := clampNat 0 6 (field bytes 34 1)
  lateLimit := clampNat 0 1000 (field bytes 35 2)
  kp := clampNat 0 16 (field bytes 37 1)
  ki := clampNat 0 64 (field bytes 38 1)
  kc := clampNat 0 16 (field bytes 39 1)
  windowFactor := clampNat 2 8 (field bytes 40 1)
  quorum := clampNat 1 60 (field bytes 41 1)
  selfWeight := clampNat 0 15 (field bytes 42 1)
  peerDefault := clampNat 0 15 (field bytes 43 1)
  weightMax := clampNat 1 15 (field bytes 44 1)
  masks := BitVec.ofNat 7 (field bytes 45 1)
  reactions := Vector.ofFn (sectionReaction bytes)
  attnEnables := BitVec.ofNat 8 (field bytes 54 1)
  onsetFloor := clampNat 0 32767 (field bytes 55 2)
  onsetRatio := clampNat 20 64 (field bytes 57 1)
  persistence := clampNat 1 3 (field bytes 58 1)
  refractory := clampNat 500 3000 (field bytes 59 2)
  releaseRatio := clampNat 2 8 (field bytes 61 1)
  swellRest := clampNat 0 255 (field bytes 62 1)
  stopPulse := clampNat 300 2500 (field bytes 63 2)
  stopLead := clampNat 0 3000 (field bytes 65 2)

/-! ## The directory and the hymn record (R43 to R45, R206) -/

/-- A directory entry: hymn number, record address, record length. -/
structure DirectoryEntry where
  hymn : Nat
  address : Nat
  length : Nat
deriving DecidableEq, Repr

/-- The fields of a directory entry. -/
def parseEntry (bytes : List Byte) : DirectoryEntry := ⟨field bytes 0 2, field bytes 2 3, field bytes 5 3⟩

/-- The fields of a hymn header. -/
def parseHeader (bytes : List Byte) : Header where
  number := field bytes 0 2
  period := field bytes 2 2
  length := field bytes 4 2
  verses := field bytes 6 1
  introFirst := field bytes 7 2
  introLast := field bytes 9 2
  gap := field bytes 11 1
  marks := ⟨field bytes 12 3, field bytes 15 2⟩
  notes := Vector.ofFn fun i : Fin 8 => ⟨field bytes (17 + 5 * i.val) 3, field bytes (20 + 5 * i.val) 2⟩

/-- The bytes a stream's blocks occupy, with records of `size` bytes (R206). -/
def StreamRef.space (size : Nat) (r : StreamRef) : Nat := r.count * size + 2 * ((r.count + 15) / 16)

/-- Whether a stream lies within its record (R44). -/
def StreamRef.fits (size recordLength : Nat) (r : StreamRef) : Bool := r.offset + r.space size ≤ recordLength

/-- Whether a header's fields are in range and its streams lie within the record (R44). -/
def Header.inRange (h : Header) (hymn recordLength : Nat) : Bool :=
  h.number == hymn && 2000 ≤ h.period && h.period ≤ 24000 && 1 ≤ h.length && h.length ≤ 512 && 1 ≤ h.verses && h.verses ≤ 8 &&
    h.introFirst ≤ h.introLast && h.introLast < h.length && h.gap ≤ 16 && h.marks.fits 4 recordLength &&
    h.notes.toList.all (StreamRef.fits 5 recordLength)

/-- One entry of the verse plan; none when it is out of range (R45, R206). -/
def parsePlanEntry (bytes : List Byte) : Option PlanEntry :=
  let mode :=
    match field bytes 17 1 with
    | 0 => some SwellMode.fixed
    | 1 => some SwellMode.quick
    | 2 => some SwellMode.steady
    | 3 => some SwellMode.slow
    | _ => none
  match mode with
  | none => none
  | some m =>
    if field bytes 0 1 < 32 && field bytes 18 1 ≤ field bytes 19 1 && 12 ≤ field bytes 20 1 && field bytes 20 1 ≤ 24 then
      some
        { voices := BitVec.ofNat 5 (field bytes 0 1)
          stops := Vector.ofFn fun d : Fin 8 => BitVec.ofNat 16 (field bytes (1 + 2 * d.val) 2)
          mode := m
          floor := field bytes 18 1
          ceiling := field bytes 19 1
          scale := field bytes 20 1 }
    else none

/-- The verse plan of `verses` entries; none when its check or an entry fails (R45). -/
def parsePlan (verses : Nat) (bytes : List Byte) : Option (List PlanEntry) :=
  if checked bytes then (List.range verses).mapM fun i => parsePlanEntry ((bytes.drop (21 * i)).take 21) else none

/-- The records of a block, each of `size` bytes, as numbers (R206). -/
def blockWords (size : Nat) (bytes : List Byte) : List Nat :=
  (List.range ((bytes.length - 2) / size)).map fun i => field bytes (size * i) size

/-- The fields of a mark record (R206). -/
def parseMark (n : Nat) : MarkRecord :=
  let w := BitVec.ofNat 32 n
  { beat := (w.extractLsb' 0 9).toNat
    sub := (w.extractLsb' 9 5).toNat
    sung := w.getLsbD 14
    hold := w.getLsbD 15
    broaden := w.getLsbD 16
    holdOffset := (w.extractLsb' 17 8).toNat
    holdBeats := (w.extractLsb' 25 4).toNat }

/-- The fields of a note record (R206). -/
def parseNote (n : Nat) : NoteRecord :=
  let w := BitVec.ofNat 40 n
  { beat := (w.extractLsb' 0 9).toNat
    sub := (w.extractLsb' 9 5).toNat
    length := (w.extractLsb' 14 12).toNat
    key := (w.extractLsb' 26 6).toFin
    voice := (w.extractLsb' 32 3).toNat }

end Sys2Proof.Machine
end

