-- ==== Sys2Proof/Machine/Flags.lean ====
section
/-! DEFINITION. Machine/Flags.lean: what is read from the state and not held twice: the ruling line and its predictions, the places of a
hymn, the flags of a PULSE frame, the slip position and the hold point in force, and the levels at the output pins. -/

namespace Sys2Proof.Machine

/-! ## Play positions (R42) -/

/-- Beats of the intro. -/
def Header.introBeats (h : Header) : Nat := h.introLast - h.introFirst + 1

/-- I_v, the first play beat of verse v (R42). -/
def Header.verseStart (h : Header) (v : Nat) : Nat := h.introBeats + h.gap + (v - 1) * (h.length + h.gap)

/-- The first play beat of a section: 0 for the intro (section 0), the first gap beat before it for verse v (R42). -/
def Header.sectionStart (h : Header) (v : Nat) : Nat := if v = 0 then 0 else h.verseStart v - h.gap

/-- The play beat at which the hymn ends (R42). -/
def Header.endBeat (h : Header) : Nat := h.verseStart h.verses + h.length

/-- The play position of the hymn's end (R55). -/
def Header.endPosition (h : Header) : Nat := 24 * h.endBeat

/-- The play position of a record in a pass of the stream (R42). -/
def Header.place (h : Header) (sect beat sub : Nat) : Nat :=
  if sect = 0 then 24 * (beat - h.introFirst) + sub else 24 * (h.verseStart sect + beat) + sub

/-- The first of verses `v` to the last whose music ends after play beat `j`, trying `fuel` verses; the last verse if none is found. -/
def Header.verseOf (h : Header) (j : Nat) : Nat → Nat → Nat
  | 0, v => v
  | fuel + 1, v => if j < h.verseStart v + h.length ∨ h.verses ≤ v then v else h.verseOf j fuel (v + 1)

/-- The section a seek to play beat `j` finds: the intro, the verse whose music holds `j`, or for a gap beat the following verse (R56). -/
def Header.sectionOf (h : Header) (j : Nat) : Nat := if j < h.introBeats then 0 else h.verseOf j 8 1

/-- The least ruling period of the hymn (R106). -/
def Header.minPeriod (h : Header) : Nat := max 2000 (h.period * 3 / 4)

/-- The greatest ruling period of the hymn (R106). -/
def Header.maxPeriod (h : Header) : Nat := min 24000 (h.period * 3 / 2)

/-- A period clamped to the hymn's limits (R106). -/
def Header.clampPeriod (h : Header) (p : Int) : Nat := (clampInt h.minPeriod h.maxPeriod p).toNat

/-- The verse plan entry that governs a section; the intro is played under verse 1's (R42). -/
def Hymn.planOf (hymn : Hymn) (sect : Nat) : Option PlanEntry := hymn.plan[sect - 1]?

/-! ## The line of an anchor (R104, R105) -/

/-- T(s), the predicted time of a play position (R104). -/
def Anchor.timeOf (a : Anchor) (position : Nat) : Time :=
  addTicks a.time (roundDiv (((position : Int) - a.position) * a.period) 24)

/-- The position of the line at `now` (R105). -/
def Anchor.positionAt (a : Anchor) (now : Time) : Int := a.position + (since now a.time * 24) / a.period

/-- W_s, the half-width of a window under a period, each term whose neighbour is missing left out (R89). -/
def halfWidth (period factor : Nat) (gapPrev gapNext : Option Nat) : Nat :=
  let own := period * factor / 16
  let term (gap : Option Nat) (w : Nat) : Nat :=
    match gap with
    | none => w
    | some g => min w (g * period / 48)
  term gapNext (term gapPrev own)

/-! ## What the state shows -/

/-- The configuration record. -/
abbrev State.cfg (s : State) : Configuration := s.startup.config

/-- The station time counter now (R1). -/
abbrev State.now (s : State) : Time := s.clock.time

/-- Whether the reset input is released (R194). -/
def State.running (s : State) : Bool := s.startup.step != .held

/-- Whether the configuration read has ended (R195). -/
def State.configured (s : State) : Bool :=
  match s.startup.step with
  | .held | .straps | .read => false
  | .checks | .pulses | .joining | .done => true

/-- Whether the play state is LEADING or FOLLOWING. -/
def State.moving (s : State) : Bool :=
  match s.play.state with
  | .leading | .following => true
  | _ => false

/-- Whether the play state is LEADING, FOLLOWING or HOLDING. -/
def State.inPlay (s : State) : Bool := s.moving || s.play.state == .holding

/-- Whether the play state is HALTED. -/
def State.isHalted (s : State) : Bool := s.play.state == .halted

/-- Whether the sound front end is active (R22, R36). -/
def State.listening (s : State) : Bool := s.configured && s.cfg.listen && !s.isHalted

/-- The ruling line, when there is one (R103). -/
def State.ruling (s : State) : Option Anchor := (s.follow.slots[s.follow.top]).map (·.anchor)

/-- The ruling line for reading; the value outside play is not read (R103). -/
def State.anchor (s : State) : Anchor := s.ruling.getD ⟨0, 0, 0⟩

/-- T(s) under the ruling line (R104). -/
def State.timeOf (s : State) (position : Nat) : Time := s.anchor.timeOf position

/-- The ruling period. -/
def State.period (s : State) : Nat := s.anchor.period

/-- The hold point in force, H while HOLDING (R162). -/
def State.holdPoint (s : State) : Option Nat := s.follow.hold.map (·.point)

/-- The ruling position now; in HOLDING the hold point (R105). -/
def State.position (s : State) : Int :=
  match s.play.state, s.holdPoint with
  | .holding, some h => h
  | _, _ => s.anchor.positionAt s.now

/-- Whether the TOP slot is PROVISIONAL (R127). -/
def State.provisional (s : State) : Bool :=
  match s.follow.slots[s.follow.top] with
  | some slot => slot.tag == .provisional
  | none => false

/-- The slip position: the pushed position of a PROVISIONAL TOP (R163). -/
def State.slipPosition (s : State) : Option Nat :=
  match s.follow.slots[s.follow.top] with
  | some slot => if slot.tag = .provisional then slot.pushed else none
  | none => none

/-- The loaded hymn number of the play controller: a number once the load has completed (R60). -/
def State.loadedNumber (s : State) : Option Nat :=
  if s.store.loader = .idle then s.store.hymn.map (·.header.number) else none

/-- The header of the hymn the readers run through. -/
def State.header (s : State) : Option Header := s.store.hymn.map (·.header)

/-- A period clamped to the loaded hymn's limits (R106). -/
def State.clampPeriod (s : State) (p : Int) : Nat :=
  match s.header with
  | some h => h.clampPeriod p
  | none => p.toNat

/-- The verse plan entry of the current section (R71, R177). -/
def State.plan (s : State) : Option PlanEntry :=
  match s.store.hymn, s.play.sect with
  | some hymn, some v => hymn.planOf v
  | _, _ => none

/-- The division whose stream the note reader reads; none when the reader is inactive (R52). -/
def State.readDivision (s : State) : Option (Fin 8) := if s.cfg.play then s.cfg.division else none

/-- The note reader's horizon (R52). -/
def State.horizon (s : State) : Int :=
  if s.inPlay then s.position + Config.horizonSu else s.store.notes.start + Config.horizonSu

/-- The station number a source is named by; own members take the own number (R123). -/
def State.stationOf (s : State) : Source → Station
  | .own => s.startup.strap
  | .peer p => p

/-- The debounced hymn number (R61). -/
def CuePort.number (c : CuePort) : Nat := (c.levels.extractLsb' 0 10).toNat

/-- Whether a button's debounced level is pressed (R61). -/
def CuePort.pressed (c : CuePort) : Button → Bool
  | .start => c.levels.getLsbD 10
  | .stop => c.levels.getLsbD 11

/-- The choir level the front end offers, when its window is full (R31); absent in HALTED and without LISTEN (R36). -/
def State.ownLevel (s : State) : Option Nat :=
  if s.listening && s.front.window.length == Config.windowLength then
    some (min 255 (s.front.window.sum / 32 / 32))
  else none

/-- The bit of a fault channel. -/
def channelBit (ch : FaultNo) : BitVec 8 := 1#8 <<< ch.val

/-- Whether a fault channel's latch is set (R184). -/
def State.latched (s : State) (ch : FaultNo) : Bool := s.fault.latches.getLsbD ch.val

/-- The ATTN output (R192). -/
def State.attn (s : State) : Bool :=
  s.running && (s.isHalted || (s.configured && (s.fault.latches &&& s.cfg.attnEnables) != 0))

/-- SUMMARY: a sticky flag whose exception is unmasked is set (R122). -/
def State.summary (s : State) : Bool := (s.follow.sticky &&& ~~~s.cfg.masks) != 0

/-! ## The outputs (chapter 9) -/

/-- Whether the keys may sound: the cutoff state is not asserted and the play state is neither SILENCED nor HALTED (R169). -/
def State.keysLive (s : State) : Bool :=
  !s.out.cutoff.asserted && s.play.state != .silenced && s.play.state != .halted

/-- The keys of the valve image, key k in bit k (R169). -/
def State.keyImage (s : State) : BitVec 64 :=
  BitVec.ofNat 64 (bitsToNat (s.out.counts.toList.map fun n => s.keysLive && decide (0 < n)))

/-- A row of sixteen coils of the valve image, stop i in bit i (R169). -/
def coilImage (live : Bool) (coils : Vector (Option Time) 16) : BitVec 16 :=
  BitVec.ofNat 16 (bitsToNat (coils.toList.map fun c => live && c.isSome))

/-- The valve image as the 96 bits of a frame, bit 95 clocked out first: off-coils 15 to 0, on-coils 15 to 0, keys 63 to 0
(R169, R170). -/
def State.valveImage (s : State) : BitVec 96 :=
  (coilImage (!s.out.cutoff.asserted) s.out.offCoils ++ coilImage (!s.out.cutoff.asserted) s.out.onCoils) ++ s.keyImage

/-- The output enable line as the logic drives it (R170, R181, R194). R181 has it on after the reset, on a station with PLAY; until the
configuration read ends the role is not known, and the model then has it off (log 47, DESIGN CHOICE). -/
def State.logicEnable (s : State) : Bool := s.running && s.cfg.play && !s.isHalted

/-- The output enable line at the pin: the hardware path forces it off while the cutoff pin is asserted (R172). -/
def State.outputEnable (s : State) : Bool := s.logicEnable && !s.out.cutoff.pin

/-- The high time of a PWM period, in ticks (R176). -/
def pwmHighTicks (position : Nat) : Nat := (roundDiv (position * Config.pwmTicks) 255).toNat

/-- The level at the swell output (R176): low in HALTED and before the configuration read completes. -/
def State.swellPin (s : State) : Bool :=
  match s.out.pwmStart with
  | none => false
  | some t => s.configured && !s.isHalted && decide (since s.now t < pwmHighTicks s.out.pwmTaken)

/-- The bytes of a frame of the station's own on the line, with the age 0 until the mark gives it (R3, R13). -/
def State.ownBytes (s : State) (f : LineFrame) : List Byte :=
  encodeFrame ⟨s.startup.strap, f.frame.body, match f.age with | some a => a.toNat | none => 0⟩

/-- The bits the frame on the line is sent as (R3). -/
def State.sentBits (s : State) : List Bool :=
  match s.line.onLine with
  | none => []
  | some f => frameBits (s.ownBytes f)

/-- A free value of the model's own counter, and the state with the counter moved on. -/
def State.takeFree (s : State) : Nat × State := (s.clock.opened, { s with clock := { s.clock with opened := s.clock.opened + 1 } })

end Sys2Proof.Machine
end

