-- ==== Sys2Proof/Machine/Ops.lean ====
section
/-! DEFINITION. Machine/Ops.lean: the operations that more than one block uses: a command's outcome, the transmit queue, the emptyings, the
entries to SILENCED and HALTED, the raising of a fault channel, the follower exceptions, the peer table and the observation queue. -/

namespace Sys2Proof.Machine

/-- The outcome of a command: its effect when the event it names can happen in this state, and otherwise the state as it was, since
there is then no such event (log 2). -/
def act (s : State) (due : Bool) (t : State) : Host.Outcome State Fault Refusal := .next (if due then t else s)

/-! ## The transmit queue (R9, R15, R16) -/

/-- Whether a queued frame is a HEARD. -/
def QueuedFrame.isHeard (f : QueuedFrame) : Bool := f.body.kind == 1

/-- Whether a queued frame is a PULSE. -/
def QueuedFrame.isPulse (f : QueuedFrame) : Bool := f.body.kind == 2

/-- Whether a queued frame is a HALT. -/
def QueuedFrame.isHalt (f : QueuedFrame) : Bool := f.body.kind == 4

/-- Whether a queued frame is a FAULT. -/
def QueuedFrame.isFault (f : QueuedFrame) : Bool := f.body.kind == 5

/-- The queue with room for one frame: the oldest HEARD displaced from a full queue, else the PULSE, else no room (R16). -/
def makeRoom (q : List QueuedFrame) : Option (List QueuedFrame) :=
  if q.length < Config.queueCapacity then some q
  else if q.any QueuedFrame.isHeard then some (q.eraseP QueuedFrame.isHeard)
  else if q.any QueuedFrame.isPulse then some (q.eraseP QueuedFrame.isPulse)
  else none

/-- The queue after a frame is offered, and whether the frame was taken in (a merged HALT is) (R15, R16). -/
def enqueue (q : List QueuedFrame) (f : QueuedFrame) : List QueuedFrame × Bool :=
  if f.isHalt then
    if q.any QueuedFrame.isHalt then (q, true)
    else
      match makeRoom q with
      | some r => (f :: r, true)
      | none => (q, false)
  else
    let rest := if f.isPulse then q.filter (fun g => !g.isPulse) else q
    match makeRoom rest with
    | some r => (r ++ [f], true)
    | none => (rest, false)

/-- The place of a frame returning from a clash: the head, or directly behind a HALT at the head (R9). -/
def putFirst (f : QueuedFrame) : List QueuedFrame → List QueuedFrame
  | [] => [f]
  | g :: gs => if g.isHalt then g :: f :: gs else f :: g :: gs

/-- The queue after a frame returns from a clash, and whether it came back into the queue (R9, R15, R16). -/
def requeue (q : List QueuedFrame) (f : QueuedFrame) : List QueuedFrame × Bool :=
  if (f.isPulse && q.any QueuedFrame.isPulse) || (f.isHalt && q.any QueuedFrame.isHalt) then (q, false)
  else
    match makeRoom q with
    | some r => (putFirst f r, true)
    | none => (q, false)

/-- A frame offered to the transmit queue. A HALTED station queues no frame (R21). -/
def offerFrame (body : FrameBody) (eventTime : Time) (s : State) : State :=
  if s.isHalted then s
  else { s with line.queue := (enqueue s.line.queue ⟨body, eventTime, 0, 0⟩).1 }

/-- The report that a FAULT frame has left the line interface, which ends silencing in progress when it names that frame (R17, R188). -/
def faultFrameLeft (f : QueuedFrame) (s : State) : State :=
  if f.isFault && s.fault.silencing == some f.tag then { s with fault.silencing := none } else s

/-! ## Emptying the blocks -/

/-- The gather unit emptied; the peer table and the play start time are kept (R102). -/
def emptyGather (g : GatherUnit) : GatherUnit :=
  { g with queue := [], taking := .free, opens := [], previousSung := none, closed := [], pool := [] }

/-- The beat follower emptied; the sticky flags and the culprit are kept (R68, R79, R126, R145, R146). -/
def emptyFollower (f : Follower) : Follower := { Follower.initial with sticky := f.sticky, culprit := f.culprit }

/-- Every coil output released (R174). -/
def releaseCoils (o : OutputStage) : OutputStage :=
  { o with onCoils := Vector.replicate 16 none, offCoils := Vector.replicate 16 none }

/-- The action table and the channels freed without firing, every hold count 0 and every coil output released (R166, R168, R174). -/
def emptyUnfired (s : State) : State :=
  { s with sched := .initial, out := { releaseCoils s.out with counts := Vector.replicate 64 0 } }

/-- Whether an entry is a NOTE_OFF of a key whose NOTE_ON has fired (R155). -/
def isFiredOff (key : Key) : Option Action → Bool
  | some a =>
    match a.kind, a.pair with
    | .noteOff k, .fired _ => k == key
    | _, _ => false
  | none => false

/-- The NOTE_OFFs of a key in the table whose NOTE_ON has fired (R155). -/
def firedOffs (table : Vector (Option Action) 64) (key : Key) : Nat := table.toList.countP (isFiredOff key)

/-- The table emptied with firing: every NOTE_OFF whose pair is FIRED lowers its key's count, everything else is freed, every pulse is
cut (R165). -/
def emptyFired (s : State) : State :=
  { s with
    sched := .initial
    out := { releaseCoils s.out with counts := Vector.ofFn fun k => s.out.counts[k] - firedOffs s.sched.table k } }

/-- Whether a read was asked for by the loader (R40). -/
def FlashRead.ofLoader (r : FlashRead) : Bool :=
  match r.unit with
  | .directoryCount | .directoryEntry | .header | .plan => true
  | _ => false

/-- Every operation of the loader and the readers abandoned: waiting requests withdrawn, a read in flight to be discarded (R41). -/
def FlashPort.abandonAll (p : FlashPort) : FlashPort :=
  { p with abandoned := p.serving.isSome, loaderWaits := none, markWaits := none, noteWaits := none }

/-- The score store controller on entry to SILENCED: a load or seek abandoned, the readers stopped, the mark queue empty; the loaded hymn
is kept unless a load was in progress (R59). -/
def silenceStore (c : ScoreStore) : ScoreStore :=
  { c with
    port := c.port.abandonAll
    loader := .idle
    hymn := if c.loader = .idle then c.hymn else none
    marks := { c.marks with phase := .stopped, buffer := [] }
    queue := []
    notes := { c.notes with phase := .stopped, buffer := [], inHand := false }
    seek := none }

/-- The play controller as every entry that ends play leaves it, in the state given; the barred join hymn is kept (R82). -/
def PlayController.rest (p : PlayController) (st : PlayState) : PlayController :=
  { p with
    state := st, pendingStart := none, join := none, joinLoad := none, returnState := none, sect := none, run := 0, leadLock := false }

/-- Entry to SILENCED (R79). The swell stands where it is; latches, transmit queue and peer table are kept. -/
def enterSilenced (s : State) : State :=
  { emptyUnfired s with
    play := s.play.rest .silenced
    store := silenceStore s.store
    gather := emptyGather s.gather
    follow := emptyFollower s.follow }

/-- A frame of the station's own on the line abandoned: the line is released high (R17). -/
def LineInterface.release (l : LineInterface) : LineInterface :=
  if l.onLine.isSome then { l with onLine := none, low := false } else l

/-- Entry to HALTED (R81, R189): the effects of SILENCED, and the line, the arbiter and the outputs stopped. During full start it ends the
full start (R202). -/
def enterHalted (s : State) : State :=
  let t := enterSilenced s
  { t with
    play.state := .halted
    startup := { t.startup with step := .done, valveCheck := none, soundCheck := false }
    line := { t.line.release with queue := [], transmitter := .off, joinTime := none }
    store.port.granting := false
    out.pwmTaken := 0
    fault.silencing := none }

/-- A request to enter SILENCED. During full start it is recorded; in HALTED it is ignored (R187, R190, R202). -/
def silence (s : State) : State :=
  match s.play.state with
  | .halted => s
  | .starting => { s with startup.silencingRecorded := true }
  | _ => enterSilenced s

/-! ## Faults (R183 to R190) -/

/-- A LEAD reaction at the play controller (R73, R186). -/
def leadReaction (s : State) : State :=
  match s.play.state with
  | .leading => { s with play.leadLock := true }
  | .following => { s with play := { s.play with state := .leading, leadLock := true, run := 0 } }
  | .holding => { s with play := { s.play with leadLock := true, returnState := some .leading } }
  | _ => s

/-- The FAULT frame's fields for a channel, taken as it is offered (R185). -/
def faultBody (s : State) (ch : FaultNo) : FrameBody :=
  if ch = 2 then
    match s.follow.culprit with
    | some (station, sequence) => .fault ch s.cfg.reactions[ch] (some station) sequence
    | none => .fault ch s.cfg.reactions[ch] none 0
  else if ch = 1 then .fault ch s.cfg.reactions[ch] (some s.startup.strap) 0
  else .fault ch s.cfg.reactions[ch] none 0

/-- The latch of a channel set. -/
def latch (ch : FaultNo) (s : State) : State := { s with fault.latches := s.fault.latches ||| channelBit ch }

/-- The first latch of a channel in the run: its FAULT frame is offered under a fresh tag (R184). -/
def offerFault (ch : FaultNo) (s : State) : State :=
  { s with
    line.queue := (enqueue s.line.queue ⟨faultBody s ch, s.now, 0, s.fault.nextTag⟩).1
    fault.nextTag := s.fault.nextTag + 1 }

/-- Whether the FAULT frame of a channel finds room as it is offered (R16, R184). -/
def faultFrameEnters (ch : FaultNo) (s : State) : Bool :=
  (enqueue s.line.queue ⟨faultBody s ch, s.now, 0, s.fault.nextTag⟩).2

/-- Latching and reporting: the channel latched, and its FAULT frame offered when the latch was clear (R184). -/
def latchAndReport (ch : FaultNo) (s : State) : State :=
  if s.latched ch then s else offerFault ch (latch ch s)

/-- Silencing in progress set to the frame this raise offered, when it offered one that entered and none was named (R187). -/
def nameSilencing (ch : FaultNo) (before s : State) : State :=
  if !before.latched ch && faultFrameEnters ch before && s.fault.silencing.isNone then
    { s with fault.silencing := some before.fault.nextTag }
  else s

/-- The raising of a fault channel (R184 to R190): ignored in HALTED; a SILENCE raise while silencing is in progress is a double fault. -/
def raiseFault (ch : FaultNo) (s : State) : State :=
  if s.isHalted || !s.running then s
  else
    match s.cfg.reactions[ch] with
    | .report => latchAndReport ch s
    | .lead => leadReaction (latchAndReport ch s)
    | .silence =>
      if s.fault.silencing.isSome then enterHalted (latch ch s)
      else silence (nameSilencing ch s (latchAndReport ch s))

/-! ## Follower exceptions (R120 to R123) -/

/-- The follower exceptions, in the order of the configuration's mask bits. -/
inductive FollowerException where
  | range | slew | void | stale | overrun | diverge | stack
deriving DecidableEq, Repr

/-- The bit of an exception in the masks and the sticky flags. -/
def FollowerException.bit : FollowerException → Nat
  | .range => 0
  | .slew => 1
  | .void => 2
  | .stale => 3
  | .overrun => 4
  | .diverge => 5
  | .stack => 6

/-- Whether the configuration masks an exception (R121). -/
def State.masked (s : State) (e : FollowerException) : Bool := s.cfg.masks.getLsbD e.bit

/-- The part of an exception's default action that is the follower's own state (R112, R119): the pending flags of OVERRUN; for DIVERGE the
miss count 0 and FOLLOWING left for LEADING (R73). -/
def exceptionDefault (e : FollowerException) (s : State) : State :=
  match e with
  | .overrun => { s with follow := { s.follow with overrunPending := true, resyncPending := true } }
  | .diverge =>
    let t := { s with follow.misses := 0 }
    if s.play.state = .following then { t with play := { t.play with state := .leading, run := 0 } } else t
  | _ => s

/-- An exception reaching the follower, with the observation it names (R120, R123). It is taken in play only. -/
def takeException (e : FollowerException) (culprit : Option (Station × BitVec 8)) (s : State) : State :=
  if s.inPlay then
    let t := exceptionDefault e { s with follow.sticky := s.follow.sticky ||| (1#7 <<< e.bit) }
    if s.masked e then t
    else raiseFault 2 (if culprit.isSome then { t with follow.culprit := culprit } else t)
  else s

/-- The same, when a condition holds. -/
def takeExceptionIf (cond : Bool) (e : FollowerException) (culprit : Option (Station × BitVec 8)) (s : State) : State :=
  if cond then takeException e culprit s else s

/-! ## Peers and observations (R83, R84, R86) -/

/-- A peer entry after a valid frame from it, marked at `mark` (R86). -/
def Peer.hear (p : Peer) (mark : Time) (default : Nat) : Peer :=
  { p with present := true, lastHeard := mark, weight := if p.present then p.weight else default }

/-- The peer update of a valid frame (R19, R86). -/
def hearPeer (sender : Station) (s : State) : State :=
  { s with
    gather.peers :=
      s.gather.peers.set sender (s.gather.peers[sender].hear s.line.markLatch (min s.cfg.peerDefault s.cfg.weightMax)) }

/-- An observation delivered to the gather unit (R83, R84): in play it enters at the tail, and at a full queue the head is discarded and
OVERRUN raised for it. -/
def deliver (o : Observation) (s : State) : State :=
  if s.inPlay then
    match s.gather.queue with
    | [] => { s with gather.queue := [o] }
    | head :: rest =>
      if s.gather.queue.length < Config.observationCapacity then { s with gather.queue := s.gather.queue ++ [o] }
      else
        takeException .overrun (some (s.stationOf head.source, head.sequence)) { s with gather.queue := rest ++ [o] }
  else s

end Sys2Proof.Machine
end

