-- ==== Sys2Proof/Machine/Readers.lean ====
section
/-! DEFINITION. Machine/Readers.lean: the flash port and its arbiter, loading and seeking, the marks being served, the report of a change of
the ruling anchor, play beginning, joining and the end of play (chapters 3 and 4). -/

namespace Sys2Proof.Machine

/-! ## The flash port (R40, R41) -/

/-- The arbiter's grant: a free port goes to the loader, the mark reader, the note reader, in that order (R40). -/
def FlashPort.grant (p : FlashPort) : FlashPort :=
  if p.granting && p.serving.isNone then
    match p.loaderWaits, p.markWaits, p.noteWaits with
    | some r, _, _ => { p with serving := some r, abandoned := false, loaderWaits := none }
    | none, some r, _ => { p with serving := some r, abandoned := false, markWaits := none }
    | none, none, some r => { p with serving := some r, abandoned := false, noteWaits := none }
    | none, none, none => p
  else p

/-- The port after the read in flight has completed: free, then granted (R40). -/
def FlashPort.done (p : FlashPort) : FlashPort := { p with serving := none, abandoned := false }.grant

/-- Whether the read in flight, or a waiting request, is one of a unit, not abandoned. -/
def FlashPort.awaits (p : FlashPort) (unit : FlashUnit) : Bool :=
  (p.serving.any (fun r => r.unit == unit) && !p.abandoned) || p.markWaits.any (fun r => r.unit == unit) ||
    p.noteWaits.any (fun r => r.unit == unit)

/-- Whether a read of `length` bytes of one of the units given can complete now. -/
def FlashPort.completes (p : FlashPort) (units : List FlashUnit) (length : Nat) : Bool :=
  match p.serving with
  | some r => units.contains r.unit && r.length == length
  | none => false

/-- A read asked for by the loader. -/
def requestLoad (unit : FlashUnit) (address length : Nat) (s : State) : State :=
  { s with store.port := { s.store.port with loaderWaits := some ⟨unit, address, length⟩ }.grant }

/-- The read of block `i` of a stream whose records have `size` bytes (R39, R206). -/
def blockRead (unit : FlashUnit) (size base : Nat) (r : StreamRef) (i : Nat) : FlashRead :=
  ⟨unit, base + r.offset + i * (16 * size + 2), min 16 (r.count - 16 * i) * size + 2⟩

/-! ## The marks' service (R51) -/

/-- Whether every flag of a mark has been served. -/
def Mark.spent (m : Mark) : Bool := m.sung != .unserved && m.hold != .unserved && m.broaden != .unserved

/-- A flag served. -/
def MarkFlag.serve : MarkFlag → MarkFlag
  | .unserved => .served
  | f => f

/-- The queue after a service: the marks the report names are changed, and a mark with every flag served leaves (R51). -/
def serveMarks (change : Mark → Mark) (q : List Mark) : List Mark := (q.map change).filter (fun m => !m.spent)

/-- The SUNG flag served of every mark the test names. -/
def serveSung (test : Mark → Bool) (s : State) : State :=
  { s with store.queue := serveMarks (fun m => if test m then { m with sung := m.sung.serve } else m) s.store.queue }

/-- The HOLD flag of the mark at a position served. -/
def serveHold (position : Nat) (s : State) : State :=
  { s with
    store.queue :=
      serveMarks (fun m => if m.position = position then { m with hold := m.hold.serve } else m) s.store.queue }

/-- The first mark of the queue with an unserved SUNG flag that a test accepts. -/
def firstSung (q : List Mark) (test : Mark → Bool) : Option Mark := q.find? fun m => m.sung == .unserved && test m

/-- The first mark of the queue whose HOLD flag is unserved (R138). -/
def firstHold (q : List Mark) : Option Mark := q.find? fun m => m.hold == .unserved

/-- The distance from a position to the next SUNG mark in the mark queue after it (R89). -/
def gapNextOf (q : List Mark) (position : Nat) : Option Nat :=
  (q.find? fun m => m.sung != .absent && position < m.position).map fun m => m.position - position

/-- The BROADEN marks at or before a position reached: the broaden flag set and the flags served (R115). -/
def reachBroaden (limit : Int) (s : State) : State :=
  let hit (m : Mark) : Bool := m.broaden == .unserved && decide ((m.position : Int) ≤ limit)
  if s.store.queue.any hit then
    { s with
      follow.broaden := true
      store.queue := serveMarks (fun m => if hit m then { m with broaden := m.broaden.serve } else m) s.store.queue }
  else s

/-! ## Windows and the stale boundary (R89, R92, R93, R97) -/

/-- An open gather's half-width, window and close expiry afresh under the ruling line (R89, R93). -/
def refreshGather (s : State) (g : Gather) : Gather :=
  let next := gapNextOf s.store.queue g.mark
  let w := halfWidth s.period s.cfg.windowFactor g.gapPrev next
  let t := s.timeOf g.mark
  { g with
    gapNext := next
    window := ⟨addTicks t (-w), addTicks t w⟩
    expiry := addTicks t (w + Config.closeGrace) }

/-- The stale boundary (R92). -/
def GatherUnit.staleBoundary (g : GatherUnit) : Time :=
  match g.opens, g.closed.getLast? with
  | o :: _, _ => o.window.first
  | [], some w => w.last
  | [], none => g.playStart

/-- Pool members whose event time has come to lie before the stale boundary removed (R97). -/
def GatherUnit.prunePool (g : GatherUnit) : GatherUnit :=
  { g with pool := g.pool.filter fun m => decide (0 ≤ since m.time g.staleBoundary) }

/-- A window entered in the closed-window record, which keeps the two newest (R92). -/
def GatherUnit.recordClosed (g : GatherUnit) (w : Window) : GatherUnit :=
  { g with closed := (g.closed ++ [w]).drop (g.closed.length + 1 - 2) }

/-! ## The report of a change of the ruling anchor (R103) -/

/-- A re-time pass begun, or begun again; none when no action stands to be visited (R158, R160). -/
def startPass (sc : Scheduler) : Scheduler :=
  let visited : Option Action → Bool
    | some a => match a.state with | .held _ => false | _ => true
    | none => false
  { sc with pass := if sc.table.toList.any visited then some .start else none }

/-- The report that ends a change of the ruling anchor (R103): BROADEN marks the line has come to are reached (R115), open windows are
computed afresh (R93), the re-time pass starts (R158), and no change is in hand any more (R107). R115 tests for the marks at each anchor
change, and also has a mark on a section's first beat reached at that section's boundary event: a change that finds the line at or past such
a mark while the boundary's beat event is still due reaches it at the change, which is the model's choice (log 48, DESIGN CHOICE). -/
def reportAnchor (s : State) : State :=
  let t := reachBroaden s.position s
  { t with
    gather := { t.gather with opens := t.gather.opens.map (refreshGather t) }.prunePool
    sched := startPass t.sched
    follow.change := none }

/-- A stage of a change of the ruling anchor: it runs while the change is in hand, that is unless the follower has been emptied (R107). -/
def stage (f : State → State) (s : State) : State := if s.follow.change.isSome then f s else s

/-! ## The hold watch (R138, R146) -/

/-- The watch taken on to the first mark of the queue whose HOLD flag is unserved. A mark that becomes watched in LEADING or FOLLOWING while
the ruling position already lies above its hold point is passed: served, and the next one watched (R138). -/
def watchNext : Nat → State → State
  | 0, s => s
  | fuel + 1, s =>
    match firstHold s.store.queue with
    | none => { s with follow.watch := none }
    | some m =>
      if s.follow.watch = some ⟨m.position, m.holdPoint⟩ then s
      else if s.moving && decide ((m.holdPoint : Int) < s.position) then watchNext fuel (serveHold m.position s)
      else { s with follow.watch := some ⟨m.position, m.holdPoint⟩ }

/-- The watch settled over a whole mark queue. -/
def settleWatch (s : State) : State := watchNext (Config.markCapacity + 1) s

/-- The watch and the barrier as play begins: no action is timed yet, so the barrier changes nothing else (R138, R146). -/
def startWatch (s : State) : State :=
  let t := settleWatch s
  { t with sched.barrier := t.follow.watch.map (·.point) }

/-! ## The readers set up (R46, R50, R52 to R56) -/

/-- The mark reader with its buffer spent: the next block of the pass asked for, the next section's pass begun, or the stream read to its
end through the last verse (R50). -/
def settleMarks (s : State) : State :=
  match s.store.hymn with
  | some hymn =>
    let m := s.store.marks
    if m.phase = .running && m.buffer.isEmpty && !m.ended && !s.store.port.awaits .markBlock then
      let ref := hymn.header.marks
      if 16 * m.block < ref.count then
        { s with
          store.port := { s.store.port with markWaits := some (blockRead .markBlock 4 hymn.address ref m.block) }.grant }
      else if m.sect < hymn.header.verses && 0 < ref.count then
        { s with
          store.marks := { m with sect := m.sect + 1, block := 0, lastValid := none }
          store.port := { s.store.port with markWaits := some (blockRead .markBlock 4 hymn.address ref 0) }.grant }
      else { s with store.marks := { m with ended := true } }
    else s
  | none => s

/-- The next stop of the note reader's section whose wanted state differs from the planned stop set, lowest stop first, with the coil that
moves it (R54). -/
def nextStop (s : State) : Option (StopNo × Coil) :=
  match s.store.hymn, s.readDivision with
  | some hymn, some d =>
    match hymn.planOf s.store.notes.sect with
    | some plan =>
      ((List.finRange 16).find? fun i => plan.stops[d].getLsbD i.val != s.store.notes.planned.getLsbD i.val).map
        fun i => (i, if plan.stops[d].getLsbD i.val then .on else .off)
    | none => none
  | _, _ => none

/-- The play position of the stop actions of the note reader's section (R54). -/
def stopPosition (h : Header) (n : NoteReader) : Nat := max (24 * h.sectionStart n.sect - 12) n.start

/-- One turn of the note reader with its buffer spent: the next block asked for, or the next section entered once the section's stop
actions are in, or the last verse's pass finished (R50, R52, R54, R55). None when it waits. R54 and R55 give no order between the stop actions
of the last verse and the finish of an active reader with nothing to read: that it finishes only once they are inserted is the model's
choice (log 45, DESIGN CHOICE). -/
def settleNotesStep (s : State) : Option State :=
  match s.store.hymn with
  | some hymn =>
    let n := s.store.notes
    if n.phase = .running && n.buffer.isEmpty && !n.finished && !s.store.port.awaits .noteBlock then
      match s.readDivision with
      | none => some { s with store.notes := { n with finished := true, sect := hymn.header.verses } }
      | some d =>
        let ref := hymn.header.notes[d]
        if 16 * n.block < ref.count then
          some
            { s with
              store.port := { s.store.port with noteWaits := some (blockRead .noteBlock 5 hymn.address ref n.block) }.grant }
        else if (nextStop s).isSome then none
        else if n.sect < hymn.header.verses then
          some { s with store.notes := { n with sect := n.sect + 1, block := 0, lastValid := none } }
        else some { s with store.notes := { n with finished := true } }
    else none
  | none => none

/-- The note reader taken on through the sections until it waits: at most nine sections. -/
def settleNotes (s : State) : State := iterate settleNotesStep 20 s

/-- The play position of what the note reader is next to insert: a stop action of its section, or else the note in its hand (R53, R54). -/
def nextInsertion (s : State) : Option Nat :=
  match s.header with
  | none => none
  | some h =>
    let n := s.store.notes
    if n.phase = .running && s.readDivision.isSome then
      match nextStop s, n.buffer with
      | some _, _ => some (stopPosition h n)
      | none, r :: _ => some (h.place n.sect r.beat r.sub)
      | none, [] => none
    else none

/-- The note reader as a change of the ruling anchor finds it (R53, R54): what has come below the horizon is in its hand, and waits from now on
for FREE entries alone, whatever the horizon moves to. Between changes the horizon only rises. -/
def keepInHand (s : State) : State :=
  if (nextInsertion s).any fun p => decide ((p : Int) < s.horizon) then { s with store.notes.inHand := true } else s

/-- Whether the ruling position stands at or past the hymn's end with the last verse's pass finished and end of score not reported (R55). -/
def atEnd (s : State) : Bool :=
  match s.header with
  | some h => s.inPlay && s.store.notes.finished && !s.store.notes.endReached && decide ((h.endPosition : Int) ≤ s.position)
  | none => false

/-- End of score noted as reached: it then stands, wherever a later change of the ruling anchor moves the ruling position (R55). -/
def noteEnd (s : State) : State := if atEnd s then { s with store.notes.endPassed := true } else s

/-- What a change of the ruling anchor leaves standing of the position before it (R53 to R55): the insertion in hand, and end of score. -/
def beforeChange (s : State) : State := noteEnd (keepInHand s)

/-- FREE entries of the action table (R149). -/
def freeEntries (table : Vector (Option Action) 64) : Nat := table.toList.countP (·.isNone)

/-- Whether the note reader waits: at its horizon, for free entries, at the end of its stream in the last verse, or inactive (R46). -/
def notesWait (s : State) : Bool :=
  match s.header with
  | none => false
  | some h =>
    let n := s.store.notes
    n.finished || s.readDivision.isNone ||
      (match nextStop s with
        | some _ => (!n.inHand && decide (s.horizon ≤ stopPosition h n)) || freeEntries s.sched.table == 0
        | none =>
          match n.buffer with
          | r :: _ =>
            (!n.inHand && decide (s.horizon ≤ h.place n.sect r.beat r.sub)) || decide (freeEntries s.sched.table < 2)
          | [] => false)

/-- The conditions of R46 for the readers' place: the mark queue full or the mark stream read to its end, and the note reader waiting. -/
def readersReady (s : State) : Bool :=
  (decide (Config.markCapacity ≤ s.store.queue.length) || s.store.marks.ended) && notesWait s

/-- Both readers begun at a play beat: the pass of the section that holds it, from the pass's first block (R46, R56). -/
def startReaders (beat : Nat) (s : State) : State :=
  match s.header with
  | none => s
  | some h =>
    settleNotes (settleMarks
      { s with
        store.marks := ⟨.running, h.sectionOf beat, 0, [], none, 24 * beat, false⟩
        store.notes := ⟨.running, h.sectionOf beat, 0, [], none, 24 * beat, s.out.stopImage, false, false, false, false⟩ })

/-! ## Play beginning, joins, seeks (R56, R67, R75, R76) -/

/-- The ruling line written as play begins or a join completes: slot 0 the TOP, ACTIVE, everything else of the follower cleared (R126,
R128, R146). -/
def Follower.begin (anchor : Anchor) (nextBeat : Nat) (change : Change) : Follower :=
  { Follower.initial with
    slots := (Vector.replicate 4 none).set 0 (some ⟨.active, anchor, none⟩)
    nextBeat := some nextBeat
    change := some change }

/-- What play beginning and a join completing have in common (R67, R76, R102, R193): LEADING in the section given, the follower begun, the
gather unit's play start time now, the fault latches cleared, the watch begun, the anchor reported. -/
def enterPlay (sect : Nat) (anchor : Anchor) (nextBeat : Nat) (change : Change) (s : State) : State :=
  let t := beforeChange s
  reportAnchor (startWatch
    { t with
      play :=
        { t.play with
          state := .leading, sect := some sect, run := 0, leadLock := false, pendingStart := none, join := none
          returnState := none }
      follow := .begin anchor nextBeat change
      gather := { t.gather with taking := .free, opens := [], closed := [], previousSung := none, pool := [], playStart := t.now }
      fault.latches := 0 })

/-- A join completing (R76). -/
def joinComplete (j : JoinAnchor) (s : State) : State :=
  match s.header with
  | some h => enterPlay (h.sectionOf j.target) ⟨24 * j.beat, j.time, j.period⟩ j.target .join s
  | none => s

/-- A seek whose readers have reached the priming conditions completes; a joining station enters LEADING (R56, R76). -/
def completeSeek (s : State) : State :=
  match s.store.seek with
  | some _ =>
    if readersReady s then
      let t := { s with store.seek := none }
      match s.play.state, s.play.join with
      | .loaded, some ⟨_, some j⟩ => joinComplete j t
      | _, _ => t
    else s
  | none => s

/-- A seek to a play beat begins (R56): the readers' work abandoned, the mark queue and the action table emptied, the planned stop set taken
from the stop image, both readers set to the beat. -/
def beginSeek (beat : Nat) (s : State) : State :=
  let t := emptyFired s
  completeSeek (startReaders beat
    { t with
      store := { t.store with port := t.store.port.abandonAll, queue := [], seek := some beat } })

/-- A join seek in progress. -/
def joinSeeking (s : State) : Bool :=
  s.store.seek.isSome && s.play.join.any (fun j => j.anchor.isSome)

/-- Play begins (R67): the anchor time is the start mark time plus 6000 ticks, or now when that has passed; a seek to another beat is first
replaced by a seek to 0 (R57). -/
def playBegin (mark : Time) (s : State) : State :=
  let t := { s with play := { s.play with pendingStart := none, join := none } }
  let u := if t.store.seek.any (· != 0) then beginSeek 0 t else t
  let lead := addTicks mark Config.startLead
  let start := if reached lead u.now then u.now else lead
  match u.header with
  | some h => enterPlay 0 ⟨0, start, h.period⟩ 0 .playBegin u
  | none => u

/-- The claim of a peer that counts toward a join for a hymn (R75). -/
def countingClaim (s : State) (hymn : Nat) (p : Peer) : Option Claim :=
  if p.present then
    p.claim.filter fun c =>
      c.fields.hymn == hymn && 1 ≤ hymn && hymn ≤ 1023 && s.play.barred != some hymn && 4 ≤ c.fields.confidence &&
        decide (since s.now c.heard ≤ 2 * c.fields.period)
  else none

/-- The counting claims for a hymn, in rising station number. -/
def countingClaims (s : State) (hymn : Nat) : List Claim := s.gather.peers.toList.filterMap (countingClaim s hymn)

/-- The claim a join is made from: the highest confidence, of equals the lowest station number (R76). -/
def chooseClaim (s : State) (hymn : Nat) : Option Claim :=
  leastBy (fun a b => decide (b.fields.confidence < a.fields.confidence)) (countingClaims s hymn)

/-- A join starts with its hymn loaded (R76): a claim chosen, the target two beats ahead of it, a seek to the target; no join near the
hymn's end or when no claim counts any more. -/
def joinStart (hymn : Nat) (s : State) : State :=
  match chooseClaim s hymn, s.header with
  | some c, some h =>
    let target := c.fields.beat + 2
    if h.endBeat ≤ target + 2 then { s with play.join := none }
    else
      beginSeek target
        { s with
          play.join := some ⟨hymn, some ⟨c.fields.beat, c.beatTime, h.clampPeriod c.fields.period, target⟩⟩ }
  | _, _ => { s with play.join := none }

/-- STOP taken in play, and hymn end (R68, R78): the table emptied with firing, the gather unit and the follower emptied, the swell to rest,
LOADED, and a seek to 0. -/
def stopPlay (s : State) : State :=
  let t := emptyFired s
  beginSeek 0
    { t with
      gather := emptyGather t.gather
      follow := emptyFollower t.follow
      out := { t.out with swell := t.cfg.swellRest, target := t.cfg.swellRest }
      play := t.play.rest .loaded }

/-- Whether the action table holds no action. -/
def tableEmpty (s : State) : Bool := s.sched.table.toList.all (·.isNone)

/-- The test for hymn end (R78). -/
def testHymnEnd (s : State) : State :=
  if s.moving && s.store.notes.endReached && tableEmpty s then stopPlay s else s

/-! ## Loading (R43, R46, R47, R66) -/

/-- A load of a hymn begins (R43, R66): what was held of an earlier hymn is cleared, LOADING, and the directory's count is asked for. A join
request that stands is what the load is begun for (R75). -/
def beginLoad (hymn : Nat) (s : State) : State :=
  let t := emptyFired s
  requestLoad .directoryCount 2048 2
    { t with
      play := { t.play with state := .loading, joinLoad := t.play.join.map (·.hymn) }
      store :=
        { t.store with
          port := t.store.port.abandonAll, loader := .count hymn, hymn := none, queue := [], marks := .initial
          notes := { NoteReader.initial with planned := t.store.notes.planned }, seek := none } }

/-- A load fails (R47, R66, R77): IDLE with no hymn, pending START and join cleared, the hymn of a load begun for a join barred even when the
request has been cleared since, and SCORE raised. -/
def loadFailed (s : State) : State :=
  raiseFault 4
    { s with
      store.loader := .idle
      store.hymn := none
      play :=
        { s.play with
          state := .idle, pendingStart := none, join := none, joinLoad := none
          barred := match s.play.joinLoad with | some n => some n | none => s.play.barred } }

/-- A load completes (R46, R66): LOADED, then the pending START, else the join request, is acted on. -/
def loadComplete (s : State) : State :=
  let t := { s with store.loader := .idle, play := { s.play with state := .loaded, joinLoad := none } }
  match s.play.pendingStart, s.play.join with
  | some mark, _ => playBegin mark t
  | none, some j => joinStart j.hymn t
  | none, none => t

/-- The end of priming and of a seek tested: a load or a seek completes once the readers are ready (R46, R56). -/
def testPrimed (s : State) : State :=
  if s.store.loader = .priming then if readersReady s then loadComplete s else s
  else completeSeek s

/-! ## The join trigger (R75) -/

/-- The hymns toward which the claims of two peers count, each once. -/
def joinHymns (s : State) : List Nat :=
  let named := s.gather.peers.toList.filterMap fun p => p.claim.map (·.fields.hymn)
  (named.filter fun n => decide (2 ≤ (countingClaims s n).length)).dedup

/-- The join trigger tested at a claim stored (R75): in IDLE or LOADED with no request standing, a request is formed for a hymn that two
peers' claims count toward; which of several such hymns is open (log 8). -/
def testJoin (s : State) : State :=
  if (s.play.state = .idle ∨ s.play.state = .loaded) ∧ s.play.join = none then
    let form (n : Nat) (t : State) : State :=
      let u := { t with play.join := some ⟨n, none⟩ }
      if t.loadedNumber = some n then joinStart n u else beginLoad n u
    match joinHymns s with
    | [] => s
    | [n] => form n s
    | n :: ns =>
      let (k, t) := s.takeFree
      form ((n :: ns).getD (Config.joinPick k % (n :: ns).length) n) t
  else s

end Sys2Proof.Machine
end

