-- ==== Sys2Proof/Machine/Actions.lean ====
section
/-! DEFINITION. Machine/Actions.lean: the action scheduler's operations (chapter 8): leads and due times, eligibility, arming, firing, the
barrier, the holding, suspension and return of actions, and insertion. -/

namespace Sys2Proof.Machine

/-! ## Leads and due times (R148, R150) -/

/-- The speech delay of a key's zone: the zone with the greatest lower bound at or below the key, zone 0 below every bound (R148). -/
def speechDelay (zones : List Zone) (key : Nat) : Nat :=
  match (zones.filter fun z => decide (z.lower ≤ key)).getLast?, zones.head? with
  | some z, _ => z.speech
  | none, some z => z.speech
  | none, none => 0

/-- The lead of an action of a kind, clamped to [0, 6000] ticks (R148). -/
def leadOf (c : Configuration) : ActionKind → Nat
  | .noteOn key => (clampInt 0 6000 (speechDelay c.zones key.val + c.chamberDelay + 20 - c.bias)).toNat
  | .noteOff _ => (clampInt 0 6000 (c.chamberDelay + 20 + c.offTrim - c.bias)).toNat
  | .stop _ _ => (clampInt 0 6000 c.stopLead).toNat

/-- The floor of a NOTE_OFF's due time: its NOTE_ON's due time plus 100 while that is in the table, the recorded floor once it has fired
(R150). -/
def floorOf (table : Vector (Option Action) 64) : Pair → Option Time
  | .absent => none
  | .fired floor => some floor
  | .entry e =>
    match table[e] with
    | some a => a.due.map (addTicks · Config.floorTicks)
    | none => none

/-- The due time of an action under the ruling line (R150). -/
def dueOf (s : State) (a : Action) : Time :=
  let own := addTicks (s.timeOf a.position) (-a.lead)
  match a.kind with
  | .noteOff _ =>
    match floorOf s.sched.table a.pair with
    | some floor => laterOf own floor
    | none => own
  | _ => own

/-! ## Eligibility (R151, R152) -/

/-- Whether an action's position and pair let it arm or fire: it lies below the barrier, and it is not a NOTE_OFF whose NOTE_ON is still in
the table (R151). -/
def eligible (barrier : Option Nat) (a : Action) : Bool :=
  (match barrier with
    | none => true
    | some b => decide (a.position < b)) &&
  (match a.kind, a.pair with
    | .noteOff _, .entry _ => false
    | _, _ => true)

/-- The due time of a timed WAITING action that is eligible (R151). -/
def readyDue (sc : Scheduler) (e : EntryNo) : Option Time :=
  match sc.table[e] with
  | some a => if a.state = .waiting && eligible sc.barrier a then a.due else none
  | none => none

/-- Whether a due time lies more than 0 and at most 200 ticks after now (R152). -/
def inHorizon (now due : Time) : Bool := decide (0 < since due now) && decide (since due now ≤ Config.armHorizon)

/-- Whether an action is a STOP. -/
def Action.isStop (a : Action) : Bool :=
  match a.kind with
  | .stop _ _ => true
  | _ => false

/-- Whether an entry waits for a channel: within the horizon, or a STOP whose due time has passed (R152, R153). -/
def waitsForChannel (s : State) (e : EntryNo) : Bool :=
  match readyDue s.sched e with
  | some d => inHorizon s.now d || (reached d s.now && (s.sched.table[e]).any Action.isStop)
  | none => false

/-- The play position of the action at an entry. -/
def positionOf (sc : Scheduler) (e : EntryNo) : Nat :=
  match sc.table[e] with
  | some a => a.position
  | none => 0

/-- The order in which actions are served: earliest due time, then lower play position, then lower entry (R152). -/
def servedBefore (sc : Scheduler) (e f : EntryNo) : Bool :=
  match (sc.table[e]).bind (·.due), (sc.table[f]).bind (·.due) with
  | some d, some g =>
    decide (since d g < 0) ||
      (d == g && (decide (positionOf sc e < positionOf sc f) || (positionOf sc e == positionOf sc f && decide (e < f))))
  | _, _ => false

/-! ## Entries and channels (R147, R154) -/

/-- The action at an entry replaced. -/
def setEntry (e : EntryNo) (a : Option Action) (sc : Scheduler) : Scheduler := { sc with table := sc.table.set e a }

/-- A channel replaced. -/
def setChannel (c : ChannelNo) (ch : Channel) (sc : Scheduler) : Scheduler := { sc with channels := sc.channels.set c ch }

/-- The channel an ARMED action holds set FREE. -/
def freeChannelOf (a : Action) (sc : Scheduler) : Scheduler :=
  match a.state with
  | .armed c => setChannel c .free sc
  | _ => sc

/-- An entry freed, with the channel that serves its action (R147). -/
def freeEntry (e : EntryNo) (sc : Scheduler) : Scheduler :=
  match sc.table[e] with
  | some a => setEntry e none (freeChannelOf a sc)
  | none => sc

/-- The lowest-numbered FREE channel (R152). -/
def lowestFreeChannel (sc : Scheduler) : Option ChannelNo := (List.finRange 8).find? fun c => sc.channels[c] = .free

/-- The lowest-numbered FREE entry (R149). -/
def lowestFreeEntry (sc : Scheduler) : Option EntryNo := (List.finRange 64).find? fun e => (sc.table[e]).isNone

/-! ## Applying actions (R155, R156, R174) -/

/-- A NOTE_OFF applied: its key's hold count lowered by 1, its entry freed (R155). -/
def applyNoteOff (e : EntryNo) (key : Key) (s : State) : State :=
  { s with
    sched := freeEntry e s.sched
    out := { s.out with counts := s.out.counts.set key (s.out.counts[key] - 1) } }

/-- The release time of a coil output set at a pulse's start: the later of the one it has and the new one (R174). -/
def coilUntil (ends : Time) : Option Time → Time
  | some t => laterOf t ends
  | none => ends

/-- A stop pulse at the output stage: its coil set, the other coil of the stop released, the stop image taken on (R174). -/
def pulseCoil (stop : StopNo) (coil : Coil) (ends : Time) (o : OutputStage) : OutputStage :=
  match coil with
  | .on =>
    { o with
      onCoils := o.onCoils.set stop (some (coilUntil ends o.onCoils[stop]))
      offCoils := o.offCoils.set stop none
      stopImage := o.stopImage ||| (1#16 <<< stop.val) }
  | .off =>
    { o with
      offCoils := o.offCoils.set stop (some (coilUntil ends o.offCoils[stop]))
      onCoils := o.onCoils.set stop none
      stopImage := o.stopImage &&& ~~~(1#16 <<< stop.val) }

/-- A STOP action applied on a channel: the channel PULSING for the stop pulse width, the entry freed, the coil pulsed (R156). -/
def startPulse (e : EntryNo) (stop : StopNo) (coil : Coil) (c : ChannelNo) (s : State) : State :=
  let ends := addTicks s.now s.cfg.stopPulse
  { s with
    sched := setChannel c (.pulsing ends) (freeEntry e s.sched)
    out := pulseCoil stop coil ends s.out }

/-- The entry of an action's pair, while that is in the table. -/
def Action.pairEntry (a : Action) : Option EntryNo :=
  match a.pair with
  | .entry e => some e
  | _ => none

/-- A NOTE_ON dropped together with its NOTE_OFF: both entries become FREE (R153, R155). -/
def dropPair (e : EntryNo) (a : Action) (sc : Scheduler) : Scheduler :=
  match a.pairEntry with
  | some p => freeEntry p (freeEntry e sc)
  | none => freeEntry e sc

/-- A NOTE_OFF whose NOTE_ON has just fired, tested under the due time it holds: fired when that has passed (R155). Arming is left to the
service of the channels. -/
def testReleased (e : EntryNo) (s : State) : State :=
  match s.sched.table[e], readyDue s.sched e with
  | some a, some d =>
    match a.kind with
    | .noteOff key => if reached d s.now then applyNoteOff e key s else s
    | _ => s
  | _, _ => s

/-- The pair of a NOTE_OFF made FIRED, with the floor time (R155). -/
def firePair (off : EntryNo) (floor : Time) (sc : Scheduler) : Scheduler :=
  match sc.table[off] with
  | some a => setEntry off (some { a with pair := .fired floor }) sc
  | none => sc

/-- A NOTE_ON applied (R155): its key's count raised by 1, its NOTE_OFF made FIRED and tested; at a count of 15 the pair is dropped and SCORE
raised. -/
def applyNoteOn (e : EntryNo) (key : Key) (a : Action) (due : Time) (s : State) : State :=
  if 15 ≤ s.out.counts[key] then raiseFault 4 { s with sched := dropPair e a s.sched }
  else
    let t :=
      { s with
        sched := freeEntry e s.sched
        out := { s.out with counts := s.out.counts.set key (s.out.counts[key] + 1) } }
    match a.pairEntry with
    | some off => testReleased off { t with sched := firePair off (addTicks due Config.floorTicks) t.sched }
    | none => t

/-- An action that fires at once (R153): it gives up its channel; a NOTE_ON beyond the late limit is dropped and LATE raised; a STOP takes the
lowest FREE channel, or waits for the next. That a STOP takes the channel it has itself just given up, though another STOP whose earlier due
time has passed waits for the next FREE channel, is the model's choice (log 49, DESIGN CHOICE). -/
def fireAtOnce (e : EntryNo) (a : Action) (due : Time) (s : State) : State :=
  let t := { s with sched := setEntry e (some { a with state := .waiting, due := some due }) (freeChannelOf a s.sched) }
  match a.kind with
  | .noteOn key =>
    if (s.cfg.lateLimit : Int) < since s.now due then raiseFault 3 { t with sched := dropPair e a t.sched }
    else applyNoteOn e key a due t
  | .noteOff key => applyNoteOff e key t
  | .stop stop coil =>
    match lowestFreeChannel t.sched with
    | some c => startPulse e stop coil c t
    | none => t

/-- A WAITING action tested: fired at once when it is eligible and its due time is at or before now (R153). -/
def testEntry (e : EntryNo) (s : State) : State :=
  match s.sched.table[e], readyDue s.sched e with
  | some a, some d => if reached d s.now then fireAtOnce e a d s else s
  | _, _ => s

/-! ## The service of the channels (R152) -/

/-- The action that the next channel goes to. -/
def nextWaiter (s : State) : Option EntryNo :=
  leastBy (servedBefore s.sched) ((List.finRange 64).filter (waitsForChannel s))

/-- One FREE channel handed to the action next in order: a STOP whose due time has passed goes straight to PULSING, any other action arms
(R152, R153). -/
def serveStep (s : State) : Option State :=
  match lowestFreeChannel s.sched, nextWaiter s with
  | some c, some e =>
    match s.sched.table[e] with
    | some a =>
      match a.kind, a.due with
      | .stop stop coil, some d =>
        if reached d s.now then some (startPulse e stop coil c s)
        else some { s with sched := setChannel c (.waiting e d) (setEntry e (some { a with state := .armed c }) s.sched) }
      | _, some d =>
        some { s with sched := setChannel c (.waiting e d) (setEntry e (some { a with state := .armed c }) s.sched) }
      | _, none => none
    | none => none
  | _, _ => none

/-- Every FREE channel handed on, while an action waits for one (R152). -/
def serveWaiters (s : State) : State := iterate serveStep 8 s

/-- The end of an event of the table: channels handed on, and the empty table reported (R152, R167, R78). -/
def settleTable (s : State) : State := testHymnEnd (serveWaiters s)

/-! ## Holding and returning actions (R161 to R164) -/

/-- Whether an action is WAITING or ARMED. -/
def Action.live (a : Action) : Bool :=
  match a.state with
  | .held _ => false
  | _ => true

/-- Whether an action is HELD for a reason. -/
def Action.heldFor (reason : HeldReason) (a : Action) : Bool := a.state = .held reason

/-- Every action changed; a channel whose action a test names becomes FREE. -/
def mapActions (change : Action → Option Action) (frees : Action → Bool) (sc : Scheduler) : Scheduler :=
  { sc with
    table := mapVec (fun x => x.bind change) sc.table
    channels :=
      mapVec
        (fun ch =>
          match ch with
          | .waiting e _ => if (sc.table[e]).any frees then .free else ch
          | _ => ch)
        sc.channels }

/-- The actions a test names become HELD for a reason, without due time, their channels FREE (R162, R163). -/
def holdWhere (reason : HeldReason) (test : Action → Bool) (sc : Scheduler) : Scheduler :=
  mapActions (fun a => if test a then some { a with state := .held reason, due := none } else some a) test sc

/-- Whether an action, or for a NOTE_OFF with its NOTE_ON in the table that NOTE_ON, is a NOTE_ON that a test names. -/
def byNoteOn (table : Vector (Option Action) 64) (test : Action → Bool) (a : Action) : Bool :=
  match a.kind, a.pair with
  | .noteOn _, _ => test a
  | .noteOff _, .entry e => (table[e]).any test
  | _, _ => false

/-- The skipped music suspended: every live NOTE_ON below a position HELD with reason SLIP, with its NOTE_OFF (R136, R163). -/
def suspendBelow (position : Nat) (sc : Scheduler) : Scheduler :=
  holdWhere .slip (byNoteOn sc.table fun a => a.live && decide (a.position < position)) sc

/-- The hold taken: every live action at or after the hold point HELD with reason HOLD (R162). -/
def holdFrom (point : Nat) (sc : Scheduler) : Scheduler :=
  holdWhere .hold (fun a => a.live && decide (point ≤ a.position)) sc

/-- The actions a test names returned from HELD to WAITING, untimed (R162, R164). -/
def returnWhere (test : Action → Bool) (sc : Scheduler) : Scheduler :=
  mapActions (fun a => if test a then some { a with state := .waiting, due := none } else some a) (fun _ => false) sc

/-- Every action HELD with reason HOLD returned to WAITING (R162). -/
def returnHeld (sc : Scheduler) : Scheduler := returnWhere (Action.heldFor .hold) sc

/-- The SLIP-held pairs whose NOTE_ON stands at or after the new slip position returned, every one when there is none (R164). -/
def resumeSlip (slip : Option Nat) (sc : Scheduler) : Scheduler :=
  returnWhere
    (byNoteOn sc.table fun a =>
      a.heldFor .slip &&
        match slip with
        | none => true
        | some p => decide (p ≤ a.position))
    sc

/-- Every action HELD with reason SLIP freed (R164). -/
def freeSlip (sc : Scheduler) : Scheduler :=
  mapActions (fun a => if a.heldFor .slip then none else some a) (fun _ => false) sc

/-! ## The barrier (R161) -/

/-- The ARMED actions at or after a barrier un-armed: their channels FREE, the actions WAITING with their due times (R161). -/
def unarmFrom (barrier : Nat) (sc : Scheduler) : Scheduler :=
  let stops (a : Action) : Bool := a.live && decide (barrier ≤ a.position)
  mapActions (fun a => if stops a then some { a with state := .waiting } else some a) stops sc

/-- The timed WAITING actions at or after the old barrier, in rising due time (R161). Of equal due times R161 says no order: the model takes
the lower play position, then the lower entry, as R152 does for channels (log 41, DESIGN CHOICE). -/
def heldBack (old : Nat) (sc : Scheduler) : List EntryNo :=
  orderBy (servedBefore sc)
    ((List.finRange 64).filter fun e => (readyDue sc e).isSome && decide (old ≤ positionOf sc e))

/-- The barrier set, moved or lifted (R161): actions behind the new one un-armed, those no longer behind it tested in rising due time. -/
def setBarrier (new : Option Nat) (s : State) : State :=
  let old := s.sched.barrier
  if old = new then s
  else
    let sc := { s.sched with barrier := new }
    let t :=
      { s with
        sched :=
          match new with
          | some b => unarmFrom b sc
          | none => sc }
    let tested :=
      match old with
      | some b => (heldBack b t.sched).foldl (fun u e => testEntry e u) t
      | none => t
    settleTable tested

/-- The watch settled in LEADING and FOLLOWING, with the barrier at its hold point; in HOLDING the barrier stays at the hold point in force
(R138, R139). -/
def rewatch (s : State) : State :=
  let t := settleWatch s
  if t.moving then setBarrier (t.follow.watch.map (·.point)) t else t

/-! ## Insertion (R149) -/

/-- How an action enters the table (R149). -/
inductive Entering where
  | untimed | held (reason : HeldReason) | timed
deriving DecidableEq, Repr

/-- The state of an inserted action by the play state, the hold point in force and the slip position (R149). For a NOTE_ON inserted in HOLDING
below a standing slip position R163 says HELD SLIP and the table of R149 says WAITING, timed: the model follows the table (log 40, DESIGN
CHOICE). -/
def enteringState (s : State) (isNote : Bool) (position : Nat) : Entering :=
  if s.inPlay then
    match s.play.state, s.holdPoint, s.slipPosition with
    | .holding, some h, _ => if h ≤ position then .held .hold else .timed
    | .holding, none, _ => .timed
    | _, _, some slip => if isNote && decide (position < slip) then .held .slip else .timed
    | _, _, none => .timed
  else .untimed

/-- The state an entering action has. -/
def Entering.state : Entering → ActionState
  | .held reason => .held reason
  | _ => .waiting

/-- An entry given its due time. -/
def timeEntry (e : EntryNo) (s : State) : State :=
  match s.sched.table[e] with
  | some a => { s with sched := setEntry e (some { a with due := some (dueOf s a) }) s.sched }
  | none => s

/-- A note pair inserted (R149): its NOTE_ON and NOTE_OFF take the two lowest FREE entries. Timed, each is tested at once. -/
def insertPair (key : Key) (position offPosition : Nat) (s : State) : State :=
  match lowestFreeEntry s.sched with
  | none => s
  | some on =>
    let how := enteringState s true position
    let enter (kind : ActionKind) (place : Nat) (pair : Pair) : Action :=
      ⟨how.state, kind, place, leadOf s.cfg kind, none, pair⟩
    let withOn (pair : Pair) := setEntry on (some (enter (.noteOn key) position pair)) s.sched
    match lowestFreeEntry (withOn .absent) with
    | none => s
    | some off =>
      let t :=
        { s with sched := setEntry off (some (enter (.noteOff key) offPosition (.entry on))) (withOn (.entry off)) }
      if how = .timed then settleTable (testEntry off (testEntry on (timeEntry off (timeEntry on t)))) else t

/-- A STOP action inserted (R149). -/
def insertStop (stop : StopNo) (coil : Coil) (position : Nat) (s : State) : State :=
  match lowestFreeEntry s.sched with
  | none => s
  | some e =>
    let how := enteringState s false position
    let t :=
      { s with
        sched := setEntry e (some ⟨how.state, .stop stop coil, position, leadOf s.cfg (.stop stop coil), none, .absent⟩) s.sched }
    if how = .timed then settleTable (testEntry e (timeEntry e t)) else t

end Sys2Proof.Machine
end

