-- ==== Sys2Proof/Machine/Hypotheses.lean ====
section
/-! DEFINITION. Machine/Hypotheses.lean: the shared operations of the beat follower and the gather unit (chapters 5 to 7): the ruling slot, push,
pop and confirmation, gathers opening and closing, and the release of a hold. -/

namespace Sys2Proof.Machine

/-! ## The ruling slot (R106, R128) -/

/-- The ruling line rewritten in the TOP slot; its tag and pushed position are left (R128). -/
def setAnchor (a : Anchor) (s : State) : State :=
  { s with follow.slots := s.follow.slots.set s.follow.top ((s.follow.slots[s.follow.top]).map fun slot => { slot with anchor := a }) }

/-- Whether the clamp to the hymn's limits changes a period (R106). -/
def clampsPeriod (s : State) (p : Int) : Bool := (s.clampPeriod p : Int) != p

/-- A ruling period written, clamped, with RANGE raised when the clamp changes it (R106). -/
def writePeriod (p : Int) (culprit : Option (Station × BitVec 8)) (s : State) : State :=
  takeExceptionIf (clampsPeriod s p) .range culprit (setAnchor { s.anchor with period := s.clampPeriod p } s)

/-- Whether a beat event that is due stands at or before a position, and so goes first: a BROADEN mark at the first beat of a section is reached
at that section's boundary event (R115; that the same holds of a mark after that beat is log 44, DEDUCED), and a hymn ends at the beat event
that reaches its end (R78; log 50, DEDUCED). -/
def beatGoesFirst (s : State) (position : Nat) : Bool :=
  s.moving && s.follow.nextBeat.any fun b => decide (24 * b ≤ position) && reached (s.timeOf (24 * b)) s.now

/-! ## The hypothesis stack (R129 to R131) -/

/-- Whether a slot is tagged FALLBACK. -/
def isFallback : Option Slot → Bool
  | some slot => slot.tag == .fallback
  | none => false

/-- Every FALLBACK slot set EMPTY. -/
def dropFallbacks (slots : Vector (Option Slot) 4) : Vector (Option Slot) 4 :=
  mapVec (fun x => if isFallback x then none else x) slots

/-- A slot given a tag. -/
def retag (tag : Tag) (x : Option Slot) : Option Slot := x.map fun slot => { slot with tag := tag }

/-- A PROVISIONAL TOP confirmed: ACTIVE, the FALLBACK slots EMPTY (R131). The manual gives the confirm count a meaning under a PROVISIONAL TOP
only; that it is 0 under the ACTIVE TOP is the model's choice (log 54, DESIGN CHOICE). -/
def Follower.confirm (f : Follower) : Follower :=
  { f with slots := dropFallbacks (f.slots.set f.top (retag .active f.slots[f.top])), confirmCount := 0 }

/-- A confirmation with the actions held for its push freed, and the empty table reported (R131, R137, R167). -/
def confirmTop (s : State) : State := testHymnEnd { s with follow := s.follow.confirm, sched := freeSlip s.sched }

/-- The slots with a new hypothesis on top of the ruling one (R129). -/
def Follower.push (f : Follower) (position : Nat) (time : Time) : Follower :=
  let period := ((f.slots[f.top]).map (·.anchor.period)).getD 0
  let covered := f.slots.set f.top (retag .fallback f.slots[f.top])
  let above : Fin 4 := f.top - 1
  { f with
    slots := covered.set above (some ⟨.provisional, ⟨position, time, period⟩, some position⟩)
    top := above
    confirmCount := 0 }

/-- A push: STACK is raised when the slot written was not EMPTY (R129). -/
def push (position : Nat) (time : Time) (s : State) : State :=
  takeExceptionIf (s.follow.slots[s.follow.top - 1]).isSome .stack none
    { beforeChange s with follow := s.follow.push position time }

/-- The slots with the ruling hypothesis discarded and the one below restored (R130). A PROVISIONAL TOP starts its confirm count at 0; that the
count is 0 under a TOP that becomes ACTIVE is the model's choice (log 54, DESIGN CHOICE). -/
def Follower.pop (f : Follower) : Follower :=
  let below : Fin 4 := f.top + 1
  let left := f.slots.set f.top none
  if isFallback left[below + 1] then
    { f with slots := left.set below (retag .provisional left[below]), top := below, confirmCount := 0 }
  else
    { f with slots := dropFallbacks (left.set below (retag .active left[below])), top := below, confirmCount := 0 }

/-- A pop, with the SLIP-held actions that the restored line plays resumed (R130, R137). -/
def pop (s : State) : State :=
  let t := { beforeChange s with follow := s.follow.pop }
  { t with sched := resumeSlip t.slipPosition t.sched }

/-- The confirmation of a PROVISIONAL TOP that no close remains to judge: no unserved SUNG mark in the queue and the mark stream read to its
end (R131). -/
def testExhausted (s : State) : State :=
  if s.moving && s.provisional && s.store.marks.ended && (firstSung s.store.queue fun _ => true).isNone then confirmTop s else s

/-! ## Gathers (R89, R90, R94) -/

/-- The distance from the previous SUNG position to a mark (R89). -/
def gapPrevOf (previous : Option Nat) (position : Nat) : Option Nat := previous.map fun p => position - p

/-- The gather of a mark as it opens under the ruling line, with no members (R89, R90). -/
def newGather (s : State) (position : Nat) : Gather :=
  refreshGather s ⟨position, gapPrevOf s.gather.previousSung position, none, ⟨0, 0⟩, 0, [], 0⟩

/-- A gather opened: the previous SUNG position is its mark's, and pool members at or before its window end leave (R90). -/
def openGather (position : Nat) (s : State) : State :=
  let g := newGather s position
  { s with
    gather :=
      { s.gather with
        opens := s.gather.opens ++ [g]
        previousSung := some position
        pool := s.gather.pool.filter fun m => decide (0 < since m.time g.window.last) }.prunePool }

/-- A gather closed: out of the open set, its window the newest of the record, the close handed over (R94, R95). -/
def closeGather (g : Gather) (u : GatherUnit) : GatherUnit :=
  ({ u with opens := u.opens.filter fun o => o.mark != g.mark, taking := .close g }.recordClosed g.window).prunePool

/-- Whether a source already has a member in a list. -/
def hasSource (source : Source) (members : List Observation) : Bool := members.any fun m => m.source == source

/-- An observation joining a gather: one member from each source (R91). -/
def Gather.join (g : Gather) (o : Observation) : Gather :=
  if hasSource o.source g.members then g else { g with members := g.members ++ [o], sum := g.sum + o.weight }

/-- A gather of the open set replaced by one of the same mark. -/
def GatherUnit.replaceOpen (u : GatherUnit) (g : Gather) : GatherUnit :=
  { u with opens := u.opens.map fun o => if o.mark = g.mark then g else o }

/-- An open gather closed at once when its weight has reached the quorum (R94, R99). -/
def closeAtQuorum (quorum : Nat) (mark : Nat) (u : GatherUnit) : GatherUnit :=
  match u.opens.find? fun o => o.mark == mark with
  | some g => if quorum ≤ g.sum then closeGather g u else u
  | none => u

/-- The window start of a mark's gather, open or not, under the ruling line (R89, R135). -/
def windowStart (s : State) (m : Mark) : Time :=
  match s.gather.opens.find? fun o => o.mark == m.position with
  | some g => (refreshGather s g).window.first
  | none => (newGather s m.position).window.first

/-- Whether a mark's gather is open, or closed and awaiting acceptance (R90). -/
def gatherBegun (u : GatherUnit) (position : Nat) : Bool :=
  u.opens.any (fun o => o.mark == position) ||
    match u.taking with
    | .close g => g.mark == position
    | _ => false

/-- The next gather to open: of the first SUNG mark whose gather has neither opened nor closed (R90); in HOLDING only of a mark at or before
the hold point (R101). -/
def nextToOpen (s : State) : Option Mark :=
  (firstSung s.store.queue fun m => !gatherBegun s.gather m.position).filter fun m =>
    match s.play.state, s.holdPoint with
    | .holding, some h => decide (m.position ≤ h)
    | _, _ => true

/-! ## A cluster answered with a push (R99, R135, R136) -/

/-- The order in which a cluster's members join a gather: rising event time, then rising station number (R99). -/
def joinsBefore (s : State) (a b : Observation) : Bool :=
  decide (since a.time b.time < 0) || (a.time == b.time && decide (s.stationOf a.source < s.stationOf b.source))

/-- The gathers of marks before the push's mark abandoned: open ones leave with their windows recorded, every SUNG flag is served (R99).
Of two that are open the earlier mark's window is recorded first, so the later mark's is the newest of the record: R99 gives no order (log 53,
DESIGN CHOICE). -/
def abandonBefore (position : Nat) (s : State) : State :=
  let gone := s.gather.opens.filter fun o => decide (o.mark < position)
  let kept := { s.gather with opens := s.gather.opens.filter fun o => !decide (o.mark < position) }
  serveSung (fun m => decide (m.position < position)) { s with gather := gone.foldl (fun u g => u.recordClosed g.window) kept }

/-- The acceptance of a cluster that the follower answered with a push of a mark (R99): earlier gathers abandoned, the mark's gather open, the
cluster's members in it, and closed at once at the quorum. -/
def adoptCluster (position : Nat) (c : Cluster) (s : State) : State :=
  let t := abandonBefore position { s with gather.taking := .free }
  let u := if gatherBegun t.gather position then t else openGather position t
  let members := orderBy (joinsBefore u) c.members
  match u.gather.opens.find? fun o => o.mark == position with
  | some g =>
    let joined := members.foldl Gather.join g
    { u with gather := (closeAtQuorum u.cfg.quorum position (u.gather.replaceOpen joined)).prunePool }
  | none => u

/-- A push from a cluster (R135, R144): the hypothesis pushed, the skipped music suspended, the next beat taken on (R113), hold marks below
the push passed (R138). -/
def slip (position : Nat) (time : Time) (s : State) : State :=
  let passed (t : State) : State :=
    match t.follow.watch with
    | some w =>
      if w.point < position then rewatch { serveHold w.mark t with follow.watch := none } else rewatch t
    | none => rewatch t
  let pushed := stage (fun t => settleTable { t with sched := suspendBelow position t.sched }) (push position time s)
  stage (fun t => passed { t with follow.nextBeat := t.follow.nextBeat.map (max · ((position + 23) / 24)) }) pushed

/-- The acceptance of a cluster: with a push of a mark, or without (R99). A cluster withdrawn meanwhile is not accepted (R102). -/
def acceptCluster (position : Option Nat) (c : Cluster) (s : State) : State :=
  match s.gather.taking, position with
  | .cluster _, some p => testExhausted (adoptCluster p c s)
  | .cluster _, none => { s with gather.taking := .free }
  | _, _ => s

/-! ## Holds (R139, R143) -/

/-- The return state taken at the end of a hold (R74). -/
def takeReturn (p : PlayController) : PlayController :=
  match p.returnState with
  | some .following => { p with state := .following, returnState := none }
  | _ => { p with state := .leading, returnState := none, run := 0 }

/-- The steps of a release at now but its report (R143). -/
def releaseSteps (s : State) : State :=
  match s.follow.hold with
  | none => s
  | some h =>
    let anchored :=
      setAnchor ⟨h.point, s.now, s.period⟩
        { beforeChange s with follow := { s.follow with hold := none, change := some .release } }
    let confirmed :=
      if anchored.provisional then { anchored with follow := anchored.follow.confirm, sched := freeSlip anchored.sched } else anchored
    let returned :=
      { confirmed with
        sched := returnHeld confirmed.sched
        play := takeReturn confirmed.play
        gather := { confirmed.gather with playStart := s.now }.prunePool }
    stage (fun t => rewatch { t with follow.watch := none }) (testHymnEnd returned)

end Sys2Proof.Machine
end

