-- ==== Sys2Proof/Machine/Gathers.lean ====
section
/-! DEFINITION. Machine/Gathers.lean: the commands of the gather unit (chapter 5): takings from the observation queue, the unmatched pool, and
gathers opening and expiring. -/

namespace Sys2Proof.Machine

/-! ## The unmatched pool (R97, R98) -/

/-- Whether an observation's event time is earlier than another's. -/
def earlierThan (a b : Observation) : Bool := decide (since a.time b.time < 0)

/-- The pool members tied for the earliest event time. -/
def earliestOf (pool : List Observation) : List Observation := pool.filter fun m => !pool.any fun o => earlierThan o m

/-- A full pool that an ONSET from another source finds (R97): the earliest member leaves; an ONSET earlier than every member does not enter.
A tie is open (log 9). -/
def enterFull (o : Observation) (pool : List Observation) (seed : Nat) : Option (List Observation) :=
  match earliestOf pool with
  | [] => some (pool ++ [o])
  | e :: es =>
    if earlierThan o e || (o.time == e.time && !Config.poolTieEnters seed) then none
    else
      let leaver := (e :: es).getD (Config.poolTieLeaver seed % (e :: es).length) e
      some (pool.filter (fun m => m.source != leaver.source) ++ [o])

/-- The pool after an ONSET that falls in no window; none when it does not enter (R97). -/
def enterPool (o : Observation) (pool : List Observation) (seed : Nat) : Option (List Observation) :=
  let others := pool.filter fun m => m.source != o.source
  if others.length < Config.poolCapacity then some (others ++ [o]) else enterFull o others seed

/-- The pool members in the span of a length from a time on (R98). -/
def spanFrom (length : Nat) (start : Time) (pool : List Observation) : List Observation :=
  pool.filter fun m => inWindow start (addTicks start length) m.time

/-- The summed weight of members. -/
def weightSum (members : List Observation) : Nat := (members.map (·.weight)).sum

/-- The rounded weighted mean of the offsets of members from a time (R98, R108). -/
def meanFrom (start : Time) (members : List Observation) : Int :=
  roundDiv ((members.map fun m => (m.weight : Int) * since m.time start).sum) (weightSum members)

/-- The first span of the pool that reaches the quorum, as a cluster (R98). -/
def findCluster (period quorum : Nat) (pool : List Observation) : Option Cluster :=
  ((orderBy earlierThan pool).find? fun m => decide (quorum ≤ weightSum (spanFrom (period / 8) m.time pool))).map fun m =>
    let members := spanFrom (period / 8) m.time pool
    ⟨members, addTicks m.time (meanFrom m.time members)⟩

/-- An ONSET put to the pool, and the cluster it completes handed over (R97, R98). -/
def poolOnset (o : Observation) (s : State) : State :=
  let (k, t) := s.takeFree
  match enterPool o t.gather.pool k with
  | none => t
  | some pool =>
    match findCluster t.period t.cfg.quorum pool with
    | none => { t with gather.pool := pool }
    | some c =>
      { t with
        gather := { t.gather with pool := pool.filter (fun m => !hasSource m.source c.members), taking := .cluster c } }

/-! ## Takings (R85, R91, R94, R100, R141) -/

/-- The open gather in whose window a time lies, the earlier mark's of two (R91). -/
def gatherAt (u : GatherUnit) (t : Time) : Option Gather := u.opens.find? fun g => inWindow g.window.first g.window.last t

/-- An ONSET judged against the open gathers, the closed-window record and the stale boundary, in that order (R91, R94). -/
def judgeOnset (o : Observation) (s : State) : State :=
  match gatherAt s.gather o.time with
  | some g =>
    if hasSource o.source g.members then s
    else { s with gather := closeAtQuorum s.cfg.quorum g.mark (s.gather.replaceOpen (g.join o)) }
  | none =>
    if s.gather.closed.any fun w => inWindow w.first w.last o.time then s
    else if since o.time s.gather.staleBoundary < 0 then
      takeException .stale (some (s.stationOf o.source, o.sequence)) s
    else poolOnset o s

/-- The next entry of the observation queue, when the gather unit is free to take one and it is of a kind (R85). -/
def nextTaking (kind : ObsKind) (s : State) : Option Observation :=
  match s.gather.taking, s.gather.queue with
  | .free, o :: _ => if o.kind = kind && s.inPlay then some o else none
  | _, _ => none

/-- ONSET_TAKEN (R91). -/
def execOnsetTaken (s : State) : Host.Outcome State Fault Refusal :=
  match nextTaking .onset s with
  | some o => act s true (judgeOnset o { s with gather.queue := s.gather.queue.tail })
  | none => act s false s

/-- A RELEASE counted in the hold record (R141): not when a release is due, before the threshold, or from a source already counted. -/
def HoldRecord.count (h : HoldRecord) (o : Observation) (quorum : Nat) : HoldRecord :=
  if h.due || decide (since o.time h.threshold < 0) || h.sources.contains o.source then h
  else
    { h with
      sum := h.sum + o.weight, sources := h.sources ++ [o.source], due := decide (quorum ≤ h.sum + o.weight) }

/-- RELEASE_TAKEN (R100, R141): handed to the hold in HOLDING, discarded in LEADING and FOLLOWING. -/
def execReleaseTaken (s : State) : Host.Outcome State Fault Refusal :=
  match nextTaking .release s with
  | some o =>
    let t := { s with gather.queue := s.gather.queue.tail }
    act s true
      (if s.play.state = .holding then { t with follow.hold := t.follow.hold.map fun h => h.count o t.cfg.quorum } else t)
  | none => act s false s

/-! ## Opening and expiry (R90, R94) -/

/-- Whether the next gather to open is due: its window start at or before now, fewer than two open (R90). -/
def openDue (s : State) : Option Mark :=
  if s.inPlay && decide (s.gather.opens.length < 2) then
    (nextToOpen s).filter fun m => reached (newGather s m.position).window.first s.now
  else none

/-- GATHER_OPEN (R90). -/
def execGatherOpen (s : State) : Host.Outcome State Fault Refusal :=
  match openDue s with
  | some m =>
    let t := openGather m.position s
    act s true
      (match t.gather.taking, t.gather.opens.getLast? with
        | .free, some g => if reached g.expiry t.now then { t with gather := closeGather g t.gather } else t
        | _, _ => t)
  | none => act s false s

/-- GATHER_CLOSE_EXPIRY (R94). -/
def execGatherCloseExpiry (which : Fin 2) (s : State) : Host.Outcome State Fault Refusal :=
  match s.gather.opens[which.val]? with
  | some g => act s (s.inPlay && s.gather.taking = .free && reached g.expiry s.now) { s with gather := closeGather g s.gather }
  | none => act s false s

end Sys2Proof.Machine
end

