-- ==== Sys2Proof/Machine/Beat.lean ====
section
/-! DEFINITION. Machine/Beat.lean: the commands of the beat follower (chapters 6 and 7): gather closes, clusters, beat events with their stages,
broadenings, and holds. -/

namespace Sys2Proof.Machine

/-! ## The reports to the play controller (R72) -/

/-- A matched close at the play controller (R72). -/
def reportMatched (p : PlayController) : PlayController :=
  match p.state with
  | .leading =>
    if p.run + 1 < 2 then { p with run := p.run + 1 }
    else if p.leadLock then { p with run := 2 }
    else { p with run := 2, state := .following }
  | _ => p

/-- A VOID close at the play controller (R72). -/
def reportVoid (p : PlayController) : PlayController :=
  match p.state with
  | .leading => { p with run := 0 }
  | _ => p

/-! ## A matched close (R108 to R110) -/

/-- The error of a member against a time (R108). -/
def errorFrom (t : Time) (m : Observation) : Int := since m.time t

/-- The corrections of a matched close (R109): the phase, the change of period, and whether a clamp changed either. -/
structure Correction where
  phase : Int
  change : Int
  clamped : Bool
deriving DecidableEq, Repr

/-- The phase and period corrections of a mean error by the play state in force, with the limits P/8 and P/32 (R109). -/
def correction (c : Configuration) (st : PlayState) (overrun : Bool) (period : Nat) (mean : Int) : Correction :=
  let phase := match st with | .following => roundDiv (mean * c.kp) 16 | _ => roundDiv (mean * c.kp) 64
  let change := match st with | .following => if overrun then 0 else roundDiv (mean * c.ki) 256 | _ => 0
  let p := clampInt (-(period / 8 : Nat)) (period / 8 : Nat) phase
  let d := clampInt (-(period / 32 : Nat)) (period / 32 : Nat) change
  ⟨p, d, p != phase || d != change⟩

/-- The member a SLEW or RANGE from a close names: of weight above 0, the largest error in size, of equals the first that joined (R123). -/
def blamed (s : State) (t : Time) (members : List Observation) : Option (Station × BitVec 8) :=
  (leastBy (fun a b => decide ((errorFrom t b).natAbs < (errorFrom t a).natAbs)) (members.filter fun m => decide (0 < m.weight))).map
    fun m => (s.stationOf m.source, m.sequence)

/-- The anchor write of a matched close in LEADING or FOLLOWING, with its exceptions (R109, R110). -/
def writeClose (g : Gather) (st : PlayState) (mean : Int) (s : State) : State :=
  let t := s.timeOf g.mark
  let k := correction s.cfg st s.follow.overrunPending s.period mean
  let who := blamed s t g.members
  let slewed := takeExceptionIf k.clamped .slew who { beforeChange s with follow.overrunPending := false }
  stage
    (fun u => writePeriod ((u.period : Int) + k.change) who (setAnchor ⟨g.mark, addTicks t k.phase, u.period⟩ u))
    slewed

/-! ## The acceptance of a close (R51, R95, R96, R124) -/

/-- A peer weight after its member's residual at a period (R96). -/
def assess (weightMax period : Nat) (residual : Int) (p : Peer) : Peer :=
  if !p.present then p
  else if residual.natAbs ≤ period / 16 then { p with weight := min weightMax (p.weight + 1) }
  else if period / 8 < residual.natAbs then { p with weight := p.weight - 1 }
  else p

/-- The peer table after a matched close: each peer member assessed (R96). -/
def assessMembers (weightMax period : Nat) (t : Time) (mean : Int) (members : List Observation) (peers : Vector Peer 16) :
    Vector Peer 16 :=
  members.foldl
    (fun ps m =>
      match m.source with
      | .own => ps
      | .peer p => ps.set p (assess weightMax period (errorFrom t m - mean) ps[p]))
    peers

/-- The culprit record cleared when a member from its station lies within P/16 of the mean (R124). -/
def clearCulprit (period : Nat) (t : Time) (mean : Int) (members : List Observation) (s : State) : State :=
  match s.follow.culprit with
  | some (station, _) =>
    if members.any fun m => s.stationOf m.source == station && decide ((errorFrom t m - mean).natAbs ≤ period / 16) then
      { s with follow.culprit := none }
    else s
  | none => s

/-- The acceptance of a close, once its change has completed, its report included (R95, R96, R107): the gather unit free, the mark's SUNG flag
served, and the peer weights changed as given. A close withdrawn meanwhile is not accepted (R102). -/
def acceptClose (mark : Nat) (weights : Vector Peer 16 → Vector Peer 16) (s : State) : State :=
  match s.gather.taking with
  | .close _ =>
    serveSung (fun m => m.position == mark) { s with gather := { s.gather with taking := .free, peers := weights s.gather.peers } }
  | _ => s

/-! ## The stack at a close (R131 to R133) -/

/-- Whether a matched close fits the slot below the TOP better than the TOP, so that the TOP is rolled back (R133). -/
def fitsFallback (s : State) (g : Gather) (mean : Int) : Bool :=
  match s.follow.slots[s.follow.top + 1] with
  | some slot =>
    let below := meanFrom (slot.anchor.timeOf g.mark) g.members
    decide (below.natAbs < mean.natAbs) &&
      decide (below.natAbs ≤ halfWidth slot.anchor.period s.cfg.windowFactor g.gapPrev g.gapNext)
  | none => false

/-- The stack consequences of a matched close under a PROVISIONAL TOP (R131, R133). -/
def judgeMatched (g : Gather) (mean : Int) (s : State) : State :=
  if !s.provisional then s
  else if fitsFallback s g mean then pop s
  else if s.follow.confirmCount = 0 then { s with follow.confirmCount := 1 }
  else confirmTop s

/-! ## The close as one change (R107, R108, R111) -/

/-- The end of a change that wrote no anchor: nothing is reported (R111). -/
def endChange (s : State) : State := { s with follow.change := none }

/-- A matched close applied (R108 to R110, R112, R131). `st` is the play state in force as it is taken. -/
def applyMatched (g : Gather) (st : PlayState) (s : State) : State :=
  let t := s.timeOf g.mark
  let mean := meanFrom t g.members
  let moves := st = .leading || st = .following
  let counted :=
    { s with
      play := reportMatched s.play
      follow := { s.follow with change := some .close, confidence := min 15 (s.follow.confidence + 1), misses := 0 } }
  let written := if moves then writeClose g st mean counted else counted
  let period := written.period
  let judged := if moves then stage (judgeMatched g mean) written else written
  let reported := stage (if moves then reportAnchor else endChange) (stage (clearCulprit period t mean g.members) judged)
  testExhausted (acceptClose g.mark (assessMembers s.cfg.weightMax period t mean g.members) reported)

/-- A VOID close applied (R111, R112, R132). -/
def applyVoid (g : Gather) (st : PlayState) (s : State) : State :=
  let voided :=
    takeException .void none { s with play := reportVoid s.play, follow := { s.follow with change := some .close } }
  let counted :=
    stage
      (fun u =>
        let v :=
          { u with
            follow :=
              { u.follow with
                confidence := u.follow.confidence - 2
                misses := if st = .following then u.follow.misses + 1 else u.follow.misses } }
        takeExceptionIf (st = .following && decide (3 ≤ v.follow.misses)) .diverge none v)
      voided
  let pops := (st = .leading || st = .following) && counted.provisional
  let popped := if pops then stage pop counted else counted
  testExhausted (acceptClose g.mark id (stage (if pops then reportAnchor else endChange) popped))

/-- GATHER_CLOSE_TAKEN (R108). -/
def execGatherCloseTaken (s : State) : Host.Outcome State Fault Refusal :=
  match s.gather.taking with
  | .close g => act s s.inPlay (if 0 < g.sum then applyMatched g s.play.state s else applyVoid g s.play.state s)
  | _ => act s false s

/-! ## Clusters (R135, R144) -/

/-- The next SUNG mark ahead of a cluster: unserved, its window start after the cluster's time (R135). -/
def slipTarget (s : State) (c : Cluster) : Option Mark :=
  firstSung s.store.queue fun m => decide (0 < since (windowStart s m) c.time)

/-- A cluster taken in LEADING or FOLLOWING (R135). -/
def clusterAhead (c : Cluster) (s : State) : State :=
  match slipTarget s c with
  | some m => acceptCluster (some m.position) c (stage reportAnchor (slip m.position c.time { s with follow.change := some .cluster }))
  | none => acceptCluster none c s

/-- A cluster taken in HOLDING: the hold released at now, then the next SUNG mark's anchor pushed, reported once (R144). -/
def clusterInHold (c : Cluster) (s : State) : State :=
  match s.follow.hold with
  | none => s
  | some h =>
    let released := releaseSteps s
    match firstSung released.store.queue fun m => decide (h.point < m.position) with
    | some m => acceptCluster (some m.position) c (stage reportAnchor (stage (slip m.position c.time) released))
    | none => acceptCluster none c (stage reportAnchor released)

/-- CLUSTER_TAKEN (R135, R144). -/
def execClusterTaken (s : State) : Host.Outcome State Fault Refusal :=
  match s.gather.taking with
  | .cluster c => act s s.inPlay (if s.play.state = .holding then clusterInHold c s else clusterAhead c s)
  | _ => act s false s

/-! ## The stages of a beat event (R114 to R118, R177) -/

/-- The re-base: the anchor at the beat, with the same period (R114). The position is then at the beat, and with it may have reached the end of
score, which a coupling that moves the line back does not take away (R55, R78). -/
def rebase (b : Nat) (s : State) : State :=
  noteEnd (setAnchor ⟨24 * b, s.timeOf (24 * b), s.period⟩
    { beforeChange s with follow := { s.follow with change := some .beat, nextBeat := some (b + 1) } })

/-- The section that follows the current one, when the beat is at or after its start (R71). -/
def boundaryAt (s : State) (b : Nat) : Option Nat :=
  match s.header, s.play.sect with
  | some h, some v => if v < h.verses && decide (h.sectionStart (v + 1) ≤ b) then some (v + 1) else none
  | _, _ => none

/-- The section stage: a boundary taken, the state LEADING, the lead lock cleared, the period scaled, the broaden flag cleared (R71). -/
def sectionStage (b : Nat) (s : State) : State :=
  match boundaryAt s b with
  | none => s
  | some v =>
    let t :=
      { s with play := { s.play with state := .leading, sect := some v, run := 0, leadLock := false }, follow.broaden := false }
    match t.plan with
    | some plan => writePeriod (roundDiv (t.period * plan.scale) 16) none t
    | none => t

/-- The broadening stage (R114, R115). -/
def broadenStage (b : Nat) (s : State) : State :=
  let t := reachBroaden (24 * b : Nat) s
  if t.follow.broaden then writePeriod (t.period + roundDiv t.period 64) none t else t

/-- One claim used by the coupling stage: its weight, its offset and its period (R116). -/
structure Coupled where
  weight : Nat
  offset : Int
  period : Nat
deriving DecidableEq, Repr

/-- A peer's claim as the coupling stage of beat `b` uses it; none when it is not used (R116). -/
def coupledClaim (s : State) (b : Nat) (p : Peer) : Option Coupled :=
  match p.present, p.claim with
  | true, some c =>
    let projected := addTicks c.beatTime (((b : Int) - c.fields.beat) * c.fields.period)
    let offset := since projected (s.timeOf (24 * b))
    if s.loadedNumber = some c.fields.hymn && 4 ≤ c.fields.confidence && decide (since s.now c.heard ≤ 2 * s.period) &&
        decide (offset.natAbs ≤ s.period / 4) then
      some ⟨p.weight, offset, c.fields.period⟩
    else none
  | _, _ => none

/-- The claims used by the coupling stage (R116). -/
def coupledClaims (s : State) (b : Nat) : List Coupled := s.gather.peers.toList.filterMap (coupledClaim s b)

/-- The summed weight of the claims used. -/
def coupledWeight (cs : List Coupled) : Nat := (cs.map (·.weight)).sum

/-- The weighted mean of a figure of the claims used, rounded (R117). -/
def coupledMean (figure : Coupled → Int) (cs : List Coupled) : Int :=
  roundDiv ((cs.map fun c => (c.weight : Int) * figure c).sum) (coupledWeight cs)

/-- The coupling stage (R116, R117): the anchor time shifted within P/32, the period drawn toward the peers' mean. -/
def couplingStage (b : Nat) (s : State) : State :=
  let cs := coupledClaims s b
  if coupledWeight cs = 0 then s
  else
    let limit : Int := (s.period / 32 : Nat)
    let raw := roundDiv (coupledMean (·.offset) cs * s.cfg.kc) 16
    let shift := clampInt (-limit) limit raw
    let period := s.period + roundDiv ((coupledMean (fun c => c.period) cs - s.period) * s.cfg.kc) 64
    let moved := setAnchor ⟨24 * b, addTicks (s.timeOf (24 * b)) shift, s.period⟩ s
    stage (writePeriod period none) (takeExceptionIf (shift != raw) .slew none moved)

/-- The play state code of a PULSE (R60). -/
def State.tempo (s : State) : Tempo := if s.play.state = .following then .following else .leading

/-- The fields of the PULSE frame of beat `b`, with the play state code as the section stage left it (R60, R118). -/
def pulseFields (b : Nat) (code : Tempo) (s : State) : PulseFields where
  hymn := s.loadedNumber.getD 0
  beat := b
  period := s.period
  confidence := s.follow.confidence
  tempo := code
  level := s.ownLevel.getD 0
  resync := s.follow.resyncPending
  listening := s.ownLevel.isSome
  leadLock := s.play.leadLock
  fault := s.fault.latches != 0
  summary := s.summary
  culprit := s.follow.culprit.map (·.1)

/-- The PULSE stage: a PULSE offered with the beat's time before coupling, and resync pending cleared (R118, R119). -/
def pulseStage (b : Nat) (eventTime : Time) (code : Tempo) (s : State) : State :=
  offerFrame (.pulse (pulseFields b code s)) eventTime { s with follow.resyncPending := false }

/-- The level a peer's claim gives to a swell step, with its weight (R178). -/
def peerLevel (s : State) (p : Peer) : Option (Nat × Nat) :=
  match p.present, p.claim with
  | true, some c =>
    if s.loadedNumber = some c.fields.hymn && c.fields.listening && decide (since s.now c.heard ≤ 2 * s.period) then
      some (p.weight, c.fields.level)
    else none
  | _, _ => none

/-- The levels available at a swell step, with their weights (R178). -/
def levels (s : State) : List (Nat × Nat) :=
  (match s.ownLevel with
    | some l => [(s.cfg.selfWeight, l)]
    | none => []) ++ s.gather.peers.toList.filterMap (peerLevel s)

/-- The level of a swell step: the weighted mean, none when the weights sum to 0 (R178). -/
def stepLevel (ls : List (Nat × Nat)) : Option Nat :=
  let total := (ls.map (·.1)).sum
  if total = 0 then none else some (roundDiv ((ls.map fun x => x.1 * x.2).sum : Nat) total).toNat

/-- The most a swell step moves the position (R177). -/
def SwellMode.slew : SwellMode → Nat
  | .fixed | .quick => 32
  | .steady => 12
  | .slow => 4

/-- The swell target of a step (R177). -/
def swellTarget (plan : PlanEntry) (level : Option Nat) (target : Nat) : Nat :=
  match plan.mode, level with
  | .fixed, _ => plan.ceiling
  | _, some l => plan.floor + (roundDiv (l * (plan.ceiling - plan.floor) : Nat) 255).toNat
  | _, none => clampNat plan.floor plan.ceiling target

/-- A position moved toward a target by at most a slew (R177). -/
def slewTo (slew position target : Nat) : Nat :=
  if position ≤ target then min target (position + slew) else max target (position - slew)

/-- The swell stage (R114, R177). -/
def swellStage (s : State) : State :=
  match s.plan with
  | none => s
  | some plan =>
    let target := swellTarget plan (stepLevel (levels s)) s.out.target
    { s with out := { s.out with target := target, swell := slewTo plan.mode.slew s.out.swell target } }

/-- A beat event for beat `b`, whole (R114). -/
def beatStages (b : Nat) (s : State) : State :=
  let time := s.timeOf (24 * b)
  let sectioned := stage (sectionStage b) (rebase b s)
  stage reportAnchor
    (stage swellStage
      (stage (pulseStage b time sectioned.tempo) (stage (couplingStage b) (stage (broadenStage b) sectioned))))

/-- BEAT_EVENT (R113, R114). -/
def execBeatEvent (s : State) : Host.Outcome State Fault Refusal :=
  match s.follow.nextBeat with
  | some b => act s (s.moving && reached (s.timeOf (24 * b)) s.now) (beatStages b s)
  | none => act s false s

/-- BROADEN_MARK_REACHED (R115): as now advances, the ruling position comes to the first BROADEN mark not reached. -/
def execBroadenMarkReached (s : State) : Host.Outcome State Fault Refusal :=
  match s.store.queue.find? fun m => m.broaden == .unserved with
  | some m => act s (s.moving && decide ((m.position : Int) ≤ s.position) && !beatGoesFirst s m.position) (reachBroaden m.position s)
  | none => act s false s

/-! ## Holds (R101, R139, R142, R143) -/

/-- Gathers of marks after the hold point withdrawn; the previous SUNG position is that of the last gather still open or closed (R101). -/
def withdrawAfter (point : Nat) (u : GatherUnit) : GatherUnit :=
  let gone (g : Gather) : Bool := decide (point < g.mark)
  match u.opens.find? gone with
  | none => u
  | some g =>
    { u with opens := u.opens.filter fun o => !gone o, previousSung := g.gapPrev.map fun gap => g.mark - gap }.prunePool

/-- The hold beat count of the mark at a position. -/
def holdBeatsOf (q : List Mark) (position : Nat) : Nat :=
  match q.find? fun m => m.position == position with
  | some m => m.holdBeats
  | none => 1

/-- The hold taken at a watched mark, as one change (R139, R74, R101, R162). -/
def takeHold (w : Watch) (s : State) : State :=
  let time := s.timeOf w.point
  let record : HoldRecord :=
    ⟨w.mark, w.point, s.timeOf w.mark, addTicks time (holdBeatsOf s.store.queue w.mark * s.period), 0, [], false⟩
  let broadened := reachBroaden w.point { beforeChange s with follow.change := some .hold }
  let based := setAnchor ⟨w.point, time, s.period⟩ broadened
  let held :=
    serveHold w.mark
      { based with
        follow := { based.follow with hold := some record, watch := none }
        play := { based.play with state := .holding, returnState := some s.tempo }
        gather := withdrawAfter w.point based.gather
        sched := { holdFrom w.point based.sched with barrier := some w.point } }
  reportAnchor (settleWatch (settleTable held))

/-- HOLD_POINT_REACHED (R138, R139). -/
def execHoldPointReached (s : State) : Host.Outcome State Fault Refusal :=
  match s.follow.watch with
  | some w => act s (s.moving && reached (s.timeOf w.point) s.now) (takeHold w s)
  | none => act s false s

/-- HOLD_LIMIT_EXPIRY (R142): the release falls due. -/
def execHoldLimitExpiry (s : State) : Host.Outcome State Fault Refusal :=
  match s.follow.hold with
  | some h =>
    act s (s.play.state = .holding && !h.due && reached h.limit s.now) { s with follow.hold := some { h with due := true } }
  | none => act s false s

/-- HOLD_RELEASE (R143). -/
def execHoldRelease (s : State) : Host.Outcome State Fault Refusal :=
  match s.follow.hold with
  | some h => act s (s.play.state = .holding && h.due) (stage reportAnchor (releaseSteps s))
  | none => act s false s

end Sys2Proof.Machine
end

