-- ==== Sys2Proof/Machine/Start.lean ====
section
/-! DEFINITION. Machine/Start.lean: the commands of start-up (chapter 11): the reset input, the full start, the configuration read, the
self-checks, the off-pulses and the joining of the line. -/

namespace Sys2Proof.Machine

/-! ## The end of the checks (R198, R201) -/

/-- The start step JOINING: the line interface's count of continuously high bit times begins (R12, R201). -/
def beginJoining (s : State) : State := { s with startup.step := .joining, line.joinTime := some 0 }

/-- The sixteen off-pulses of start-up set together for one stop pulse width (R175, R201). -/
def beginOffPulses (s : State) : State :=
  let ends := addTicks s.now s.cfg.stopPulse
  { s with startup := { s.startup with step := .pulses, pulsesEnd := ends }, out.offCoils := Vector.replicate 16 (some ends) }

/-- The step CHECKS ended once no check runs any more (R198, R201). -/
def endChecks (s : State) : State :=
  if s.startup.step = .checks && s.startup.valveCheck.isNone && !s.startup.soundCheck then
    if s.cfg.play then beginOffPulses s else beginJoining s
  else s

/-! ## The commands -/

/-- RESET_ASSERTED (R194): HELD; every block as full start sets it; the strap value, the configuration and the silencing record kept to the
next release (R203); the pin of the cutoff is the outside's. -/
def execResetAsserted (s : State) : Host.Outcome State Fault Refusal :=
  act s true
    { State.reset with
      pending := s.pending
      clock := { s.clock with bit := 0 }
      startup :=
        { StartUp.initial with
          strap := s.startup.strap, config := s.startup.config, silencingRecorded := s.startup.silencingRecorded }
      out := .initial s.out.cutoff.pin }

/-- The station at the release of the reset input (R195): the counter 0, the straps sampled, the step READ with the section's read running,
the cutoff's first sample taken. -/
def releasedState (straps : Station) (s : State) : State :=
  { State.reset with
    pending := s.pending
    clock := ⟨0, 0, s.clock.opened⟩
    startup := { StartUp.initial with step := .read, strap := straps }
    store.port.serving := some ⟨.configuration, 128 * straps.val, 69⟩
    out :=
      { OutputStage.initial s.out.cutoff.pin with
        cutoff := { Cutoff.initial s.out.cutoff.pin with early := [s.out.cutoff.pin] } } }

/-- FULL_START (R195). -/
def execFullStart (straps : Station) (s : State) : Host.Outcome State Fault Refusal := act s true (releasedState straps s)

/-- The configuration record of a section as read: the defaults when its check fails, whose division is NONE and PLAY clear (R196). -/
def sectionConfig (bytes : List Byte) : Configuration := if checked bytes then parseSection bytes else .defaults

/-- Whether a section raises CONFIG: its check fails, or its division byte is neither 0 to 7 nor 255 (R196, R197). -/
def sectionRaises (bytes : List Byte) : Bool := !checked bytes || sectionDivisionBad bytes

/-- The end of the configuration read (R195, R196, R198): the record taken, the swell at rest, the port read from now on (R36), the loss
watch and the checks started. Peer weights stay within the weight maximum now in force (R86). -/
def endConfiguration (c : Configuration) (s : State) : State :=
  { s with
    startup :=
      { s.startup with
        step := .checks, config := c, configEnd := s.now, valveCheck := if c.play then some 3 else none, soundCheck := c.listen }
    store.port := s.store.port.done
    front := { s.front with lastSample := s.now, portTicks := 0 }
    gather.peers := mapVec (fun p => { p with weight := min p.weight c.weightMax }) s.gather.peers
    out := { s.out with swell := c.swellRest, target := c.swellRest } }

/-- CONFIGURATION_SECTION_READ (R196). -/
def execConfigurationSectionRead (bytes : List Byte) (s : State) : Host.Outcome State Fault Refusal :=
  act s (s.store.port.completes [.configuration] bytes.length)
    (if s.startup.step = .read && !s.store.port.abandoned then
      let t := endConfiguration (sectionConfig bytes) s
      endChecks (if sectionRaises bytes then raiseFault 5 t else t)
    else { s with store.port := s.store.port.done })

/-- SOUND_CHECK_TIMEOUT (R200): the sound check fails; SOUND is raised unless the loss report already reads reported. -/
def execSoundCheckTimeout (s : State) : Host.Outcome State Fault Refusal :=
  act s (s.startup.step = .checks && s.startup.soundCheck && decide (Config.soundCheckTicks ≤ since s.now s.startup.configEnd))
    (let t := { s with startup.soundCheck := false }
    endChecks (if t.front.lossReported then t else raiseFault 6 t))

/-- OFF_PULSES_END (R201, R175): the off-coils released, and the step JOINING. -/
def execOffPulsesEnd (s : State) : Host.Outcome State Fault Refusal :=
  act s (s.startup.step = .pulses && reached s.startup.pulsesEnd s.now)
    (beginJoining { s with out.offCoils := Vector.replicate 16 none })

/-- The end of full start (R201): DONE, and the play state IDLE, or SILENCED when a silencing was recorded. -/
def endFullStart (s : State) : State :=
  let t := { s with startup.step := .done, play.state := .idle }
  if t.startup.silencingRecorded then enterSilenced t else t

/-- The count of R12, none when it does not run: the continuously high bit times since it began. -/
def LineInterface.joinCount (l : LineInterface) : Option Nat := l.joinTime.map (min l.high)

/-- JOIN_COUNT_COMPLETE (R12): ACTIVE; during full start the start ends. -/
def execJoinCountComplete (s : State) : Host.Outcome State Fault Refusal :=
  act s (s.line.transmitter = .joining && s.line.joinCount.any (fun n => decide (Config.joinBits ≤ n)))
    (let t := { s with line := { s.line with transmitter := .active, joinTime := none } }
    if t.startup.step = .joining then endFullStart t else t)

end Sys2Proof.Machine
end

