-- ==== Sys2Proof/Machine/Cues.lean ====
section
/-! DEFINITION. Machine/Cues.lean: the taking of cues by the play controller and the commands of the cue port (chapter 4). -/

namespace Sys2Proof.Machine

/-! ## Offering cues (R62 to R64) -/

/-- A CUE frame offered with the debounced hymn number (R64). -/
def offerCue (c : Cue) (s : State) : State := offerFrame (.cue c s.cue.number) 0 s

/-- Whether the debounced hymn number is to be sent: stable for 250 ms, not 0, and not the last one sent (R62). -/
def selectDue (s : State) : Bool :=
  s.configured && !s.isHalted && s.cue.settled && s.cue.number != 0 && s.cue.number != s.cue.lastSent &&
    decide (Config.stableTicks ≤ since s.now s.cue.changedAt)

/-- SELECT offered for the panel's number, which becomes the last one sent (R62). -/
def offerSelect (s : State) : State := { offerCue .select s with cue.lastSent := s.cue.number }

/-! ## Taking cues (R65 to R70, R80) -/

/-- The hymn being loaded, at whatever step the load stands (R67). -/
def State.loadingNumber (s : State) : Option Nat :=
  match s.store.loader with
  | .idle => none
  | .count n => some n
  | .search n _ _ _ => some n
  | .header n _ _ => some n
  | .plan _ h => some h.number
  | .priming => s.header.map (·.number)

/-- SELECT n taken (R65, R66). -/
def takeSelect (n : Nat) (s : State) : State :=
  match s.play.state with
  | .idle | .loading | .loaded =>
    beginLoad n { s with play := { s.play with pendingStart := none, join := none, barred := none } }
  | _ => s

/-- START n taken (R65, R67): in LOADING a pending START, in LOADED play begins. -/
def takeStart (n : Nat) (s : State) : State :=
  match s.play.state with
  | .loading => if s.loadingNumber = some n then { s with play.pendingStart := some s.line.markLatch } else s
  | .loaded => if s.loadedNumber = some n then playBegin s.line.markLatch s else s
  | _ => s

/-- SILENCED left by STOP (R59, R80): the swell to rest; LOADED with a seek to 0 when a hymn is loaded, else IDLE with the readers idle. -/
def leaveSilenced (s : State) : State :=
  let t := { s with out := { s.out with swell := s.cfg.swellRest, target := s.cfg.swellRest } }
  if s.store.hymn.isSome then beginSeek 0 { t with play.state := .loaded }
  else
    { t with
      play.state := .idle
      store := { t.store with marks := { t.store.marks with phase := .idle }, notes := { t.store.notes with phase := .idle } } }

/-- STOP taken (R65, R68, R69, R80). -/
def takeStop (s : State) : State :=
  match s.play.state with
  | .leading | .following | .holding => stopPlay s
  | .loading => { s with play := { s.play with pendingStart := none, join := none } }
  | .loaded =>
    let t := { s with play.join := none }
    if joinSeeking s then beginSeek 0 t else t
  | .silenced => if s.out.cutoff.asserted then s else leaveSilenced s
  | .starting | .idle | .halted => s

/-- The line interface at RESTART: the queue empty; leaving HALTED the transmitter JOINING with its count begun (R12, R21, R70). -/
def restartLine (halted : Bool) (l : LineInterface) : LineInterface :=
  if halted then { l with queue := [], onLine := none, transmitter := .joining, joinTime := some 0 }
  else { l with queue := [], onLine := none }

/-- The station after RESTART, before the standing hymn number is offered again (R70, R203). The mismatch run and report are kept (R181), and
what VALVE raises follow is the return check's (R171, log 42). Out of HALTED the sound port is read from this moment; elsewhere it was read
throughout, and a sample being read goes on (R23, R36). The planned stop set, which R59 takes from the stop image at the next priming, is all off
till then (log 55, DESIGN CHOICE). -/
def restarted (s : State) : State :=
  let t := emptyUnfired s
  { t with
    play := { PlayController.initial with state := .idle }
    store := { ScoreStore.initial with port := { s.store.port.abandonAll with granting := true } }
    gather := emptyGather s.gather
    follow := .initial
    fault := { s.fault with latches := 0, silencing := none }
    front :=
      { FrontEnd.initial with
        sequence := s.front.sequence, lastSample := s.now, portTicks := if s.isHalted then 0 else s.front.portTicks }
    line := restartLine s.isHalted s.line
    out :=
      { t.out with
        swell := s.cfg.swellRest, target := s.cfg.swellRest, sent := if s.isHalted then none else s.out.sent }
    cue.lastSent := 0 }

/-- RESTART taken (R70): the station restarted, and the panel's standing number offered at once when it is due (R62). -/
def restartStation (s : State) : State :=
  let t := restarted s
  if selectDue t then offerSelect t else t

/-- A cue taken by the play controller (R65); during full start it is ignored (R202). -/
def takeCue (c : Cue) (n : Nat) (s : State) : State :=
  match c with
  | .select => takeSelect n s
  | .start => takeStart n s
  | .stop => takeStop s
  | .restart => if s.play.state = .starting then s else restartStation s

/-! ## The cue port (R61 to R64) -/

/-- HYMN_NUMBER_STABLE (R62). -/
def execHymnNumberStable (s : State) : Host.Outcome State Fault Refusal := act s (selectDue s) (offerSelect s)

/-- The other button. -/
def Button.other : Button → Button
  | .start => .stop
  | .stop => .start

/-- The cue of a button (R63). -/
def Button.cue : Button → Cue
  | .start => .start
  | .stop => .stop

/-- Whether a press edge of a button waits to be taken. -/
def CuePort.edge (c : CuePort) : Button → Bool
  | .start => c.startEdge
  | .stop => c.stopEdge

/-- A press edge taken. -/
def CuePort.clearEdge (c : CuePort) : Button → CuePort
  | .start => { c with startEdge := false }
  | .stop => { c with stopEdge := false }

/-- BUTTON_PRESS_EDGE (R63): the button's cue with the other released; with the other pressed a both-held period begins. The other button is
judged by its level as it stands, so of two edges that one sample made each finds the other pressed (log 52, DESIGN CHOICE). -/
def execButtonPressEdge (b : Button) (s : State) : Host.Outcome State Fault Refusal :=
  act s (s.configured && s.cue.edge b)
    (let t := { s with cue := s.cue.clearEdge b }
    if s.cue.pressed (Button.other b) then
      if s.cue.bothHeld.isSome then t else { t with cue := { t.cue with bothHeld := some s.now, bothSent := false } }
    else offerCue (Button.cue b) t)

/-- BOTH_HELD_RESTART (R63, R64): a RESTART cue offered; a HALTED station takes it at once without a frame. -/
def execBothHeldRestart (s : State) : Host.Outcome State Fault Refusal :=
  act s
    (s.configured && !s.cue.bothSent &&
      s.cue.bothHeld.any (fun t => decide (Config.bothHeldTicks ≤ since s.now t)))
    (let t := { s with cue.bothSent := true }
    if s.isHalted then restartStation t else offerCue .restart t)

/-- The count of consecutive samples that differ from a line's level, after one more sample; 3 is a change (R61). -/
def nextRun (run : Nat) (differs : Bool) : Nat := if differs then run + 1 else 0

/-- The lines whose level changes at a sample: those whose third consecutive sample differs from it (R61). -/
def changedLines (c : CuePort) (lines : BitVec 12) : BitVec 12 :=
  BitVec.ofNat 12
    (bitsToNat ((List.finRange 12).map fun i => 3 ≤ nextRun c.runs[i] (lines.getLsbD i.val != c.levels.getLsbD i.val)))

/-- The runs after a sample. -/
def runsAfter (c : CuePort) (lines : BitVec 12) : Vector Nat 12 :=
  Vector.ofFn fun i : Fin 12 =>
    let n := nextRun c.runs[i] (lines.getLsbD i.val != c.levels.getLsbD i.val)
    if 3 ≤ n then 0 else n

/-- A cue port sample once the levels have been set: levels, the time of the last number change, press edges and the end of a both-held
period (R61 to R63). Every level is set before any edge of the sample is taken, so buttons that become pressed at one sample offer no cue and
begin a both-held period: R63 leaves this open (log 52, DESIGN CHOICE). -/
def sampleSettled (lines : BitVec 12) (now : Time) (c : CuePort) : CuePort :=
  let levels := c.levels ^^^ changedLines c lines
  let d := { c with levels := levels, runs := runsAfter c lines, sampledAt := some now }
  let both := d.pressed .start && d.pressed .stop
  { d with
    changedAt := if d.number = c.number then c.changedAt else now
    startEdge := c.startEdge || (d.pressed .start && !c.pressed .start)
    stopEdge := c.stopEdge || (d.pressed .stop && !c.pressed .stop)
    bothHeld := if both then c.bothHeld else none
    bothSent := both && c.bothSent }

/-- The level a line's first three samples set: theirs when they agree, else a free value (R61, log 7). -/
def earlyLevel (seed : Nat) (samples : List (BitVec 12)) (i : Nat) : Bool :=
  if samples.all (·.getLsbD i) then true
  else if samples.all (fun x => !x.getLsbD i) then false
  else Config.startLevel (12 * seed + i)

/-- The levels set by the first three samples, without any edge (R61). -/
def settleCue (seed : Nat) (samples : List (BitVec 12)) (now : Time) (c : CuePort) : CuePort :=
  { c with
    levels := BitVec.ofNat 12 (bitsToNat ((List.range 12).map (earlyLevel seed samples)))
    early := [], settled := true, sampledAt := some now, changedAt := now }

/-- Whether a cue port sample is due: every 10 ticks from the end of the configuration read (R61). -/
def cueSampleDue (s : State) : Bool :=
  s.configured &&
    match s.cue.sampledAt with
    | none => true
    | some t => decide (Config.sampleTicks ≤ since s.now t)

/-- DEBOUNCED_LEVEL_CHANGE (R61): one sample of the twelve lines. -/
def execDebouncedLevelChange (lines : BitVec 12) (s : State) : Host.Outcome State Fault Refusal :=
  act s (cueSampleDue s)
    (if s.cue.settled then { s with cue := sampleSettled lines s.now s.cue }
    else if s.cue.early.length < 2 then { s with cue := { s.cue with early := s.cue.early ++ [lines], sampledAt := some s.now } }
    else
      let (k, t) := s.takeFree
      { t with cue := settleCue k (s.cue.early ++ [lines]) s.now s.cue })

end Sys2Proof.Machine
end

