-- ==== Sys2Proof/Machine/Firing.lean ====
section
/-! DEFINITION. Machine/Firing.lean: the commands of the action scheduler (chapter 8): the re-time pass, arming, firing and the channels. -/

namespace Sys2Proof.Machine

/-! ## The re-time pass (R158 to R160) -/

/-- Whether an entry stands after the cursor of a pass: higher position, or of equal positions a higher entry (R158). -/
def beyond (cursor : Cursor) (position : Nat) (e : EntryNo) : Bool :=
  match cursor with
  | .start => true
  | .after p f => decide (p < position) || (p == position && decide (f < e))

/-- The order of a pass: rising play position, then rising entry (R158). -/
def visitedBefore (sc : Scheduler) (e f : EntryNo) : Bool :=
  decide (positionOf sc e < positionOf sc f) || (positionOf sc e == positionOf sc f && decide (e < f))

/-- The next WAITING or ARMED action a pass visits (R158). -/
def nextVisit (sc : Scheduler) (cursor : Cursor) : Option EntryNo :=
  leastBy (visitedBefore sc)
    ((List.finRange 64).filter fun e => (sc.table[e]).any fun a => a.live && beyond cursor a.position e)

/-- The pass ended when no action stands after the last one visited (R158). -/
def endPass (s : State) : State :=
  match s.sched.pass with
  | some c => if (nextVisit s.sched c).isNone then { s with sched.pass := none } else s
  | none => s

/-- A visit to a WAITING action: its due time computed afresh, and the action tested (R158). -/
def visitWaiting (e : EntryNo) (a : Action) (s : State) : State :=
  settleTable (testEntry e { s with sched := setEntry e (some { a with due := some (dueOf s a) }) s.sched })

/-- A visit to an ARMED action: un-armed when its new due time lies beyond the horizon, its channel's expiry replaced when within it, fired
at once when it has passed (R159). -/
def visitArmed (e : EntryNo) (c : ChannelNo) (a : Action) (s : State) : State :=
  let due := dueOf s a
  if reached due s.now then settleTable (fireAtOnce e a due s)
  else if inHorizon s.now due then
    { s with sched := setChannel c (.waiting e due) (setEntry e (some { a with due := some due }) s.sched) }
  else
    settleTable
      { s with sched := setChannel c .free (setEntry e (some { a with state := .waiting, due := some due }) s.sched) }

/-- One visit of the pass (R158, R159). -/
def visit (e : EntryNo) (s : State) : State :=
  match s.sched.table[e] with
  | none => s
  | some a =>
    let t := { s with sched.pass := some (.after a.position e) }
    match a.state with
    | .waiting => visitWaiting e a t
    | .armed c => visitArmed e c a t
    | .held _ => s

/-- RETIME_VISIT (R159). -/
def execRetimeVisit (s : State) : Host.Outcome State Fault Refusal :=
  match s.sched.pass with
  | none => act s false s
  | some cursor =>
    act s true
      (match nextVisit s.sched cursor with
        | some e => endPass (visit e s)
        | none => { s with sched.pass := none })

/-! ## Arming and channels (R152 to R156) -/

/-- ACTION_ARM (R152): an action within the horizon and a FREE channel; the channels are handed on in the order of R152. -/
def execActionArm (e : EntryNo) (s : State) : Host.Outcome State Fault Refusal :=
  act s (waitsForChannel s e && (lowestFreeChannel s.sched).isSome) (settleTable s)

/-- Whether the due time of an eligible WAITING action has passed (R153). -/
def overdue (s : State) (e : EntryNo) : Bool := (readyDue s.sched e).any fun d => reached d s.now

/-- DUE_TIME_PASSED_WAITING (R153). -/
def execDueTimePassedWaiting (e : EntryNo) (s : State) : Host.Outcome State Fault Refusal :=
  act s (overdue s e) (settleTable (testEntry e s))

/-- The action of a channel applied at its expiry: a note's channel becomes FREE, a STOP's goes to PULSING (R154). -/
def applyExpired (c : ChannelNo) (e : EntryNo) (expiry : Time) (s : State) : State :=
  match s.sched.table[e] with
  | none => { s with sched := setChannel c .free s.sched }
  | some a =>
    match a.kind with
    | .noteOn key => applyNoteOn e key a expiry { s with sched := setChannel c .free s.sched }
    | .noteOff key => applyNoteOff e key { s with sched := setChannel c .free s.sched }
    | .stop stop coil => startPulse e stop coil c s

/-- CHANNEL_EXPIRY (R154). -/
def execChannelExpiry (c : ChannelNo) (s : State) : Host.Outcome State Fault Refusal :=
  match s.sched.channels[c] with
  | .waiting e expiry => act s (reached expiry s.now) (settleTable (applyExpired c e expiry s))
  | _ => act s false s

/-- STOP_PULSE_END (R156): the channel becomes FREE and is handed on. -/
def execStopPulseEnd (c : ChannelNo) (s : State) : Host.Outcome State Fault Refusal :=
  match s.sched.channels[c] with
  | .pulsing ends => act s (reached ends s.now) (settleTable { s with sched := setChannel c .free s.sched })
  | _ => act s false s

end Sys2Proof.Machine
end

