-- ==== Sys2Proof/WellFormed.lean ====
section
/-! DEFINITION. WellFormed.lean: which commands can be events of the part at all: the counts of bit times that make the event what it
is named, and the lengths of what a frame or a flash read brings. -/

namespace Sys2Proof.Instr

/-- The bytes of a frame: two bytes before the payload, at most twelve of payload, two of check (R3, R204). -/
def frameLength (bytes : List Byte) : Bool := 4 ≤ bytes.length && bytes.length ≤ 16

/-- The bits of a byte that the receive framing breaks off at: a start bit that is 1, or ten bits from a start bit of 0 to a stop bit of 0
(R18). -/
def brokenByte (bits : List Bool) : Bool :=
  match bits with
  | [true] => true
  | [false, _, _, _, _, _, _, _, _, false] => true
  | _ => false

/-- The bytes of a stream block: 1 to 16 records of `size` bytes and a check of two (R39, R206). -/
def blockLength (size : Nat) (bytes : List Byte) : Bool :=
  (bytes.length - 2) % size == 0 && size + 2 ≤ bytes.length && bytes.length ≤ 16 * size + 2

/-- A command that could be an event of the part. -/
def wellFormed : Instr → Bool
  | .configurationSectionRead bytes => bytes.length == 69
  | .frameMark lowBits => 11 ≤ lowBits && lowBits ≤ 13
  | .frameClash bit _ => bit < 13 + 10 * 16
  | .lineHeldLow lowBits => 200 < lowBits
  | .syncMarkRejected lowBits => 13 < lowBits
  | .invalidFrame bytes broken => bytes.length ≤ 16 && (broken.isEmpty || brokenByte broken)
  | .sampleTaken edges _ => 17 ≤ edges.length
  | .heardReceived bytes => bytes.length == 9
  | .pulseReceived bytes => bytes.length == 16
  | .haltReceived bytes => bytes.length == 5
  | .faultReceived bytes => bytes.length == 8
  | .duplicate bytes => frameLength bytes
  | .select bytes => bytes.length == 7
  | .start bytes => bytes.length == 7
  | .stop bytes => bytes.length == 7
  | .restart bytes => bytes.length == 7
  | .directoryRead bytes => bytes.length == 2 || bytes.length == 8
  | .headerRead bytes => bytes.length == 59
  | .versePlanRead bytes => (bytes.length - 2) % 21 == 0 && 23 ≤ bytes.length && bytes.length ≤ 170
  | .markBlockRead bytes => blockLength 4 bytes
  | .noteBlockRead bytes => blockLength 5 bytes
  | .resetAsserted | .fullStart _ | .soundCheckTimeout | .offPulsesEnd | .joinCountComplete | .syncMarkBegin | .frameComplete
  | .lineReleasedHigh | .lineQuiet _ | .peerAbsenceExpiry _ | .soundInputLost | .hymnNumberStable | .buttonPressEdge _
  | .bothHeldRestart | .markAppend | .notePairInsert | .stopActionInsert | .endOfScore | .onsetTaken | .releaseTaken
  | .gatherOpen | .gatherCloseExpiry _ | .gatherCloseTaken | .clusterTaken | .beatEvent | .broadenMarkReached
  | .holdPointReached | .holdLimitExpiry | .holdRelease | .retimeVisit | .actionArm _ | .dueTimePassedWaiting _
  | .channelExpiry _ | .stopPulseEnd _ | .coilRelease _ _ | .valveFrameStart | .valveFrameLatch _ | .cutoffPinChange _
  | .assertionEdge | .cutoffReleaseEdge | .pwmPeriodStart | .debouncedLevelChange _ => true

end Sys2Proof.Instr
end

