-- ==== Sys2Proof/Machine/Line.lean ====
section
/-! DEFINITION. Machine/Line.lean: the commands of the line interface (chapter 1): quiet, sending, marks, clashes, completion, the held-low
line, and the frames that are received (R18 to R20, R88). -/

namespace Sys2Proof.Machine

/-! ## Quiet (R4, R12) -/

/-- The line interface told that the line has been high for `highBits` bit times (R4, R12): from the eleventh on it is quiet, and before that
it is not. What is told counts from the end of the stop bit, so the run of R12 may be longer by that bit and the data bits of 1 before it,
nine at most: a longer run that is known stands within that, unless the quiet is shorter than the one counted, which shows a low bit in
between (log 13). -/
def levelSeen (highBits : Nat) (l : LineInterface) : LineInterface :=
  if Config.quietBits ≤ highBits then
    { l with
      quiet := some (highBits - Config.quietBits)
      low := false
      high :=
        if l.quiet.all (· ≤ highBits - Config.quietBits) then max highBits (min l.high (highBits + Config.tailBits)) else highBits
      framing := if l.framing = .waitQuiet then .waitSync else l.framing }
  else { l with quiet := none, low := highBits == 0, high := highBits }

/-- LINE_QUIET (R4): the line has been high for `highBits` bit times; a low bit outside a frame is told with 0. The bits of a frame being
received are no such report (log 13). -/
def execLineQuiet (highBits : Nat) (s : State) : Host.Outcome State Fault Refusal :=
  act s
    (s.running && s.line.onLine.isNone && !s.line.lowReported &&
      (decide (Config.quietBits ≤ highBits) || s.line.framing != .receiving))
    { s with line := levelSeen highBits s.line }

/-- A low bit on the line: it is not quiet, and the count of continuously high bit times is 0 (R4, R12). -/
def lowBit (l : LineInterface) : LineInterface := { l with quiet := none, low := true, high := 0 }

/-! ## Sending (R6 to R10, R13) -/

/-- The wait of a station before a frame with a clash count, in bit times from the line's quiet (R6). -/
def waitOf (station : Station) (clashes : Nat) : Nat :=
  if clashes = 0 then 3 * station.val else 3 * station.val + 16 + 4 * clashes

/-- The age limit of a queued frame's kind; none for the kinds that carry no age (R7). -/
def ageLimit (f : QueuedFrame) : Option Nat :=
  if f.isHeard then some Config.heardAgeLimit else if f.isPulse then some Config.pulseAgeLimit else none

/-- Whether a frame fails the age test at the start of a sync mark: the age it would carry, the counter plus 1 minus its event time, exceeds
its limit (R7). -/
def tooOld (now : Time) (f : QueuedFrame) : Bool :=
  match ageLimit f with
  | some limit => decide ((limit : Int) < since (now + 1) f.eventTime)
  | none => false

/-- SYNC_MARK_BEGIN (R6, R7): frames at the head too old are removed; the first that passes becomes the frame on the line. -/
def execSyncMarkBegin (s : State) : Host.Outcome State Fault Refusal :=
  act s
    (s.line.transmitter = .active && s.line.onLine.isNone && s.line.framing != .receiving &&
      match s.line.queue.head?, s.line.quiet with
      | some f, some n => decide (waitOf s.startup.strap f.clashes ≤ n)
      | _, _ => false)
    (match s.line.queue.dropWhile (tooOld s.now) with
      | [] => { s with line.queue := [] }
      | f :: rest => { s with line := lowBit { s.line with queue := rest, onLine := some ⟨f, none⟩ } })

/-- The age written at the frame mark: the mark time minus the frame's event time for HEARD and PULSE, 0 for the kinds that carry none
(R13). -/
def writtenAge (mark : Time) (f : QueuedFrame) : BitVec 16 :=
  if (ageLimit f).isSome then BitVec.ofInt 16 (since mark f.eventTime) else 0

/-- FRAME_MARK (R5, R8, R13): the mark latched, the frame received; a frame of the station's own on the line takes its age. -/
def execFrameMark (lowBits : Nat) (s : State) : Host.Outcome State Fault Refusal :=
  act s (s.running && s.line.framing = .waitSync && decide (11 ≤ lowBits) && decide (lowBits ≤ 13))
    { s with
      line :=
        { lowBit s.line with
          low := false
          markLatch := s.now
          framing := .receiving
          onLine := s.line.onLine.map fun f => { f with age := some (writtenAge s.now f.frame) } } }

/-- SYNC_MARK_REJECTED (R5): no mark is latched, and the receive framing waits for quiet. -/
def execSyncMarkRejected (lowBits : Nat) (s : State) : Host.Outcome State Fault Refusal :=
  act s (s.running && s.line.framing = .waitSync && decide (13 < lowBits))
    { s with line := { lowBit s.line with framing := .waitQuiet } }

/-- Whether a clash found in a bit finds the line still held low by another station: in the high bit time after the sync mark, with no rising
edge and so no frame mark before it (R9, log 51). -/
def stillHeldLow (bit : Nat) (age : Option (BitVec 16)) : Bool := bit == 12 && age.isNone

/-- The receive framing after a clash in a bit: a line still held low in the high bit time after the sync mark leaves it waiting for quiet;
after the frame mark the station goes on as a receiver (R9). -/
def framingAfterClash (bit : Nat) (age : Option (BitVec 16)) (f : Framing) : Framing :=
  if stillHeldLow bit age then .waitQuiet else f

/-- A clashed frame with its raised clash count: back to the queue, or at the eighth clash removed with LINE raised and then its leaving
reported (R9, R10, R17, R188). -/
def returnClashed (f : QueuedFrame) (s : State) : State :=
  let g := { f with clashes := f.clashes + 1 }
  if Config.clashLimit ≤ g.clashes then faultFrameLeft g (raiseFault 0 s)
  else
    match requeue s.line.queue g with
    | (q, true) => { s with line.queue := q }
    | (q, false) => faultFrameLeft g { s with line.queue := q }

/-- FRAME_CLASH (R9, R10): the level read back at a bit of the frame is not the level sent. The bits from 13 on are sent after the frame mark;
the mark may have been latched before the sync mark and the high bit time after it have been sent (R5, R8). -/
def execFrameClash (bit : Nat) (level : Bool) (s : State) : Host.Outcome State Fault Refusal :=
  match s.line.onLine with
  | none => act s false s
  | some f =>
    act s (s.sentBits[bit]?.any (fun b => b != level) && (f.age.isSome || decide (bit ≤ 12)))
      (returnClashed f.frame
        { s with
          line :=
            { s.line with
              onLine := none, low := stillHeldLow bit f.age, framing := framingAfterClash bit f.age s.line.framing } })

/-- The end of a frame on the line: the receive framing waits for the next sync mark, and the line has been high since the last low bit of the
frame (R12, R18). -/
def LineInterface.frameEnd (bytes : List Byte) (l : LineInterface) : LineInterface :=
  { l with framing := .waitSync, high := highTail bytes }

/-- The completion of the station's own frame by its kind: the cue taken, the fault unit told; nothing for the others (R17, R20). -/
def completeOwn (f : QueuedFrame) (s : State) : State :=
  match f.body with
  | .cue c n => takeCue c n s
  | .fault _ _ _ _ => faultFrameLeft f s
  | _ => s

/-- FRAME_COMPLETE (R8, R17, R20). -/
def execFrameComplete (s : State) : Host.Outcome State Fault Refusal :=
  match s.line.onLine with
  | none => act s false s
  | some f =>
    act s f.age.isSome (completeOwn f.frame { s with line := { s.line.frameEnd (s.ownBytes f) with onLine := none } })

/-! ## The line held low (R11) -/

/-- The transmitter as the line is held low: ACTIVE becomes SUSPENDED (R11). -/
def Transmitter.heldLow : Transmitter → Transmitter
  | .active => .suspended
  | t => t

/-- The transmitter as the line goes high again: SUSPENDED becomes ACTIVE (R11). -/
def Transmitter.released : Transmitter → Transmitter
  | .suspended => .active
  | t => t

/-- LINE_HELD_LOW (R11): the receive framing waits for quiet, an ACTIVE transmitter is SUSPENDED, and LINE is raised once per episode. -/
def execLineHeldLow (lowBits : Nat) (s : State) : Host.Outcome State Fault Refusal :=
  act s (s.running && s.line.transmitter != .off && decide (200 < lowBits))
    (let t :=
      { s with
        line :=
          { lowBit s.line with
            framing := .waitQuiet, lowReported := true, transmitter := s.line.transmitter.heldLow } }
    if s.line.lowReported then t else raiseFault 0 t)

/-- LINE_RELEASED_HIGH (R11). -/
def execLineReleasedHigh (s : State) : Host.Outcome State Fault Refusal :=
  act s (s.running && s.line.lowReported)
    { s with line := { s.line with lowReported := false, low := false, transmitter := s.line.transmitter.released } }

/-! ## Received frames (R18 to R20) -/

/-- Whether a frame of another sender is being received: the station is receiving and has no frame of its own on the line (R20). -/
def receiving (s : State) : Bool := s.running && s.line.onLine.isNone && s.line.framing = .receiving

/-- The frame that bytes are, when they are a valid frame from another station (R18, R19). -/
def peerFrame (s : State) (bytes : List Byte) : Option WireFrame :=
  match judgeFrame bytes with
  | .valid w => if receiving s && w.sender != s.startup.strap then some w else none
  | _ => none

/-- The end of a frame of another sender. -/
def endOfFrame (bytes : List Byte) (s : State) : State := { s with line := s.line.frameEnd bytes }

/-- A frame discarded at a bad byte or check: the receive framing waits for quiet, and the line has been high since the last low bit of the bits
read (R12, R18). -/
def discardFrame (bits : List Bool) (s : State) : State :=
  { s with line := { s.line with framing := .waitQuiet, high := highRun bits, low := bits.getLast? == some false } }

/-- INVALID_FRAME (R18): a frame that is not well-formed leaves the receive framing waiting for quiet, a well-formed one that is not valid
waiting for the next sync mark; nothing else changes. -/
def execInvalidFrame (bytes : List Byte) (broken : List Bool) (s : State) : Host.Outcome State Fault Refusal :=
  match broken, judgeFrame bytes with
  | [], .valid _ => act s false s
  | [], .invalid => act s (receiving s) (endOfFrame bytes s)
  | [], .malformed => act s (receiving s) (discardFrame (frameBits bytes) s)
  | _, _ => act s (receiving s && Instr.brokenByte broken) (discardFrame (frameBits bytes ++ broken) s)

/-- DUPLICATE (R20): a valid frame of the own station number that the station is not sending; ignored in HALTED. -/
def execDuplicate (bytes : List Byte) (s : State) : Host.Outcome State Fault Refusal :=
  match judgeFrame bytes with
  | .valid w => act s (receiving s && w.sender == s.startup.strap) (raiseFault 1 (endOfFrame bytes s))
  | _ => act s false s

/-- The time of a reported event in the station's own clock: the latched mark minus the age (R14). -/
def eventTimeOf (s : State) (age : Nat) : Time := s.line.markLatch - BitVec.ofNat 32 age

/-- A HEARD frame from a peer delivered, its end taken (R14, R19, R83): an observation, or STALE when its age is over the limit. -/
def heardFrom (w : WireFrame) (event : ObsKind) (sequence : BitVec 8) (s : State) : State :=
  let t := hearPeer w.sender s
  if Config.heardAgeLimit < w.age then takeException .stale (some (w.sender, sequence)) t
  else deliver ⟨.peer w.sender, event, eventTimeOf s w.age, sequence, (t.gather.peers[w.sender]).weight⟩ t

/-- HEARD_RECEIVED (R19). In HALTED the frame is read and ignored. -/
def execHeardReceived (bytes : List Byte) (s : State) : Host.Outcome State Fault Refusal :=
  match peerFrame s bytes with
  | some w =>
    match w.body with
    | .heard event sequence _ =>
      let t := endOfFrame bytes s
      act s true (if s.isHalted then t else heardFrom w event sequence t)
    | _ => act s false s
  | none => act s false s

/-- The claim of a PULSE frame stored in its sender's entry (R87). -/
def storeClaim (sender : Station) (c : Claim) (s : State) : State :=
  { s with gather.peers := s.gather.peers.set sender { s.gather.peers[sender] with claim := some c } }

/-- A PULSE frame from a peer, its end taken (R14, R19, R75): the claim stored unless its age is over the limit, and the join trigger tested. -/
def pulseFrom (w : WireFrame) (fields : PulseFields) (s : State) : State :=
  let t := hearPeer w.sender s
  if Config.pulseAgeLimit < w.age then t
  else testJoin (storeClaim w.sender ⟨fields, eventTimeOf s w.age, s.line.markLatch⟩ t)

/-- PULSE_RECEIVED (R19). -/
def execPulseReceived (bytes : List Byte) (s : State) : Host.Outcome State Fault Refusal :=
  match peerFrame s bytes with
  | some w =>
    match w.body with
    | .pulse fields =>
      let t := endOfFrame bytes s
      act s true (if s.isHalted then t else pulseFrom w fields t)
    | _ => act s false s
  | none => act s false s

/-- A HALT from a peer at the play controller: SILENCED, but during full start nothing (R79, R202). -/
def takeHalt (s : State) : State := if s.play.state = .starting then s else enterSilenced s

/-- HALT_RECEIVED (R19). -/
def execHaltReceived (bytes : List Byte) (s : State) : Host.Outcome State Fault Refusal :=
  match peerFrame s bytes with
  | some w =>
    match w.body with
    | .halt =>
      let t := endOfFrame bytes s
      act s true (if s.isHalted then t else takeHalt (hearPeer w.sender t))
    | _ => act s false s
  | none => act s false s

/-- FAULT_RECEIVED (R19): the peer update alone. -/
def execFaultReceived (bytes : List Byte) (s : State) : Host.Outcome State Fault Refusal :=
  match peerFrame s bytes with
  | some w =>
    match w.body with
    | .fault _ _ _ _ =>
      let t := endOfFrame bytes s
      act s true (if s.isHalted then t else hearPeer w.sender t)
    | _ => act s false s
  | none => act s false s

/-- A CUE frame of a peer, its end taken: the peer update and the cue taken; in HALTED only a RESTART is delivered, without peer update
(R19). -/
def cueFrom (w : WireFrame) (c : Cue) (n : Nat) (s : State) : State :=
  if s.isHalted then
    match c with
    | .restart => takeCue .restart n s
    | _ => s
  else takeCue c n (hearPeer w.sender s)

/-- A CUE frame of a peer with the cue that the command names. -/
def receiveCue (c : Cue) (bytes : List Byte) (s : State) : Host.Outcome State Fault Refusal :=
  match peerFrame s bytes with
  | some w =>
    match w.body with
    | .cue d n => act s (d == c) (cueFrom w d n (endOfFrame bytes s))
    | _ => act s false s
  | none => act s false s

/-- SELECT (R66). -/
def execSelect (bytes : List Byte) (s : State) : Host.Outcome State Fault Refusal := receiveCue .select bytes s

/-- START (R67). -/
def execStart (bytes : List Byte) (s : State) : Host.Outcome State Fault Refusal := receiveCue .start bytes s

/-- STOP (R68). -/
def execStop (bytes : List Byte) (s : State) : Host.Outcome State Fault Refusal := receiveCue .stop bytes s

/-- RESTART (R70). -/
def execRestart (bytes : List Byte) (s : State) : Host.Outcome State Fault Refusal := receiveCue .restart bytes s

/-- PEER_ABSENCE_EXPIRY (R88): 5 s after the last frame the entry becomes ABSENT and its claim is discarded. -/
def execPeerAbsenceExpiry (p : Station) (s : State) : Host.Outcome State Fault Refusal :=
  act s
    ((s.gather.peers[p]).present && p != s.startup.strap &&
      decide (Config.absenceTicks ≤ since s.now (s.gather.peers[p]).lastHeard))
    { s with gather.peers := s.gather.peers.set p { s.gather.peers[p] with present := false, claim := none } }

end Sys2Proof.Machine
end

