-- ==== Sys2Proof/Machine/Output.lean ====
section
/-! DEFINITION. Machine/Output.lean: the commands of the output stage (chapter 9): the coils, the valve port and its return check, the cutoff
input and the swell output. -/

namespace Sys2Proof.Machine

/-! ## Coils (R174) -/

/-- The release time of a coil output while it is set. -/
def coilRelease (o : OutputStage) (stop : StopNo) : Coil → Option Time
  | .on => o.onCoils[stop]
  | .off => o.offCoils[stop]

/-- A coil output released. -/
def dropCoil (stop : StopNo) (coil : Coil) (o : OutputStage) : OutputStage :=
  match coil with
  | .on => { o with onCoils := o.onCoils.set stop none }
  | .off => { o with offCoils := o.offCoils.set stop none }

/-- COIL_RELEASE (R174). -/
def execCoilRelease (stop : StopNo) (coil : Coil) (s : State) : Host.Outcome State Fault Refusal :=
  act s ((coilRelease s.out stop coil).any fun t => reached t s.now) { s with out := dropCoil stop coil s.out }

/-! ## The valve port (R170, R171, R199) -/

/-- VALVE_FRAME_START (R170): every 10 ticks on a PLAY station the valve image is copied into a frame. -/
def execValveFrameStart (s : State) : Host.Outcome State Fault Refusal :=
  act s
    (s.configured && s.cfg.play && s.out.frame.isNone && decide (Config.sampleTicks ≤ since s.now s.out.frameStart))
    { s with out := { s.out with frame := some s.valveImage, frameStart := s.now } }

/-- The valve loop check after a comparison that matched: passed at the third (R199). -/
def checkMatched : Option Nat → Option Nat
  | some n => if n ≤ 1 then none else some (n - 1)
  | none => none

/-- A comparison that matches (R171, R199). -/
def returnMatched (s : State) : State :=
  endChecks
    { s with
      out := { s.out with mismatchRun := 0, mismatchReported := false }
      startup.valveCheck := checkMatched s.startup.valveCheck }

/-- A comparison that mismatches (R171, R199): the valve loop check fails at its first, the return check at the third in a row; VALVE is
raised unless the mismatch report reads reported, and the report is then set. A RESTART keeps the report (R181), so the return check raises
VALVE again (R203) once a frame has matched (R171): log 42, DEDUCED. -/
def returnMismatched (s : State) : State :=
  let fails := s.startup.valveCheck.isSome || decide (3 ≤ s.out.mismatchRun + 1)
  let run := if 3 ≤ s.out.mismatchRun + 1 then 0 else s.out.mismatchRun + 1
  let t :=
    { s with
      out := { s.out with mismatchRun := run, mismatchReported := s.out.mismatchReported || fails }
      startup.valveCheck := none }
  endChecks (if fails && !s.out.mismatchReported then raiseFault 7 t else t)

/-- The return check at the latch of a frame, against the frame sent before it; none in HALTED, none without a frame before (R171). -/
def returnCheck (returned : BitVec 96) (s : State) : State :=
  match s.out.sent with
  | some sent => if s.isHalted then s else if returned = sent then returnMatched s else returnMismatched s
  | none => s

/-- The latch of a frame (R170, R171): the return check made, and the frame now the one sent before the next. -/
def latchFrame (frame : BitVec 96) (returned : BitVec 96) (s : State) : State :=
  let t := returnCheck returned { s with out.frame := none }
  { t with out.sent := some frame }

/-- VALVE_FRAME_LATCH (R171). -/
def execValveFrameLatch (returned : BitVec 96) (s : State) : Host.Outcome State Fault Refusal :=
  match s.out.frame with
  | some frame => act s true (latchFrame frame returned s)
  | none => act s false s

/-! ## The cutoff input (R172, R173) -/

/-- CUTOFF_PIN_CHANGE (R172). -/
def execCutoffPinChange (asserted : Bool) (s : State) : Host.Outcome State Fault Refusal :=
  act s true { s with out := { s.out with cutoff := { s.out.cutoff with pin := asserted } } }

/-- Whether the next sample of the cutoff pin is due, 10 ticks after the last, and would be the third in a row that differs from the state
(R172). -/
def thirdDiffers (s : State) (level : Bool) : Bool :=
  s.running && s.out.cutoff.settled && s.out.cutoff.asserted != level && s.out.cutoff.pin == level &&
    s.out.cutoff.differing == 2 && decide (Config.sampleTicks ≤ since s.now s.out.cutoff.sampledAt)

/-- The debounced cutoff state changed at a sample (R172). -/
def setCutoff (level : Bool) (s : State) : State :=
  { s with out := { s.out with cutoff := { s.out.cutoff with asserted := level, differing := 0, sampledAt := s.now } } }

/-- An assertion edge at the play controller (R79, R173): SILENCED, and a HALT frame offered; recorded only during full start and in
HALTED. -/
def assertionTaken (s : State) : State :=
  match s.play.state with
  | .starting | .halted => s
  | _ => offerFrame .halt 0 (enterSilenced s)

/-- ASSERTION_EDGE (R173). -/
def execAssertionEdge (s : State) : Host.Outcome State Fault Refusal :=
  act s (thirdDiffers s true) (assertionTaken (setCutoff true s))

/-- CUTOFF_RELEASE_EDGE (R173). -/
def execCutoffReleaseEdge (s : State) : Host.Outcome State Fault Refusal :=
  act s (thirdDiffers s false) (setCutoff false s)

/-! ## The swell output (R176) -/

/-- PWM_PERIOD_START (R176): the output takes the position; in HALTED it is held low. -/
def execPwmPeriodStart (s : State) : Host.Outcome State Fault Refusal :=
  act s
    (s.configured &&
      match s.out.pwmStart with
      | none => true
      | some t => decide (Config.pwmTicks ≤ since s.now t))
    { s with out := { s.out with pwmTaken := if s.isHalted then 0 else s.out.swell, pwmStart := some s.now } }

end Sys2Proof.Machine
end

