-- ==== Sys2Proof/Machine/Sound.lean ====
section
/-! DEFINITION. Machine/Sound.lean: the commands of the sound front end (chapter 2): samples, blocks, the detector, the observations, and the
loss of input. -/

namespace Sys2Proof.Machine

/-- The magnitude of a sample; that of -32768 is 32768 (R24). -/
def magnitude (x : BitVec 16) : Nat := x.toInt.natAbs

/-- The edges at the port taken in order, from the bits read so far of the sample being read, if any, the first the most significant (R23): a word
sync edge begins a sample and discards one not finished; the data bits of a sample are read in turn, and bits outside a sample are ignored.
The answer is the sample whose sixteenth bit the last edge reads; none when that is not what the edges do, or when an earlier edge already
took a sample. -/
def readPort : Option (List Bool) → List SoundEdge → Option (List Bool)
  | _, [] => none
  | _, .wordSync :: edges => readPort (some []) edges
  | none, .bit _ :: edges => readPort none edges
  | some bits, .bit level :: edges =>
    if bits.length < 15 then readPort (some (bits ++ [level])) edges
    else if edges.isEmpty then some (bits ++ [level]) else none

/-- The value of sixteen bits, the first the most significant (R23). -/
def sampleValue (bits : List Bool) : BitVec 16 := BitVec.ofNat 16 (bitsToNat bits.reverse)

/-- What the detector confirms at a block: the kind, the event time and the strength (R28, R30). -/
structure Confirmed where
  kind : ObsKind
  time : Time
  strength : Nat
deriving DecidableEq, Repr

/-- The strength reported for an envelope (R28, R30). -/
def strengthOf (envelope : Nat) : Nat := min 255 (envelope / 128)

/-- The event time of a block (R28, R30). -/
def blockEvent (c : Configuration) (start : Time) : Time := addTicks start (-c.pickupDelay)

/-- The baseline of a completing block: none while the history holds fewer than four envelopes (R25). -/
def baseline (history : List Nat) : Option Nat := if history.length = 4 then some (history.sum / 4) else none

/-- The onset test of an envelope against a baseline (R26, R27). -/
def onsetPasses (c : Configuration) (envelope base : Nat) : Bool :=
  decide (c.onsetFloor ≤ envelope) && decide (c.onsetRatio * base ≤ 16 * envelope)

/-- An onset candidate confirmed or standing, by its count (R27, R28). -/
def settleOnset (c : Configuration) (start : Time) (envelope base count largest : Nat) (f : FrontEnd) : FrontEnd × Option Confirmed :=
  if c.persistence ≤ count then
    let time := blockEvent c start
    ({ f with
        detector := .sounding, candidate := none, peak := largest, refractory := some (addTicks time c.refractory) },
      some ⟨.onset, time, strengthOf envelope⟩)
  else ({ f with candidate := some (.onset start envelope base count largest) }, none)

/-- A block tested in QUIET with no candidate (R26). -/
def testOnset (c : Configuration) (start : Time) (envelope : Nat) (f : FrontEnd) : FrontEnd × Option Confirmed :=
  let idle := { f with candidate := none }
  match baseline f.history with
  | none => (idle, none)
  | some base =>
    let refused :=
      match f.refractory with
      | none => false
      | some expiry => decide (since (blockEvent c start) expiry < 0)
    if onsetPasses c envelope base && !refused then settleOnset c start envelope base 1 envelope idle else (idle, none)

/-- A release candidate confirmed or standing, by its count (R29, R30). -/
def settleRelease (c : Configuration) (start : Time) (peak count : Nat) (f : FrontEnd) : FrontEnd × Option Confirmed :=
  if c.persistence ≤ count then
    ({ f with detector := .quiet, candidate := none }, some ⟨.release, blockEvent c start, strengthOf peak⟩)
  else ({ f with candidate := some (.release start peak count) }, none)

/-- The detector at a completing block (R26 to R30). -/
def detect (c : Configuration) (start : Time) (envelope : Nat) (f : FrontEnd) : FrontEnd × Option Confirmed :=
  match f.detector with
  | .quiet =>
    match f.candidate with
    | some (.onset begun first base count largest) =>
      if onsetPasses c envelope base then settleOnset c begun first base (count + 1) (max largest envelope) f
      else testOnset c start envelope f
    | _ => testOnset c start envelope f
  | .sounding =>
    let g := { f with peak := max f.peak envelope }
    match f.candidate with
    | some (.release begun peak count) =>
      if c.releaseRatio * envelope ≤ peak then settleRelease c begun peak (count + 1) g else ({ g with candidate := none }, none)
    | _ => if c.releaseRatio * envelope ≤ g.peak then settleRelease c start g.peak 1 g else ({ g with candidate := none }, none)

/-- A value entered as the newest of the last `size` (R25, R31). -/
def remember (size : Nat) (xs : List Nat) (x : Nat) : List Nat := (xs ++ [x]).drop (xs.length + 1 - size)

/-- The front end at a completing block: detected, then entered in the history and the level window (R25, R31). -/
def blockDone (c : Configuration) (start : Time) (envelope : Nat) (f : FrontEnd) : FrontEnd × Option Confirmed :=
  let (g, found) := detect c start envelope f
  ({ g with
      block := .empty, history := remember 4 f.history envelope, window := remember Config.windowLength f.window envelope }, found)

/-- A confirmed observation handed on (R32): in play it takes a sequence number, goes to the gather unit, and is offered as a HEARD frame. R32 has
neither wait for the other; that the hand-over comes first, so that a FAULT frame it raises enters the transmit queue before the HEARD frame,
is the model's choice (log 39, DESIGN CHOICE). -/
def handOn (o : Confirmed) (s : State) : State :=
  if s.inPlay then
    let n := s.front.sequence
    offerFrame (.heard o.kind n o.strength) o.time
      (deliver ⟨.own, o.kind, o.time, n, s.cfg.selfWeight⟩ { s with front.sequence := n + 1 })
  else s

/-- The sound check passed by a block completed within 1000 ticks of the end of the configuration read (R200). -/
def passSoundCheck (s : State) : State :=
  if s.startup.soundCheck && decide (since s.now s.startup.configEnd ≤ Config.soundCheckTicks) then
    endChecks { s with startup.soundCheck := false }
  else s

/-- The block completed by its 64th sample (R24, R25). -/
def completeBlock (b : Block) (s : State) : State :=
  let (f, found) := blockDone s.cfg b.start (b.sum / 64) s.front
  let t := passSoundCheck { s with front := f }
  match found with
  | some o => handOn o t
  | none => t

/-- The block being formed with one more sample (R24). -/
def Block.add (b : Block) (sample : BitVec 16) (stamp : Time) : Block :=
  ⟨b.count + 1, b.sum + magnitude sample, if b.count = 0 then stamp else b.start⟩

/-- A sample taken (R24, R35). -/
def takeSample (sample : BitVec 16) (stamp : Time) (s : State) : State :=
  let b := s.front.block.add sample stamp
  let t := { s with front := { s.front with block := b, lastSample := s.now, lossReported := false, portTicks := 0 } }
  if Config.blockSamples ≤ b.count then completeBlock b t else t

/-- SAMPLE_TAKEN (R23, R24): the edges at the port read a sample, stamped with the counter as it stood at its word sync edge, which lies at or
before now, and not before the port was first read or the last sample taken (R36, log 46). -/
def execSampleTaken (edges : List SoundEdge) (ago : Nat) (s : State) : Host.Outcome State Fault Refusal :=
  match readPort none edges with
  | none => act s false s
  | some bits =>
    act s (s.listening && decide (ago ≤ s.front.portTicks)) (takeSample (sampleValue bits) (s.now - BitVec.ofNat 32 ago) s)

/-- SOUND_INPUT_LOST (R34): block, history, window and candidate reset, QUIET; SOUND is raised once. -/
def execSoundInputLost (s : State) : Host.Outcome State Fault Refusal :=
  act s (s.listening && decide (Config.soundLossTicks ≤ since s.now s.front.lastSample))
    (let t :=
      { s with
        front :=
          { s.front with
            block := .empty, history := [], window := [], detector := .quiet, candidate := none, lastSample := s.now
            lossReported := true } }
    if s.front.lossReported then t else raiseFault 6 t)

end Sys2Proof.Machine
end

