-- ==== Sys2Proof/Machine/Store.lean ====
section
/-! DEFINITION. Machine/Store.lean: the commands of the score store controller (chapter 3): the directory search, the header and the plan, the
blocks of both streams, and the readers' work. -/

namespace Sys2Proof.Machine

/-- The completion of a flash read of one of the units given: the port freed and granted, the data handed on unless the read was abandoned
(R40, R41). -/
def completeRead (units : List FlashUnit) (bytes : List Byte) (use : State → State) (s : State) : Host.Outcome State Fault Refusal :=
  let t := { s with store.port := s.store.port.done }
  act s (s.store.port.completes units bytes.length) (if s.store.port.abandoned then t else use t)

/-! ## The directory search (R43) -/

/-- The entry in the middle of the open range [low, high); of the two middle entries of an even range, which is open (log 6). -/
def middle (low high : Nat) : Nat :=
  if (high - low) % 2 = 0 && Config.upperMiddle then low + (high - low) / 2 else low + (high - low - 1) / 2

/-- The search goes on in a range: an entry probed, or the load failed when the range is empty (R43). -/
def probe (hymn low high : Nat) (s : State) : State :=
  if high ≤ low then loadFailed s
  else
    requestLoad .directoryEntry (2050 + 8 * middle low high) 8
      { s with store.loader := .search hymn low high (middle low high) }

/-- The directory's entry count taken: above 1023 the load fails (R43). -/
def takeCount (hymn count : Nat) (s : State) : State := if 1023 < count then loadFailed s else probe hymn 0 count s

/-- A probed entry compared with the hymn looked for (R43). -/
def takeEntry (hymn low high at_ : Nat) (e : DirectoryEntry) (s : State) : State :=
  if e.hymn < 1 || 1023 < e.hymn then loadFailed s
  else if e.hymn = hymn then requestLoad .header e.address 59 { s with store.loader := .header hymn e.address e.length }
  else if hymn < e.hymn then probe hymn low at_ s
  else probe hymn (at_ + 1) high s

/-- The bytes of a directory read taken by the loader's step. -/
def takeDirectory (bytes : List Byte) (s : State) : State :=
  match s.store.loader with
  | .count n => takeCount n (leNat bytes) s
  | .search n low high at_ => takeEntry n low high at_ (parseEntry bytes) s
  | _ => s

/-- DIRECTORY_READ (R43). -/
def execDirectoryRead (bytes : List Byte) (s : State) : Host.Outcome State Fault Refusal :=
  completeRead [.directoryCount, .directoryEntry] bytes (takeDirectory bytes) s

/-! ## The header and the verse plan (R44, R45) -/

/-- A header taken: kept and its plan asked for, or the load failed (R44). -/
def takeHeader (bytes : List Byte) (s : State) : State :=
  match s.store.loader with
  | .header n address length =>
    let h := parseHeader bytes
    if checked bytes && h.inRange n length then
      requestLoad .plan (address + 59) (21 * h.verses + 2) { s with store.loader := .plan address h }
    else loadFailed s
  | _ => s

/-- HEADER_READ (R44). -/
def execHeaderRead (bytes : List Byte) (s : State) : Host.Outcome State Fault Refusal :=
  completeRead [.header] bytes (takeHeader bytes) s

/-- A verse plan taken: the hymn held and the readers primed at play position 0, or the load failed (R45, R46). -/
def takePlan (bytes : List Byte) (s : State) : State :=
  match s.store.loader with
  | .plan address h =>
    match parsePlan h.verses bytes with
    | some plan =>
      testPrimed (startReaders 0 { s with store := { s.store with loader := .priming, hymn := some ⟨address, h, plan⟩ } })
    | none => loadFailed s
  | _ => s

/-- VERSE_PLAN_READ (R45). -/
def execVersePlanRead (bytes : List Byte) (s : State) : Host.Outcome State Fault Refusal :=
  completeRead [.plan] bytes (takePlan bytes) s

/-! ## The mark reader (R49, R50, R58) -/

/-- The verse position of a record (R39). -/
def versePosition (beat sub : Nat) : Nat := 24 * beat + sub

/-- Whether a mark record is in range and in order after the last valid one of the pass (R49). -/
def markGood (h : Header) (last : Option Nat) (r : MarkRecord) : Bool :=
  (r.sung || r.hold || r.broaden) && decide (r.beat < h.length) && decide (r.sub ≤ 23) &&
    (!r.hold ||
      (decide (1 ≤ r.holdOffset) && decide (r.holdOffset ≤ 191) && decide (1 ≤ r.holdBeats) && decide (r.holdBeats ≤ 8))) &&
    last.all fun p => decide (p < versePosition r.beat r.sub)

/-- A flag as a mark enters the queue. -/
def freshFlag (set : Bool) : MarkFlag := if set then .unserved else .absent

/-- The mark of a valid record at a play position (R49). -/
def markAt (position : Nat) (r : MarkRecord) : Mark :=
  ⟨position, freshFlag r.sung, freshFlag r.hold, freshFlag r.broaden, position + r.holdOffset, r.holdBeats⟩

/-- One turn of the mark reader over its buffer (R50, R58): none when it waits at a full queue or its buffer is spent. -/
def markStep (s : State) : Option State :=
  match s.header, s.store.marks.buffer with
  | some h, r :: rest =>
    let m := s.store.marks
    if m.phase != .running || decide (Config.markCapacity ≤ s.store.queue.length) then none
    else if m.sect = 0 && decide (r.beat < h.introFirst) then some { s with store.marks := { m with buffer := rest } }
    else if m.sect = 0 && decide (h.introLast < r.beat) then
      some { s with store.marks := { m with sect := 1, block := 0, buffer := [], lastValid := none } }
    else if markGood h m.lastValid r then
      let place := h.place m.sect r.beat r.sub
      let t := { s with store.marks := { m with buffer := rest, lastValid := some (versePosition r.beat r.sub) } }
      if place < m.discardBelow then some t else some { t with store.queue := t.store.queue ++ [markAt place r] }
    else some (raiseFault 4 { s with store.marks := { m with buffer := rest } })
  | _, _ => none

/-- The mark reader taken on until it waits; new marks may be watched, may leave a PROVISIONAL TOP with no judge, and may end priming or a
seek (R46, R50, R131, R138). -/
def runMarks (s : State) : State :=
  let t := settleMarks (iterate markStep 40 s)
  testPrimed (testExhausted (if t.inPlay then rewatch t else t))

/-- A mark block taken into the buffer, or, when its check fails, skipped with SCORE raised (R50, R58). A pass of the intro reads the stream from
its first block, since nothing stored says which block holds the intro's first record (log 14). -/
def takeMarkBlock (bytes : List Byte) (s : State) : State :=
  let m := s.store.marks
  if checked bytes then
    runMarks { s with store.marks := { m with block := m.block + 1, buffer := (blockWords 4 bytes).map parseMark } }
  else runMarks (raiseFault 4 { s with store.marks := { m with block := m.block + 1 } })

/-- MARK_BLOCK_READ (R50). -/
def execMarkBlockRead (bytes : List Byte) (s : State) : Host.Outcome State Fault Refusal :=
  completeRead [.markBlock] bytes (takeMarkBlock bytes) s

/-- MARK_APPEND (R50): a reader that waited at a full queue goes on. -/
def execMarkAppend (s : State) : Host.Outcome State Fault Refusal :=
  act s
    (s.store.marks.phase = .running && !s.store.marks.buffer.isEmpty && decide (s.store.queue.length < Config.markCapacity))
    (runMarks s)

/-! ## The note reader (R52 to R55, R58) -/

/-- Whether a note record is in range and in order after the last valid one of the pass (R39, R58). -/
def noteGood (h : Header) (last : Option Nat) (r : NoteRecord) : Bool :=
  decide (r.beat < h.length) && decide (r.sub ≤ 23) && decide (1 ≤ r.length) && decide (r.voice ≤ 4) &&
    last.all fun p => decide (p ≤ versePosition r.beat r.sub)

/-- Whether a note's voice is in the voice mask of its section (R53). -/
def voiceDrawn (hymn : Hymn) (sect voice : Nat) : Bool :=
  match hymn.planOf sect with
  | some plan => plan.voices.getLsbD voice
  | none => false

/-- The note reader with the record at the head of its buffer consumed as valid. -/
def NoteReader.consume (n : NoteReader) (r : NoteRecord) : NoteReader :=
  { n with buffer := n.buffer.tail, lastValid := some (versePosition r.beat r.sub), inHand := false }

/-- One turn of the note reader toward the next record to insert: records outside the intro, out of range, outside the voice mask or below a
seek's target are passed over, and a spent buffer is settled (R50, R53, R56, R58). None when it waits. -/
def noteStep (s : State) : Option State :=
  match s.store.hymn with
  | none => none
  | some hymn =>
    let n := s.store.notes
    match n.buffer with
    | [] => settleNotesStep s
    | r :: rest =>
      if n.phase != .running || s.readDivision.isNone || (nextStop s).isSome then none
      else if n.sect = 0 && decide (r.beat < hymn.header.introFirst) then some { s with store.notes := { n with buffer := rest } }
      else if n.sect = 0 && decide (hymn.header.introLast < r.beat) then
        some { s with store.notes := { n with sect := 1, block := 0, buffer := [], lastValid := none } }
      else if !noteGood hymn.header n.lastValid r then some (raiseFault 4 { s with store.notes := { n with buffer := rest } })
      else if !voiceDrawn hymn n.sect r.voice || decide (hymn.header.place n.sect r.beat r.sub < n.start) then
        some { s with store.notes := n.consume r }
      else none

/-- The note reader taken on until it waits, and priming or a seek tested (R46). -/
def runNotes (s : State) : State := testPrimed (iterate noteStep 60 s)

/-- A note block taken into the buffer, or, when its check fails, skipped with SCORE raised (R50, R58); of the intro as in the mark reader. -/
def takeNoteBlock (bytes : List Byte) (s : State) : State :=
  let n := s.store.notes
  if checked bytes then
    runNotes { s with store.notes := { n with block := n.block + 1, buffer := (blockWords 5 bytes).map parseNote } }
  else runNotes (raiseFault 4 { s with store.notes := { n with block := n.block + 1 } })

/-- NOTE_BLOCK_READ (R53). -/
def execNoteBlockRead (bytes : List Byte) (s : State) : Host.Outcome State Fault Refusal :=
  completeRead [.noteBlock] bytes (takeNoteBlock bytes) s

/-- The length a note sounds in su: shortened by the articulation, never below half (R53). -/
def soundingLength (articulation length : Nat) : Nat := max (length - articulation) ((length + 1) / 2)

/-- The note in the reader's hand with its play position, once the section's stop actions are in (R52, R54). -/
def noteInHand (s : State) : Option (NoteRecord × Nat) :=
  match s.header, s.store.notes.buffer with
  | some h, r :: _ =>
    if s.store.notes.phase = .running && s.readDivision.isSome && (nextStop s).isNone then
      some (r, h.place s.store.notes.sect r.beat r.sub)
    else none
  | _, _ => none

/-- Whether the note in hand can be inserted: it is below the horizon, or waits since it was, and two entries are FREE (R52, R53). -/
def noteDue (s : State) : Bool :=
  match noteInHand s with
  | some (_, p) => (s.store.notes.inHand || decide ((p : Int) < s.horizon)) && decide (2 ≤ freeEntries s.sched.table)
  | none => false

/-- The note in hand inserted as a pair, and the reader taken on (R53). -/
def insertNote (s : State) : State :=
  match noteInHand s with
  | some (r, p) =>
    runNotes
      (insertPair r.key p (p + soundingLength s.cfg.articulation r.length) { s with store.notes := s.store.notes.consume r })
  | none => s

/-- NOTE_PAIR_INSERT (R53). -/
def execNotePairInsert (s : State) : Host.Outcome State Fault Refusal := act s (noteDue s) (insertNote s)

/-- The next stop action of the reader's section with its position, when it can be inserted: it is below the horizon, or waits since it was, and
an entry is FREE (R54). -/
def stopInHand (s : State) : Option (StopNo × Coil × Nat) :=
  match s.header, nextStop s with
  | some h, some (stop, coil) =>
    if s.store.notes.phase = .running &&
        (s.store.notes.inHand || decide ((stopPosition h s.store.notes : Int) < s.horizon)) &&
        decide (1 ≤ freeEntries s.sched.table) then
      some (stop, coil, stopPosition h s.store.notes)
    else none
  | _, _ => none

/-- One stop's new state taken into the planned stop set; the section's other stop actions stay in hand with it (R54). -/
def planStop (stop : StopNo) (s : State) : State :=
  let t := { s with store.notes.planned := s.store.notes.planned ^^^ (1#16 <<< stop.val) }
  { t with store.notes.inHand := s.store.notes.inHand && (nextStop t).isSome }

/-- One stop action inserted (R54). -/
def stopStep (s : State) : Option State :=
  match stopInHand s with
  | some (stop, coil, p) => some (insertStop stop coil p (planStop stop s))
  | none => none

/-- STOP_ACTION_INSERT (R54): the stop actions of the reader's section, lowest stop first, while entries are FREE; then the reader goes
on. -/
def execStopActionInsert (s : State) : Host.Outcome State Fault Refusal :=
  act s (stopInHand s).isSome (runNotes (iterate stopStep 16 s))

/-! ## End of score (R55) -/

/-- Whether end of score is to be reported: it has been reached and not been reported, and no beat event up to the hymn's end is still due, since
the hymn ends at the beat event that reaches its end (R55, R78; log 50). -/
def endDue (s : State) : Bool :=
  match s.header with
  | some h => s.inPlay && !s.store.notes.endReached && (s.store.notes.endPassed || atEnd s) && !beatGoesFirst s h.endPosition
  | none => false

/-- END_OF_SCORE (R55, R78). -/
def execEndOfScore (s : State) : Host.Outcome State Fault Refusal :=
  act s (endDue s) (testHymnEnd { s with store.notes := { s.store.notes with endReached := true, endPassed := false } })

end Sys2Proof.Machine
end

