-- ==== Sys2Proof/Machine/Dispatch.lean ====
section
/-! DEFINITION. Machine/Dispatch.lean: the effect of each command on everything but the queue of commands. -/

namespace Sys2Proof.Machine

/-- What a command does: one meaning for each constructor. -/
def exec (i : Instr) (s : State) : Host.Outcome State Fault Refusal :=
  match i with
  | .resetAsserted => Sys2Proof.Machine.execResetAsserted s
  | .fullStart straps => Sys2Proof.Machine.execFullStart straps s
  | .configurationSectionRead bytes => Sys2Proof.Machine.execConfigurationSectionRead bytes s
  | .soundCheckTimeout => Sys2Proof.Machine.execSoundCheckTimeout s
  | .offPulsesEnd => Sys2Proof.Machine.execOffPulsesEnd s
  | .joinCountComplete => Sys2Proof.Machine.execJoinCountComplete s
  | .lineQuiet highBits => Sys2Proof.Machine.execLineQuiet highBits s
  | .syncMarkBegin => Sys2Proof.Machine.execSyncMarkBegin s
  | .frameMark lowBits => Sys2Proof.Machine.execFrameMark lowBits s
  | .frameClash bit level => Sys2Proof.Machine.execFrameClash bit level s
  | .frameComplete => Sys2Proof.Machine.execFrameComplete s
  | .lineHeldLow lowBits => Sys2Proof.Machine.execLineHeldLow lowBits s
  | .lineReleasedHigh => Sys2Proof.Machine.execLineReleasedHigh s
  | .invalidFrame bytes broken => Sys2Proof.Machine.execInvalidFrame bytes broken s
  | .heardReceived bytes => Sys2Proof.Machine.execHeardReceived bytes s
  | .pulseReceived bytes => Sys2Proof.Machine.execPulseReceived bytes s
  | .haltReceived bytes => Sys2Proof.Machine.execHaltReceived bytes s
  | .faultReceived bytes => Sys2Proof.Machine.execFaultReceived bytes s
  | .duplicate bytes => Sys2Proof.Machine.execDuplicate bytes s
  | .peerAbsenceExpiry peer => Sys2Proof.Machine.execPeerAbsenceExpiry peer s
  | .sampleTaken edges ago => Sys2Proof.Machine.execSampleTaken edges ago s
  | .soundInputLost => Sys2Proof.Machine.execSoundInputLost s
  | .hymnNumberStable => Sys2Proof.Machine.execHymnNumberStable s
  | .buttonPressEdge button => Sys2Proof.Machine.execButtonPressEdge button s
  | .bothHeldRestart => Sys2Proof.Machine.execBothHeldRestart s
  | .select bytes => Sys2Proof.Machine.execSelect bytes s
  | .start bytes => Sys2Proof.Machine.execStart bytes s
  | .stop bytes => Sys2Proof.Machine.execStop bytes s
  | .restart bytes => Sys2Proof.Machine.execRestart bytes s
  | .directoryRead bytes => Sys2Proof.Machine.execDirectoryRead bytes s
  | .headerRead bytes => Sys2Proof.Machine.execHeaderRead bytes s
  | .versePlanRead bytes => Sys2Proof.Machine.execVersePlanRead bytes s
  | .markBlockRead bytes => Sys2Proof.Machine.execMarkBlockRead bytes s
  | .noteBlockRead bytes => Sys2Proof.Machine.execNoteBlockRead bytes s
  | .markAppend => Sys2Proof.Machine.execMarkAppend s
  | .notePairInsert => Sys2Proof.Machine.execNotePairInsert s
  | .stopActionInsert => Sys2Proof.Machine.execStopActionInsert s
  | .endOfScore => Sys2Proof.Machine.execEndOfScore s
  | .onsetTaken => Sys2Proof.Machine.execOnsetTaken s
  | .releaseTaken => Sys2Proof.Machine.execReleaseTaken s
  | .gatherOpen => Sys2Proof.Machine.execGatherOpen s
  | .gatherCloseExpiry which => Sys2Proof.Machine.execGatherCloseExpiry which s
  | .gatherCloseTaken => Sys2Proof.Machine.execGatherCloseTaken s
  | .clusterTaken => Sys2Proof.Machine.execClusterTaken s
  | .beatEvent => Sys2Proof.Machine.execBeatEvent s
  | .broadenMarkReached => Sys2Proof.Machine.execBroadenMarkReached s
  | .holdPointReached => Sys2Proof.Machine.execHoldPointReached s
  | .holdLimitExpiry => Sys2Proof.Machine.execHoldLimitExpiry s
  | .holdRelease => Sys2Proof.Machine.execHoldRelease s
  | .retimeVisit => Sys2Proof.Machine.execRetimeVisit s
  | .actionArm entry => Sys2Proof.Machine.execActionArm entry s
  | .dueTimePassedWaiting entry => Sys2Proof.Machine.execDueTimePassedWaiting entry s
  | .channelExpiry channel => Sys2Proof.Machine.execChannelExpiry channel s
  | .stopPulseEnd channel => Sys2Proof.Machine.execStopPulseEnd channel s
  | .coilRelease stop coil => Sys2Proof.Machine.execCoilRelease stop coil s
  | .valveFrameStart => Sys2Proof.Machine.execValveFrameStart s
  | .valveFrameLatch returned => Sys2Proof.Machine.execValveFrameLatch returned s
  | .cutoffPinChange asserted => Sys2Proof.Machine.execCutoffPinChange asserted s
  | .assertionEdge => Sys2Proof.Machine.execAssertionEdge s
  | .cutoffReleaseEdge => Sys2Proof.Machine.execCutoffReleaseEdge s
  | .pwmPeriodStart => Sys2Proof.Machine.execPwmPeriodStart s
  | .debouncedLevelChange lines => Sys2Proof.Machine.execDebouncedLevelChange lines s
  | .syncMarkRejected lowBits => Sys2Proof.Machine.execSyncMarkRejected lowBits s

end Sys2Proof.Machine
end

