-- ==== Sys2Proof/Machine/Time.lean ====
section
/-! DEFINITION. Machine/Time.lean: what a bit time does by itself, when no command waits: the station time counter, the counts of quiet and of
the high line, the ticks since the sound port was last read anew, and the samples of the cutoff pin (R1, R4, R12, R36, R172). -/

namespace Sys2Proof.Machine

/-- The counter after one bit time: a tick every 25 (R1). -/
def Clock.advance (c : Clock) : Clock :=
  if Config.bitsPerTick ≤ c.bit + 1 then { c with bit := 0, time := c.time + 1 } else { c with bit := c.bit + 1 }

/-- Whether the line is known to be high: it is not low, no frame of the station's own is on it, and no frame is being received (R4, R12). -/
def LineInterface.idleHigh (l : LineInterface) : Bool := !l.low && l.onLine.isNone && l.framing != .receiving

/-- The line interface after one bit time with nothing told of the line (R4, R12): quiet and the run of high bit times go on while the line
is known to be high. -/
def LineInterface.advance (l : LineInterface) : LineInterface :=
  { l with
    quiet := l.quiet.map (· + 1)
    high := if l.idleHigh then l.high + 1 else l.high
    joinTime := l.joinTime.map fun n => min Config.joinBits (n + 1) }

/-- The level that the first three samples of the cutoff pin set: theirs when they agree, else a free value (R172, log 7). -/
def firstCutoff (seed : Nat) (samples : List Bool) : Bool :=
  if samples.all id then true else if samples.all not then false else Config.startLevel (12 * seed)

/-- One sample of the cutoff pin (R172). The third in a row that differs from the state is not taken here: it is the command ASSERTION_EDGE or
CUTOFF_RELEASE_EDGE. -/
def takeCutoffSample (s : State) : State :=
  let c := s.out.cutoff
  if !c.settled then
    if c.early.length < 2 then
      { s with out := { s.out with cutoff := { c with early := c.early ++ [c.pin], sampledAt := s.now } } }
    else
      let (k, t) := s.takeFree
      { t with
        out :=
          { s.out with
            cutoff := { c with asserted := firstCutoff k (c.early ++ [c.pin]), early := [], settled := true, sampledAt := s.now } } }
  else if c.pin = c.asserted then
    { s with out := { s.out with cutoff := { c with differing := 0, sampledAt := s.now } } }
  else if c.differing < 2 then
    { s with out := { s.out with cutoff := { c with differing := c.differing + 1, sampledAt := s.now } } }
  else s

/-- The cutoff pin sampled when 10 ticks have passed since the last sample (R172). -/
def sampleCutoff (s : State) : State :=
  if Config.sampleTicks ≤ since s.now s.out.cutoff.sampledAt then takeCutoffSample s else s

/-- The front end after one bit time that `ticks` says ends a tick: the port has been read a tick longer (R36, log 46). -/
def FrontEnd.advance (f : FrontEnd) (ticks : Bool) : FrontEnd := if ticks then { f with portTicks := f.portTicks + 1 } else f

/-- One bit time with no command (R1, R194): nothing moves while the reset input is held. -/
def bitTime (s : State) : State :=
  if s.running then
    sampleCutoff
      { s with
        clock := s.clock.advance, line := s.line.advance
        front := s.front.advance (Config.bitsPerTick ≤ s.clock.bit + 1) }
  else s

end Sys2Proof.Machine
end

