-- ==== Sys2Proof/Safety.lean ====
section
/-! DEFINITION. Safety.lean: what the manual says of every state of the station, and which frames and records lie in range. These are the
terms in which statements about every step are made. -/

namespace Sys2Proof.Machine

/-! ## Frames and records in range -/

/-- A frame a sender may send: every field in the range of chapter 12, and no age for the kinds that carry none (R18, R205). -/
def WireFrame.inRange (w : WireFrame) : Bool :=
  match w.body with
  | .heard _ _ strength => decide (strength ≤ 255) && decide (w.age ≤ 65535)
  | .pulse f =>
    decide (f.hymn ≤ 1023) && decide (f.beat ≤ 65535) && decide (2000 ≤ f.period) && decide (f.period ≤ 24000) &&
      decide (f.confidence ≤ 15) && decide (f.level ≤ 255) && decide (w.age ≤ 65535)
  | .cue _ hymn => decide (hymn ≤ 1023) && w.age == 0
  | .halt => w.age == 0
  | .fault _ _ _ _ => w.age == 0

/-- The payload length of a frame's kind (R3). -/
def FrameBody.length : FrameBody → Nat
  | .heard _ _ _ => 5
  | .pulse _ => 12
  | .cue _ _ => 3
  | .halt => 1
  | .fault _ _ _ _ => 4

/-- Every numeric item of a configuration record within its range (R196). -/
def Configuration.inRange (c : Configuration) : Bool :=
  decide (c.pickupDelay ≤ 1000) && decide (c.chamberDelay ≤ 4000) && decide (-500 ≤ c.bias) && decide (c.bias ≤ 500) &&
    (c.zones.all fun z => decide (z.lower ≤ 63) && decide (z.speech ≤ 2000)) && decide (c.offTrim ≤ 500) &&
    decide (c.articulation ≤ 6) && decide (c.lateLimit ≤ 1000) && decide (c.kp ≤ 16) && decide (c.ki ≤ 64) && decide (c.kc ≤ 16) &&
    decide (2 ≤ c.windowFactor) && decide (c.windowFactor ≤ 8) && decide (1 ≤ c.quorum) && decide (c.quorum ≤ 60) &&
    decide (c.selfWeight ≤ 15) && decide (c.peerDefault ≤ 15) && decide (1 ≤ c.weightMax) && decide (c.weightMax ≤ 15) &&
    decide (c.onsetFloor ≤ 32767) && decide (20 ≤ c.onsetRatio) && decide (c.onsetRatio ≤ 64) && decide (1 ≤ c.persistence) &&
    decide (c.persistence ≤ 3) && decide (500 ≤ c.refractory) && decide (c.refractory ≤ 3000) && decide (2 ≤ c.releaseRatio) &&
    decide (c.releaseRatio ≤ 8) && decide (c.swellRest ≤ 255) && decide (300 ≤ c.stopPulse) && decide (c.stopPulse ≤ 2500) &&
    decide (c.stopLead ≤ 3000)

/-! ## What statements about commands share -/

/-- HEARD frames a station holds, in its queue and on the line. -/
def LineInterface.heardFrames (l : LineInterface) : Nat :=
  l.queue.countP QueuedFrame.isHeard + (l.onLine.toList.map (·.frame)).countP QueuedFrame.isHeard

/-- The edges at the sound input port that bring a sample (R23): bits outside any sample, word sync edges each with the bits of a sample cut short
by the next one, and at last a word sync edge with the sample's own bits. -/
def portEdges (outside : List Bool) (cut : List (List Bool)) (bits : List Bool) : List SoundEdge :=
  outside.map .bit ++ cut.flatMap (fun short => .wordSync :: short.map .bit) ++ .wordSync :: bits.map .bit

/-- The magnitude of sixteen bits read as a signed number, the first the most significant (R23, R24). -/
def portMagnitude (bits : List Bool) : Nat :=
  let n := bits.foldl (fun n b => 2 * n + b.toNat) 0
  if n < 32768 then n else 65536 - n

/-- The state a peer's frame of the bytes given finds, with its own effects done: the frame ended on the line, and the sender's entry updated
(R19, R86). -/
def State.afterFrameFrom (s : State) (bytes : List Byte) (p : Station) : State :=
  { s with
    line := s.line.frameEnd bytes
    gather.peers :=
      s.gather.peers.set p
        { s.gather.peers[p] with
          present := true, lastHeard := s.line.markLatch
          weight := if (s.gather.peers[p]).present then (s.gather.peers[p]).weight else min s.cfg.peerDefault s.cfg.weightMax } }

/-- Whether a CUE frame of a peer is being received whole, with the cue and the hymn number given. -/
abbrev State.hearsCue (s : State) (bytes : List Byte) (p : Station) (c : Cue) (n : Nat) : Prop :=
  s.running = true ∧ s.line.onLine = none ∧ s.line.framing = .receiving ∧ judgeFrame bytes = .valid ⟨p, .cue c n, 0⟩ ∧ p ≠ s.startup.strap

/-- A state in which a fault channel has just been latched and reported for the first time, with the reaction REPORT: its latch set, its FAULT
frame offered (R184, R185). -/
def State.withReport (s : State) (ch : FaultNo) (culprit : Option Station) : State :=
  { s with
    line.queue := (enqueue s.line.queue ⟨.fault ch .report culprit 0, s.now, 0, s.fault.nextTag⟩).1
    fault := { s.fault with latches := s.fault.latches ||| (1#8 <<< ch.val), nextTag := s.fault.nextTag + 1 } }

/-- Whether the first raise of a channel would be a REPORT: configured so, not yet latched, and neither HALTED nor HELD. -/
abbrev State.wouldReport (s : State) (ch : FaultNo) : Prop :=
  s.cfg.reactions[ch] = .report ∧ s.latched ch = false ∧ s.isHalted = false ∧ s.running = true

/-- The flash port serving one read, with nothing waiting (R40). -/
def FlashPort.only (r : FlashRead) : FlashPort := ⟨some r, false, none, none, none, true⟩

/-- A load that has failed (R47, R66): IDLE with no hymn, the hymn of a load begun for a join barred, SCORE reported. -/
def State.afterFailedLoad (s : State) : State :=
  State.withReport
    { s with
      store := { s.store with port := .initial, loader := .idle, hymn := none }
      play :=
        { s.play with
          state := .idle, pendingStart := none, join := none, joinLoad := none
          barred := match s.play.joinLoad with | some n => some n | none => s.play.barred } }
    4 none

/-- Whether a mark record of a verse passes the tests of R49 that look at it alone. -/
abbrev MarkRecord.passes (length : Nat) (r : MarkRecord) : Prop :=
  (r.sung = true ∨ r.hold = true ∨ r.broaden = true) ∧ r.beat < length ∧ r.sub ≤ 23 ∧
    (r.hold = true → 1 ≤ r.holdOffset ∧ r.holdOffset ≤ 191 ∧ 1 ≤ r.holdBeats ∧ r.holdBeats ≤ 8)

/-- The mark that a record makes at a play position (R49). -/
def MarkRecord.mark (r : MarkRecord) (position : Nat) : Mark :=
  ⟨position, if r.sung then .unserved else .absent, if r.hold then .unserved else .absent, if r.broaden then .unserved else .absent,
    position + r.holdOffset, r.holdBeats⟩

/-- The due time of an action under the ruling line (R150): its position's time less its lead; for a NOTE_OFF the later of that and its floor,
the one recorded or 100 ticks after the due time of its NOTE_ON in the table. -/
def State.rulesDue (s : State) (x : Action) (due : Time) : Prop :=
  let own := addTicks (s.timeOf x.position) (-x.lead)
  match x.kind, x.pair with
  | .noteOff _, .fired floor => due = if 0 ≤ since own floor then own else floor
  | .noteOff _, .entry on =>
    ∃ y d, s.sched.table[on] = some y ∧ y.due = some d ∧ due = if 0 ≤ since own (d + 100) then own else d + 100
  | .noteOff _, .absent => False
  | _, _ => due = own

/-- The output stage with the coil of a stop pulsed until a time, or until the later time it has already (R156, R174). -/
def OutputStage.withPulse (o : OutputStage) (stop : StopNo) (coil : Coil) (ends : Time) : OutputStage :=
  let later (t : Option Time) : Option Time :=
    match t with
    | some t => some (if 0 ≤ since t ends then t else ends)
    | none => some ends
  match coil with
  | .on =>
    { o with
      onCoils := o.onCoils.set stop (later o.onCoils[stop]), offCoils := o.offCoils.set stop none
      stopImage := o.stopImage ||| (1#16 <<< stop.val) }
  | .off =>
    { o with
      offCoils := o.offCoils.set stop (later o.offCoils[stop]), onCoils := o.onCoils.set stop none
      stopImage := o.stopImage &&& ~~~(1#16 <<< stop.val) }

/-- A gather under the line that rules in a state (R89, R93): its window T(s) ± W_s, W_s the window factor's sixteenths of the period within half
the distance to each neighbour that there is, and its close expiry 300 ticks past the window's end; the next SUNG mark is read from a mark
queue. -/
def Gather.underLine (t : State) (queue : List Mark) (g : Gather) : Gather :=
  let next := (queue.find? fun m => decide (m.sung ≠ .absent ∧ g.mark < m.position)).map (·.position - g.mark)
  let cut (gap : Option Nat) (w : Nat) : Nat :=
    match gap with
    | some su => min w (su * t.period / 48)
    | none => w
  let w := cut next (cut g.gapPrev (t.period * t.cfg.windowFactor / 16))
  let at_ := t.timeOf g.mark
  { g with gapNext := next, window := ⟨addTicks at_ (-w), addTicks at_ w⟩, expiry := addTicks at_ (w + 300) }

/-- A re-time pass stands at its beginning when an action is WAITING or ARMED, and none is in hand otherwise (R158, R160). -/
abbrev State.passBegun (t : State) : Prop :=
  t.sched.pass = if t.sched.table.toList.any (fun x => x.any Action.live) then some .start else none

/-- What the report that ends a change of the ruling anchor has left (R93, R103, R158): a re-time pass begun, and the gathers given, and no
others, open with their windows and close expiries afresh. -/
abbrev State.anchorReported (t : State) (opens : List Gather) (queue : List Mark) : Prop :=
  t.passBegun ∧ t.gather.opens = opens.map (Gather.underLine t queue)

/-! ## The transmit queue (R10, R15) -/

/-- The transmit queue as R15 has it: at most 8 frames, at most one PULSE, a HALT only at the head, and with the frame on the line no frame of
eight clashes (R10). -/
def LineInterface.queueLegal (l : LineInterface) : Bool :=
  decide (l.queue.length ≤ Config.queueCapacity) && decide (l.queue.countP QueuedFrame.isPulse ≤ 1) &&
    !(l.queue.tail.any QueuedFrame.isHalt) && (l.queue.all fun f => decide (f.clashes < Config.clashLimit)) &&
    l.onLine.all fun f => decide (f.frame.clashes < Config.clashLimit)

/-! ## HALTED and SILENCED (R21, R166, R191) -/

/-- A HALTED station transmits nothing: its queue is empty, no frame of its own is on the line, its transmitter is OFF (R21, R191). -/
def State.haltedQuiet (s : State) : Bool :=
  !s.isHalted || (s.line.queue.isEmpty && s.line.onLine.isNone && s.line.transmitter == .off)

/-- Whether the play state is SILENCED or HALTED. -/
def State.muted (s : State) : Bool := s.play.state == .silenced || s.isHalted

/-- In SILENCED and HALTED nothing is left to sound: no action in the table, every hold count 0, the readers stopped, no load and no seek
(R59, R166). -/
def State.mutedEmpty (s : State) : Bool :=
  !s.muted ||
    (tableEmpty s && s.out.counts.toList.all (· == 0) && s.store.marks.phase == .stopped && s.store.notes.phase == .stopped &&
      s.store.loader == .idle && s.store.seek.isNone)

/-! ## The hypothesis stack (R127, R128) -/

/-- The tags of the stack as R127 has them: in play a TOP that is ACTIVE or PROVISIONAL, a PROVISIONAL one over a FALLBACK, and no FALLBACK under
an ACTIVE one; outside play every slot EMPTY with the TOP index 0. -/
def State.stackLegal (s : State) : Bool :=
  if s.inPlay then
    match s.follow.slots[s.follow.top] with
    | some slot =>
      match slot.tag with
      | .active => s.follow.slots.toList.all fun x => !isFallback x
      | .provisional => isFallback s.follow.slots[s.follow.top + 1]
      | .fallback => false
    | none => false
  else s.follow.slots.toList.all (·.isNone) && s.follow.top == 0

/-- There is no play state until the start step is DONE, and there is one from then on (R202). -/
def State.startLegal (s : State) : Bool := (s.startup.step == .done) == (s.play.state != .starting)

/-- A load stands only in LOADING (R46, R59). -/
def State.loaderLegal (s : State) : Bool := s.store.loader == .idle || s.play.state == .loading

/-! ## The ruling period (R44, R106) -/

/-- A header whose nominal period is in range, as every header that passed is (R44). -/
def Header.periodInRange (h : Header) : Bool := decide (2000 ≤ h.period) && decide (h.period ≤ 24000)

/-- A period within the limits of a hymn (R106). -/
def Header.admits (h : Header) (period : Nat) : Bool := decide (h.minPeriod ≤ period) && decide (period ≤ h.maxPeriod)

/-- With a hymn loaded, its nominal period in range, and the periods of every slot and of the join anchor within its limits; without one, no
join anchor; while a load has not come to priming, no hymn (R43, R76, R106). -/
def State.periodsLegal (s : State) : Bool :=
  (match s.header with
    | some h =>
      h.periodInRange && (s.follow.slots.toList.all fun x => x.all fun slot => h.admits slot.anchor.period) &&
        s.play.join.all fun j => j.anchor.all fun a => h.admits a.period
    | none => s.play.join.all fun j => j.anchor.isNone) &&
    match s.store.loader with
    | .idle | .priming => true
    | .plan _ h => s.store.hymn.isNone && h.periodInRange
    | _ => s.store.hymn.isNone

/-! ## The follower's counts and the peer weights (R72, R86, R112) -/

/-- Lock confidence 0 to 15, miss count 0 to 2, matched run 0 to 2 (R72, R112). -/
def State.countsInRange (s : State) : Bool :=
  decide (s.follow.confidence ≤ 15) && decide (s.follow.misses ≤ 2) && decide (s.play.run ≤ 2)

/-- Every peer weight within the configured weight maximum (R86). -/
def State.weightsInRange (s : State) : Bool := s.gather.peers.toList.all fun p => decide (p.weight ≤ s.cfg.weightMax)

/-! ## The action table (R147, R152, R155) -/

/-- Whether an action stands rightly in its table: a NOTE_ON names an entry holding its NOTE_OFF, of the same key, which names it back; a
NOTE_OFF that names an entry is named back by a NOTE_ON; the two are HELD with reason SLIP only together; a STOP has no pair and is not
SLIP-held (R147, R163). -/
def pairLegal (table : Vector (Option Action) 64) (e : EntryNo) (a : Action) : Bool :=
  match a.kind, a.pair with
  | .noteOn key, .entry p =>
    (table[p]).any fun b =>
      b.kind == .noteOff key && b.pair == .entry e && a.heldFor .slip == b.heldFor .slip
  | .noteOff key, .entry p =>
    (table[p]).any fun b => b.kind == .noteOn key && b.pair == .entry e && a.heldFor .slip == b.heldFor .slip
  | .noteOff _, .fired _ => !a.heldFor .slip
  | .stop _ _, .absent => !a.heldFor .slip
  | _, _ => false

/-- Whether an ARMED action is served by the channel it names, and could fire (R151, R152). -/
def armedLegal (sc : Scheduler) (e : EntryNo) (a : Action) : Bool :=
  match a.state with
  | .armed c =>
    (match sc.channels[c] with
      | .waiting f d => f == e && a.due == some d
      | _ => false) && eligible none a
  | _ => true

/-- Whether a WAITING channel serves an ARMED action that names it (R152). -/
def channelLegal (sc : Scheduler) (c : ChannelNo) : Bool :=
  match sc.channels[c] with
  | .waiting e _ => (sc.table[e]).any fun a => a.state == .armed c
  | _ => true

/-- The action table and the fire channels as R147 and R152 have them. -/
def Scheduler.legal (sc : Scheduler) : Bool :=
  ((List.finRange 64).all fun e => (sc.table[e]).all fun a => pairLegal sc.table e a && armedLegal sc e a) &&
    (List.finRange 8).all (channelLegal sc)

/-- The hold count of each key is the number of NOTE_OFFs for it in the table whose NOTE_ON has fired (R155). -/
def State.countsMatch (s : State) : Bool := (List.finRange 64).all fun key => s.out.counts[key] == firedOffs s.sched.table key

/-- What the manual says of every state of the station, taken together: a run is safe when every state of it is. -/
def State.safe (s : State) : Bool :=
  s.line.queueLegal && s.haltedQuiet && s.mutedEmpty && s.stackLegal && s.startLegal && s.loaderLegal && s.periodsLegal &&
    s.countsInRange && s.weightsInRange && s.sched.legal && s.countsMatch

end Sys2Proof.Machine
end

