-- ==== Sys2Proof/Certificates/Slice0/Obligations.lean ====
section
/-! DEFINITION. Certificates/Slice0/Obligations.lean: the statements about the W24 that are to be proved, chapter by chapter. -/

open Sys2Proof Sys2Proof.Machine

/-! ## The machine as a whole -/

/-- A command at the front of the queue is what the next step does, on the state with the rest of the queue (log 3). -/
def Obligations.StepRunsFrontCommand : Prop :=
  ∀ (c : Instr) (s : State), step { s with pending := c :: s.pending } = exec c s

/-- With no command waiting a step is one bit time: the counter and the counts of the line move on, a tick each 25 (R1, R4, R12); the run of high
bit times grows while the line is known to be high, no frame being received or sent (log 13, the model's choice); the sound port has been read a
tick longer at each tick (log 46); when the cutoff pin is due to be sampled, the sample is taken as well (R172; that bit times take the samples
that change nothing is log 11, the model's choice). While the reset input is held nothing moves (R194). That an empty queue means a bit time is the
model's choice (log 3). -/
def Obligations.IdleStepIsOneBitTime : Prop :=
  ∀ s : State, s.pending = [] →
    let clock : Clock :=
      if s.clock.bit < 24 then { s.clock with bit := s.clock.bit + 1 } else { s.clock with bit := 0, time := s.clock.time + 1 }
    let line : LineInterface :=
      { s.line with
        quiet := s.line.quiet.map (· + 1)
        high := if !s.line.low && s.line.onLine.isNone && s.line.framing != .receiving then s.line.high + 1 else s.line.high
        joinTime := s.line.joinTime.map fun n => min 500 (n + 1) }
    let front : FrontEnd := if s.clock.bit < 24 then s.front else { s.front with portTicks := s.front.portTicks + 1 }
    let sampled (c : Cutoff) : Host.Outcome State Fault Refusal :=
      .next { s with clock := clock, line := line, front := front, out := { s.out with cutoff := c } }
    let c := s.out.cutoff
    (s.running = false → step s = .next s) ∧
      (s.running = true → since clock.time c.sampledAt < 10 → step s = sampled c) ∧
      (s.running = true → 10 ≤ since clock.time c.sampledAt → c.settled = true → c.pin = c.asserted →
        step s = sampled { c with differing := 0, sampledAt := clock.time }) ∧
      (s.running = true → 10 ≤ since clock.time c.sampledAt → c.settled = true → c.pin ≠ c.asserted → c.differing < 2 →
        step s = sampled { c with differing := c.differing + 1, sampledAt := clock.time }) ∧
      (s.running = true → 10 ≤ since clock.time c.sampledAt → c.settled = false → c.early.length < 2 →
        step s = sampled { c with early := c.early ++ [c.pin], sampledAt := clock.time }) ∧
      (s.running = true → 10 ≤ since clock.time c.sampledAt → c.settled = false → c.early = [c.pin, c.pin] →
        step s =
          .next
            { s with
              clock := { clock with opened := clock.opened + 1 }, line := line, front := front
              out :=
                { s.out with
                  cutoff := { c with asserted := c.pin, early := [], settled := true, sampledAt := clock.time } } })

/-- No command touches the queue of commands. -/
def Obligations.ExecKeepsPending : Prop :=
  ∀ (c : Instr) (s t : State), exec c s = .next t → t.pending = s.pending

/-- The counter and the station number move only at a full start, the configuration record only there and at the configuration read
(R195, R203), and the mark latch only at a frame mark, at full start and under reset (R5). -/
def Obligations.IdentityAndTimeKept : Prop :=
  ∀ (c : Instr) (s t : State), exec c s = .next t → (∀ n, c ≠ .fullStart n) →
    t.clock.time = s.clock.time ∧ t.startup.strap = s.startup.strap ∧
      ((∀ bytes, c ≠ .configurationSectionRead bytes) → t.startup.config = s.startup.config) ∧
      (c ≠ .resetAsserted → (∀ n, c ≠ .frameMark n) → t.line.markLatch = s.line.markLatch)

/-- The state under reset meets everything the manual says of every state, and its outputs are off (R194). -/
def Obligations.ResetStateIsSafe : Prop :=
  State.reset.safe = true ∧ State.reset.pending = [] ∧ State.reset.running = false ∧ State.reset.outputEnable = false ∧
    State.reset.line.onLine = none ∧ State.reset.swellPin = false ∧ State.reset.attn = false ∧ State.reset.store.port.serving = none

/-- Every step keeps the transmit queue as R15 has it, and no frame in it or on the line has eight clashes (R10). -/
def Obligations.QueueStaysLegal : Prop :=
  ∀ s t : State, s.line.queueLegal = true → step s = .next t → t.line.queueLegal = true

/-- Every step keeps a HALTED station silent on the line: queue empty, no frame of its own, transmitter OFF (R21, R191); and HALTED is left by a
RESTART or by full start, and by nothing else (R81). -/
def Obligations.HaltedStaysQuiet : Prop :=
  (∀ s t : State, s.haltedQuiet = true → step s = .next t → t.haltedQuiet = true) ∧
    ∀ (c : Instr) (s t : State), s.isHalted = true → s.haltedQuiet = true → s.mutedEmpty = true → exec c s = .next t →
      t.isHalted = true ∨ c = .resetAsserted ∨ (∃ n, c = .fullStart n) ∨ c = .bothHeldRestart ∨ ∃ bytes, c = .restart bytes

/-- Every step keeps the hypothesis stack as R127 has it, with a play state exactly once full start is done (R202) and a load only in
LOADING. -/
def Obligations.StackStaysLegal : Prop :=
  ∀ s t : State, (s.stackLegal && s.startLegal && s.loaderLegal) = true → step s = .next t →
    (t.stackLegal && t.startLegal && t.loaderLegal) = true

/-- Every step keeps SILENCED and HALTED stations with an empty table, hold counts of 0 and stopped readers (R59, R166). -/
def Obligations.MutedStaysEmpty : Prop :=
  ∀ s t : State, s.mutedEmpty = true → step s = .next t → t.mutedEmpty = true

/-- Every step keeps the action table and the channels as R147 and R152 have them, and each hold count equal to the number of NOTE_OFFs of its
key whose NOTE_ON has fired (R155). -/
def Obligations.TableStaysLegal : Prop :=
  ∀ s t : State, (s.sched.legal && s.countsMatch) = true → step s = .next t → (t.sched.legal && t.countsMatch) = true

/-- Every step keeps every period of the stack within the loaded hymn's limits (R106). -/
def Obligations.PeriodStaysInLimits : Prop :=
  ∀ s t : State, (s.periodsLegal && s.stackLegal && s.startLegal && s.loaderLegal) = true → step s = .next t →
    (t.periodsLegal && t.stackLegal && t.startLegal && t.loaderLegal) = true

/-- Every step keeps the lock confidence, the miss count and the matched run in range (R72, R112), and every peer weight within the weight
maximum (R86). -/
def Obligations.CountsAndWeightsStayInRange : Prop :=
  ∀ s t : State, (s.countsInRange && s.weightsInRange) = true → step s = .next t → (t.countsInRange && t.weightsInRange) = true

/-! ## Formats (chapter 12) -/

/-- Every frame a sender may send is read back whole by a receiver (R18, R205). -/
def Obligations.FrameRoundTrip : Prop :=
  ∀ w : WireFrame, w.inRange = true → judgeFrame (encodeFrame w) = .valid w

/-- How a frame stands on the line (R3): its bytes in their order, twelve low bit times, the high bit time after the mark, each byte least
significant bit first between a 0 and a 1; its payload, byte by byte for each kind (R205, section 12.2), and its length in bit times. -/
def Obligations.FrameOnTheLine : Prop :=
  ∀ w : WireFrame,
    let bytes := encodeFrame w
    let byte (n : Nat) : Byte := BitVec.ofNat 8 n
    let high (n : Nat) : Byte := BitVec.ofNat 8 (n / 256)
    let culprit : Option Station → Byte
      | some p => byte p.val
      | none => 255
    let payload : List Byte :=
      match w.body with
      | .heard event sequence strength =>
        [match event with | .onset => 0 | .release => 1, sequence, byte w.age, high w.age, byte strength]
      | .pulse f =>
        [byte f.hymn, high f.hymn, byte f.beat, high f.beat, byte w.age, high w.age, byte f.period, high f.period,
          byte (f.confidence + 16 * match f.tempo with | .leading => 1 | .following => 2), byte f.level,
          byte (f.resync.toNat + 2 * f.listening.toNat + 4 * f.leadLock.toNat + 8 * f.fault.toNat + 16 * f.summary.toNat),
          culprit f.culprit]
      | .cue cue hymn =>
        [match cue with | .select => 1 | .start => 2 | .stop => 3 | .restart => 4, byte hymn, high hymn]
      | .halt => [0]
      | .fault ch reaction station sequence =>
        [byte ch.val, match reaction with | .report => 0 | .lead => 1 | .silence => 2, culprit station, sequence]
    let n := payload.length
    (∃ first check0 check1, bytes = first :: BitVec.ofNat 8 n :: (payload ++ [check0, check1]) ∧
      first.toNat % 16 = w.sender.val ∧ first.toNat / 16 = w.body.kind ∧ checked bytes = true) ∧
      (n = match w.body with | .heard _ _ _ => 5 | .pulse _ => 12 | .cue _ _ => 3 | .halt => 1 | .fault _ _ _ _ => 4) ∧
      frameBits bytes =
        List.replicate 12 false ++ [true] ++
          bytes.flatMap
            (fun b =>
              [false, b.getLsbD 0, b.getLsbD 1, b.getLsbD 2, b.getLsbD 3, b.getLsbD 4, b.getLsbD 5, b.getLsbD 6, b.getLsbD 7, true]) ∧
      (frameBits bytes).length = 13 + 10 * (4 + n)

/-- The record taken from a section whose check matches (R196, R206): every item at its place in the configuration table of section 12.3, low byte
first, clamped to its range; a division other than 0 to 7 is NONE, a reaction code above 2 the channel's default. The zones are put in order
(R197): zone 0 kept, the bounds rising, a zone above every bound before it kept; and the speech delay of a key is that of the zone with the
greatest bound at or below it, of zone 0 for a key below every bound (R148). -/
def Obligations.SectionItems : Prop :=
  (∀ bytes : List Byte,
    let one (o : Nat) : Nat := (bytes.getD o 0).toNat
    let two (o : Nat) : Nat := one o + 256 * one (o + 1)
    let within (lo hi n : Nat) : Nat := max lo (min hi n)
    let c := parseSection bytes
    c.inRange = true ∧
      c.division.map (·.val) = (if one 0 < 8 then some (one 0) else none) ∧
      c.listen = decide (one 1 % 2 = 1) ∧ c.play = decide (one 1 / 2 % 2 = 1) ∧
      c.pickupDelay = within 0 1000 (two 2) ∧ c.chamberDelay = within 0 4000 (two 4) ∧
      c.bias = max (-500) (min 500 (if two 6 < 32768 then (two 6 : Int) else two 6 - 65536)) ∧
      c.zones = mergeZones ((List.range 8).map fun i => ⟨within 0 63 (one (8 + 3 * i)), within 0 2000 (two (9 + 3 * i))⟩) ∧
      c.offTrim = within 0 500 (two 32) ∧ c.articulation = within 0 6 (one 34) ∧ c.lateLimit = within 0 1000 (two 35) ∧
      c.kp = within 0 16 (one 37) ∧ c.ki = within 0 64 (one 38) ∧ c.kc = within 0 16 (one 39) ∧
      c.windowFactor = within 2 8 (one 40) ∧ c.quorum = within 1 60 (one 41) ∧ c.selfWeight = within 0 15 (one 42) ∧
      c.peerDefault = within 0 15 (one 43) ∧ c.weightMax = within 1 15 (one 44) ∧ c.masks.toNat = one 45 % 128 ∧
      (∀ ch : FaultNo,
        c.reactions[ch] =
          match one (46 + ch.val) with
          | 0 => .report
          | 1 => .lead
          | 2 => .silence
          | _ => if ch = 7 then .silence else .report) ∧
      c.attnEnables.toNat = one 54 ∧ c.onsetFloor = within 0 32767 (two 55) ∧ c.onsetRatio = within 20 64 (one 57) ∧
      c.persistence = within 1 3 (one 58) ∧ c.refractory = within 500 3000 (two 59) ∧ c.releaseRatio = within 2 8 (one 61) ∧
      c.swellRest = one 62 ∧ c.stopPulse = within 300 2500 (two 63) ∧ c.stopLead = within 0 3000 (two 65)) ∧
    ∀ zs : List Zone,
      (mergeZones zs).Pairwise (fun a b => a.lower < b.lower) ∧ (mergeZones zs).Sublist zs ∧
        (mergeZones zs).head? = zs.head? ∧
        (∀ i (h : i < zs.length), (∀ j (hj : j < i), zs[j].lower < zs[i].lower) → zs[i] ∈ mergeZones zs) ∧
        (∀ key z, z ∈ mergeZones zs → z.lower ≤ key → (∀ y ∈ mergeZones zs, y.lower ≤ key → y.lower ≤ z.lower) →
          speechDelay (mergeZones zs) key = z.speech) ∧
        ∀ key z, zs.head? = some z → (∀ y ∈ mergeZones zs, key < y.lower) → speechDelay (mergeZones zs) key = z.speech

/-- The fields of a mark record and of a note record stand at the bits R206 gives; the unused bits are ignored. -/
def Obligations.RecordFields : Prop :=
  (∀ (beat sub off k unused : Nat) (sung hold broaden : Bool),
    beat < 2 ^ 9 → sub < 2 ^ 5 → off < 2 ^ 8 → k < 2 ^ 4 → unused < 2 ^ 3 →
      parseMark
          (beat + 2 ^ 9 * sub + 2 ^ 14 * sung.toNat + 2 ^ 15 * hold.toNat + 2 ^ 16 * broaden.toNat + 2 ^ 17 * off + 2 ^ 25 * k +
            2 ^ 29 * unused) =
        ⟨beat, sub, sung, hold, broaden, off, k⟩) ∧
    ∀ (beat sub length voice unused : Nat) (key : Key),
      beat < 2 ^ 9 → sub < 2 ^ 5 → length < 2 ^ 12 → voice < 2 ^ 3 → unused < 2 ^ 5 →
        parseNote (beat + 2 ^ 9 * sub + 2 ^ 14 * length + 2 ^ 26 * key.val + 2 ^ 32 * voice + 2 ^ 35 * unused) =
          ⟨beat, sub, length, key, voice⟩

/-- The predicted time of a play position (R104): the anchor time plus the nearest whole number to (s - S0) × P / 24, ties away from zero; and
under an anchor on a whole beat, beats fall exactly a period apart. -/
def Obligations.PredictedTime : Prop :=
  ∀ (a : Anchor) (p : Nat),
    (∃ r : Int,
      let exact : Int := ((p : Int) - a.position) * a.period
      a.timeOf p = a.time + BitVec.ofInt 32 r ∧ 2 * (24 * r - exact).natAbs ≤ 24 ∧
        (2 * (24 * r - exact).natAbs = 24 → exact.natAbs < (24 * r).natAbs)) ∧
      (a.position % 24 = 0 → ∀ b : Nat,
        a.timeOf (24 * b) = a.time + BitVec.ofInt 32 (((b : Int) - (a.position / 24 : Nat)) * a.period) ∧
          a.timeOf (24 * (b + 1)) = a.timeOf (24 * b) + BitVec.ofNat 32 a.period)

/-! ## Start-up (chapter 11) -/

/-- RESET_ASSERTED holds the part: outputs off, the line undriven, every block as full start sets it, and the strap value, the configuration
and the silencing record kept (R194, R203). FULL_START sets the counter to 0, takes the straps and asks for the section of that station
(R195), every block at its full-start state and the cutoff's first sample taken (R172). That this sample falls within FULL_START itself, and
that the record holds the defaults until the read, is the model's choice (logs 11 and 10). -/
def Obligations.ResetAndFullStart : Prop :=
  ∀ (s : State) (straps : Station),
    (∃ t, exec .resetAsserted s = .next t ∧
      t =
        { State.reset with
          pending := s.pending, clock := { s.clock with bit := 0 }
          startup :=
            { StartUp.initial with
              strap := s.startup.strap, config := s.startup.config, silencingRecorded := s.startup.silencingRecorded }
          out := .initial s.out.cutoff.pin } ∧
      t.running = false ∧ t.outputEnable = false ∧ t.out.frame = none ∧ t.line.onLine = none ∧ t.swellPin = false ∧ t.attn = false ∧
      t.store.port.serving = none) ∧
      exec (.fullStart straps) s =
        .next
          { State.reset with
            pending := s.pending, clock := ⟨0, 0, s.clock.opened⟩
            startup := { StartUp.initial with step := .read, strap := straps }
            store := { ScoreStore.initial with port := { FlashPort.initial with serving := some ⟨.configuration, 128 * straps.val, 69⟩ } }
            out :=
              { OutputStage.initial s.out.cutoff.pin with
                cutoff := { Cutoff.initial s.out.cutoff.pin with early := [s.out.cutoff.pin] } } }

/-- CONFIGURATION_SECTION_READ: a section whose check matches is taken, the checks of its roles begin and the swell goes to rest (R195 to R198);
one whose check fails gives the defaults and CONFIG (R196), as a division that is neither 0 to 7 nor NONE does, which becomes NONE (R197).
Where each item stands in a section is stated by SectionItems. That the peer weights are cut to the new weight maximum is the model's
choice, inferred from R86 (log 26), as is the count of ticks by which a sample begun before this moment is known (R36, log 46). -/
def Obligations.ConfigurationTaken : Prop :=
  ∀ (bytes : List Byte) (address : Nat) (s : State), s.startup.step = .read → s.play.state = .starting →
    s.store.port = { FlashPort.initial with serving := some ⟨.configuration, address, bytes.length⟩ } →
    (checked bytes = true → (field bytes 0 1 < 8 ∨ field bytes 0 1 = 255) →
      let c := parseSection bytes
      ∃ t, exec (.configurationSectionRead bytes) s = .next t ∧
        t.startup =
          { s.startup with
            config := c, configEnd := s.now, valveCheck := if c.play then some 3 else none, soundCheck := c.listen
            step := if c.play || c.listen then .checks else .joining } ∧
        t.out = { s.out with swell := c.swellRest, target := c.swellRest } ∧ t.front = { s.front with lastSample := s.now, portTicks := 0 } ∧
        t.store = { s.store with port := FlashPort.initial } ∧ t.fault = s.fault ∧ t.play = s.play ∧ t.line.queue = s.line.queue ∧
        t.line.transmitter = s.line.transmitter ∧ t.follow = s.follow ∧ t.sched = s.sched ∧ t.cue = s.cue ∧ t.clock = s.clock ∧
        ∀ p : Station, t.gather.peers[p] = { s.gather.peers[p] with weight := min (s.gather.peers[p]).weight c.weightMax }) ∧
      (checked bytes = false →
        ∃ t, exec (.configurationSectionRead bytes) s = .next t ∧ t.startup.config = .defaults ∧ t.startup.step = .checks ∧
          t.latched 5 = true ∧ t.play.state = .starting ∧
          (s.latched 5 = false →
            t.line.queue = (enqueue s.line.queue ⟨.fault 5 .report none 0, s.now, 0, s.fault.nextTag⟩).1)) ∧
      (checked bytes = true → 8 ≤ field bytes 0 1 → field bytes 0 1 ≠ 255 →
        ∃ t, exec (.configurationSectionRead bytes) s = .next t ∧ t.startup.config = parseSection bytes ∧ t.cfg.division = none ∧
          t.latched 5 = true)

/-- SOUND_CHECK_TIMEOUT ends the sound check, which raises SOUND unless the loss report reads reported (R200), and the last check to end goes on to
the off-pulses or to joining (R201). The first block completed within 1000 ticks passes the sound check, with the same end (R200). OFF_PULSES_END
releases the off-coils and begins the count of R12. JOIN_COUNT_COMPLETE, when 500 bit times have passed since and the line has been high through
500, makes the transmitter ACTIVE and ends full start in IDLE, or in SILENCED when silencing was recorded (R12, R201); before that it does nothing.
The model's choices: R12's one count is held as a run of high bit times and a time since its beginning (log 13), and SOUND_CHECK_TIMEOUT leaves the
loss report as it is (log 31). -/
def Obligations.StartUpSteps : Prop :=
  ∀ s : State,
    (s.startup.step = .checks → s.startup.soundCheck = true → 1000 ≤ since s.now s.startup.configEnd →
      (s.front.lossReported = true → s.startup.valveCheck.isSome = true →
        exec .soundCheckTimeout s = .next { s with startup.soundCheck := false }) ∧
      (s.front.lossReported = true → s.startup.valveCheck = none → s.cfg.play = true →
        exec .soundCheckTimeout s =
          .next
            { s with
              startup := { s.startup with soundCheck := false, step := .pulses, pulsesEnd := addTicks s.now s.cfg.stopPulse }
              out.offCoils := Vector.replicate 16 (some (addTicks s.now s.cfg.stopPulse)) }) ∧
      (s.front.lossReported = true → s.startup.valveCheck = none → s.cfg.play = false →
        exec .soundCheckTimeout s =
          .next { s with startup := { s.startup with soundCheck := false, step := .joining }, line.joinTime := some 0 }) ∧
      (s.front.lossReported = false → s.play.state = .starting → s.cfg.reactions[(6 : FaultNo)] = .report → s.latched 6 = false →
        ∃ t, exec .soundCheckTimeout s = .next t ∧ t.latched 6 = true ∧ t.startup.soundCheck = false ∧
          t.line.queue = (enqueue s.line.queue ⟨.fault 6 .report none 0, s.now, 0, s.fault.nextTag⟩).1)) ∧
    (∀ (bits : List Bool) (ago : Nat), s.startup.step = .checks → s.startup.soundCheck = true → s.listening = true →
      s.front.block.count = 63 → s.front.history = [] → s.front.detector = .quiet → s.front.candidate = none →
      since s.now s.startup.configEnd ≤ 1000 → bits.length = 16 → ago ≤ s.front.portTicks →
      let envelope := (s.front.block.sum + portMagnitude bits) / 64
      let front : FrontEnd :=
        { s.front with
          block := ⟨0, 0, 0⟩, history := [envelope], window := (s.front.window ++ [envelope]).drop (s.front.window.length + 1 - 32)
          lastSample := s.now, lossReported := false, portTicks := 0 }
      let passed (startup : StartUp) (joinTime : Option Nat) (offCoils : Vector (Option Time) 16) : Prop :=
        exec (.sampleTaken (portEdges [] [] bits) ago) s =
          .next { s with front := front, startup := startup, line.joinTime := joinTime, out.offCoils := offCoils }
      (s.startup.valveCheck.isSome = true → passed { s.startup with soundCheck := false } s.line.joinTime s.out.offCoils) ∧
        (s.startup.valveCheck = none → s.cfg.play = true →
          passed { s.startup with soundCheck := false, step := .pulses, pulsesEnd := addTicks s.now s.cfg.stopPulse } s.line.joinTime
            (Vector.replicate 16 (some (addTicks s.now s.cfg.stopPulse)))) ∧
        (s.startup.valveCheck = none → s.cfg.play = false →
          passed { s.startup with soundCheck := false, step := .joining } (some 0) s.out.offCoils)) ∧
    (s.startup.step = .pulses → reached s.startup.pulsesEnd s.now = true →
      exec .offPulsesEnd s =
        .next { s with startup.step := .joining, line.joinTime := some 0, out.offCoils := Vector.replicate 16 none }) ∧
    (∀ n, s.line.transmitter = .joining → s.line.joinTime = some n → 500 ≤ n → 500 ≤ s.line.high →
      (s.startup.step ≠ .joining →
        exec .joinCountComplete s = .next { s with line := { s.line with transmitter := .active, joinTime := none } }) ∧
      (s.startup.step = .joining → s.startup.silencingRecorded = false →
        exec .joinCountComplete s =
          .next
            { s with
              startup.step := .done, play.state := .idle
              line := { s.line with transmitter := .active, joinTime := none } }) ∧
      (s.startup.step = .joining → s.startup.silencingRecorded = true →
        ∃ t, exec .joinCountComplete s = .next t ∧ t.play.state = .silenced ∧ t.startup = { s.startup with step := .done } ∧
          t.line = { s.line with transmitter := .active, joinTime := none } ∧ t.fault = s.fault ∧ t.mutedEmpty = true)) ∧
    ((s.line.joinTime = none ∨ s.line.high < 500 ∨ ∃ n, s.line.joinTime = some n ∧ n < 500) → exec .joinCountComplete s = .next s)

/-! ## The station line (chapter 1) -/

/-- What the edges and levels of the line do (R4, R5, R11, R12, R13): quiet, told as the run of high bit times, which ends at the first low bit; a
frame mark with the age written for an own HEARD or PULSE; a mark too long, a low period too short or one that is not awaited; the line held
low and released. The model's choice: how a run of high bit times that is told meets the run known (log 13), that a low period under 11 bit
times is no mark and changes nothing by itself (log 2), and that a release clears the low report with any transmitter (log 30). -/
def Obligations.LineLevels : Prop :=
  ∀ (n : Nat) (s : State), s.running = true →
    let low : LineInterface := { s.line with quiet := none, low := true, high := 0 }
    (s.line.onLine = none → s.line.lowReported = false → 11 ≤ n →
      exec (.lineQuiet n) s =
        .next
          { s with
            line :=
              { s.line with
                quiet := some (n - 11), low := false
                high :=
                  match s.line.quiet with
                  | some q => if q ≤ n - 11 then max n (min s.line.high (n + 9)) else n
                  | none => max n (min s.line.high (n + 9))
                framing := if s.line.framing = .waitQuiet then .waitSync else s.line.framing } }) ∧
    (s.line.onLine = none → s.line.lowReported = false → s.line.framing ≠ .receiving → n < 11 →
      exec (.lineQuiet n) s = .next { s with line := { s.line with quiet := none, low := n == 0, high := n } }) ∧
    ((s.line.onLine.isSome = true ∨ s.line.lowReported = true ∨ s.line.framing = .receiving ∧ n < 11) →
      exec (.lineQuiet n) s = .next s) ∧
    (s.line.framing = .waitSync → 11 ≤ n → n ≤ 13 →
      exec (.frameMark n) s =
        .next
          { s with
            line :=
              { low with
                low := false, markLatch := s.now, framing := .receiving
                onLine :=
                  s.line.onLine.map fun f =>
                    { f with
                      age :=
                        some
                          (match f.frame.body with
                          | .heard _ _ _ | .pulse _ => BitVec.ofInt 16 (since s.now f.frame.eventTime)
                          | .cue _ _ | .halt | .fault _ _ _ _ => 0) } } }) ∧
    (s.line.framing = .waitSync → 13 < n →
      exec (.syncMarkRejected n) s = .next { s with line := { low with framing := .waitQuiet } }) ∧
    (n < 11 → exec (.frameMark n) s = .next s) ∧
    (s.line.framing ≠ .waitSync → exec (.frameMark n) s = .next s ∧ exec (.syncMarkRejected n) s = .next s) ∧
    (s.line.transmitter ≠ .off → s.line.lowReported = true → 200 < n →
      exec (.lineHeldLow n) s =
        .next
          { s with
            line :=
              { low with
                framing := .waitQuiet
                transmitter := if s.line.transmitter = .active then .suspended else s.line.transmitter } }) ∧
    (s.line.transmitter ≠ .off → s.line.lowReported = false → 200 < n → s.isHalted = false →
      s.cfg.reactions[(0 : FaultNo)] = .report → s.latched 0 = false →
      exec (.lineHeldLow n) s =
        .next
          { s with
            line :=
              { low with
                framing := .waitQuiet, lowReported := true
                transmitter := if s.line.transmitter = .active then .suspended else s.line.transmitter
                queue := (enqueue s.line.queue ⟨.fault 0 .report none 0, s.now, 0, s.fault.nextTag⟩).1 }
            fault := { s.fault with latches := s.fault.latches ||| 1#8, nextTag := s.fault.nextTag + 1 } }) ∧
    (s.line.lowReported = true →
      exec .lineReleasedHigh s =
        .next
          { s with
            line :=
              { s.line with
                lowReported := false, low := false
                transmitter := if s.line.transmitter = .suspended then .active else s.line.transmitter } })

/-- SYNC_MARK_BEGIN (R6, R7): when the line has been quiet for the wait of the head frame, frames of HEARD and PULSE whose age would exceed 800
and 2000 ticks are removed from the head without report, and the first that passes becomes the frame on the line. Before the wait has passed,
and when another's sync mark or any other low bit has ended the quiet, nothing is sent. -/
def Obligations.SyncMarkBegins : Prop :=
  ∀ (n : Nat) (old : List QueuedFrame) (s : State),
    let expired (f : QueuedFrame) : Prop :=
      match f.body with
      | .heard _ _ _ => 800 < since (s.now + 1) f.eventTime
      | .pulse _ => 2000 < since (s.now + 1) f.eventTime
      | _ => False
    let wait (f : QueuedFrame) : Nat :=
      if f.clashes = 0 then 3 * s.startup.strap.val else 3 * s.startup.strap.val + 16 + 4 * f.clashes
    (s.line.transmitter = .active → s.line.onLine = none → s.line.framing ≠ .receiving → s.line.quiet = some n → (∀ f ∈ old, expired f) →
      (∀ f rest, s.line.queue = old ++ f :: rest → wait ((old ++ [f]).headD f) ≤ n → ¬expired f →
        exec .syncMarkBegin s =
          .next { s with line := { s.line with queue := rest, onLine := some ⟨f, none⟩, quiet := none, low := true, high := 0 } }) ∧
        ∀ f, s.line.queue = f :: old → expired f → wait f ≤ n → exec .syncMarkBegin s = .next { s with line.queue := [] }) ∧
      (∀ f rest, s.line.queue = f :: rest → s.line.quiet = some n → n < wait f → exec .syncMarkBegin s = .next s) ∧
      ((s.line.quiet = none ∨ s.line.queue = [] ∨ s.line.transmitter ≠ .active) → exec .syncMarkBegin s = .next s)

/-- Entry into the transmit queue (R15, R16): a frame goes to its tail, a HALT to its head; a full queue makes room by its oldest HEARD, else by
its PULSE, else the entering frame is dropped; a PULSE takes the place of the queued PULSE, at the tail; a HALT that finds a HALT is merged into
it. FRAME_CLASH (R9, R10, R15, R16): the frame leaves the line with its clash count raised and comes back at the head, or behind a HALT at the
head; in a full queue it takes the room of the oldest HEARD, else of the PULSE, else is dropped; a PULSE that finds a PULSE queued, or a HALT a
HALT, does not come back; at its eighth clash the frame is removed and LINE is latched. A FAULT frame that silencing in progress names ends it as
it leaves (R17). A clash in the high bit time after the sync mark, with no rising edge before it, leaves the receive framing waiting for quiet;
once the frame mark is latched the station goes on as a receiver, whichever bit clashed (log 51). -/
def Obligations.ClashedFrame : Prop :=
  (∀ (q : List QueuedFrame) (f : QueuedFrame),
    let pulse (g : QueuedFrame) : Prop := ∃ p, g.body = .pulse p
    let heard (g : QueuedFrame) : Prop := ∃ event sequence strength, g.body = .heard event sequence strength
    let entered (r : List QueuedFrame) : Prop := (enqueue q f).1 = if f.body = .halt then f :: r else r ++ [f]
    let twin (g : QueuedFrame) : Prop := pulse f ∧ pulse g ∨ f.body = .halt ∧ g.body = .halt
    ((∀ g ∈ q, ¬twin g) →
      (q.length < 8 → entered q) ∧
        (∀ pre g post, q = pre ++ g :: post → 8 ≤ q.length → heard g → (∀ x ∈ pre, ¬heard x) → entered (pre ++ post)) ∧
        (∀ pre g post, q = pre ++ g :: post → 8 ≤ q.length → pulse g → (∀ x ∈ pre, ¬pulse x) → (∀ x ∈ q, ¬heard x) →
          entered (pre ++ post)) ∧
        (8 ≤ q.length → (∀ x ∈ q, ¬heard x ∧ ¬pulse x) → (enqueue q f).1 = q)) ∧
      (∀ pre g post, q = pre ++ g :: post → q.length ≤ 8 → pulse f → pulse g → (∀ x ∈ pre ++ post, ¬pulse x) →
        (enqueue q f).1 = pre ++ post ++ [f]) ∧
      (f.body = .halt → (∃ g ∈ q, g.body = .halt) → (enqueue q f).1 = q)) ∧
  ∀ (bit : Nat) (level sent : Bool) (f : LineFrame) (s : State),
    s.line.onLine = some f → s.sentBits[bit]? = some sent → level ≠ sent → (13 ≤ bit → f.age.isSome = true) →
      let line : LineInterface :=
        { s.line with
          onLine := none, low := decide (bit = 12 ∧ f.age = none)
          framing := if bit = 12 ∧ f.age = none then Framing.waitQuiet else s.line.framing }
      let again : QueuedFrame := { f.frame with clashes := f.frame.clashes + 1 }
      let pulse (g : QueuedFrame) : Prop := ∃ p, g.body = .pulse p
      let heard (g : QueuedFrame) : Prop := ∃ event sequence strength, g.body = .heard event sequence strength
      let back (q : List QueuedFrame) : Prop :=
        exec (.frameClash bit level) s =
          .next
            { s with
              line :=
                { line with
                  queue :=
                    match q with
                    | [] => [again]
                    | g :: rest => if g.body = .halt then g :: again :: rest else again :: g :: rest } }
      let twin (g : QueuedFrame) : Prop := pulse f.frame ∧ pulse g ∨ f.frame.body = .halt ∧ g.body = .halt
      let silencing := if f.frame.isFault && s.fault.silencing == some f.frame.tag then none else s.fault.silencing
      (f.frame.clashes < 7 →
        ((∀ g ∈ s.line.queue, ¬twin g) → s.line.queue.length < 8 → back s.line.queue) ∧
          (∀ pre g post, s.line.queue = pre ++ g :: post → (∀ x ∈ s.line.queue, ¬twin x) → 8 ≤ s.line.queue.length → heard g →
            (∀ x ∈ pre, ¬heard x) → back (pre ++ post)) ∧
          (∀ pre g post, s.line.queue = pre ++ g :: post → (∀ x ∈ s.line.queue, ¬twin x) → 8 ≤ s.line.queue.length → pulse g →
            (∀ x ∈ pre, ¬pulse x) → (∀ x ∈ s.line.queue, ¬heard x) → back (pre ++ post)) ∧
          ((∀ x ∈ s.line.queue, ¬twin x ∧ ¬heard x ∧ ¬pulse x) → 8 ≤ s.line.queue.length →
            exec (.frameClash bit level) s = .next { s with line := line, fault.silencing := silencing }) ∧
          ((∃ g ∈ s.line.queue, twin g) → exec (.frameClash bit level) s = .next { s with line := line })) ∧
      (7 ≤ f.frame.clashes → s.isHalted = false → s.running = true → s.cfg.reactions[(0 : FaultNo)] = .report → s.latched 0 = false →
        exec (.frameClash bit level) s =
          .next
            { s with
              line :=
                { line with queue := (enqueue s.line.queue ⟨.fault 0 .report none 0, s.now, 0, s.fault.nextTag⟩).1 }
              fault :=
                { s.fault with
                  latches := s.fault.latches ||| 1#8, nextTag := s.fault.nextTag + 1, silencing := silencing } })

/-- FRAME_COMPLETE (R8, R17, R20): the own frame leaves the line; a HEARD, PULSE or HALT does nothing more, a FAULT frame that silencing in
progress names ends it (R188), and a CUE is taken by the own play controller. The line has then been high since the frame's last low bit
(R12; FramesNotDelivered says what that count is). -/
def Obligations.OwnFrameCompletes : Prop :=
  ∀ (f : QueuedFrame) (age : BitVec 16) (s : State), s.line.onLine = some ⟨f, some age⟩ →
    let line : LineInterface :=
      { s.line with
        onLine := none, framing := .waitSync, high := highTail (encodeFrame ⟨s.startup.strap, f.body, age.toNat⟩) }
    ((f.isHeard || f.isPulse || f.isHalt) = true → exec .frameComplete s = .next { s with line := line }) ∧
      (f.isFault = true → s.fault.silencing = some f.tag →
        exec .frameComplete s = .next { s with line := line, fault.silencing := none }) ∧
      (f.isFault = true → s.fault.silencing ≠ some f.tag → exec .frameComplete s = .next { s with line := line }) ∧
      ∀ c n, f.body = .cue c n → exec .frameComplete s = .next (takeCue c n { s with line := line })

/-- INVALID_FRAME (R18): a frame that is not well-formed leaves the receive framing waiting for quiet, a well-formed one that is not valid waiting
for a sync mark, and nothing else changes. A bad byte is a high start bit alone, or ten bits with a low stop bit. DUPLICATE (R20): DUPLICATE is
latched and reported with the own number, and nothing is delivered. In HALTED a received frame only ends its framing (R19). At the end of a frame
on the line, and where the framing breaks off, the run of high bit times is the one that the bits read end with (R3, R12, log 13). -/
def Obligations.FramesNotDelivered : Prop :=
  ∀ (bytes : List Byte) (broken : List Bool) (s : State), s.running = true → s.line.onLine = none → s.line.framing = .receiving →
    let ended : LineInterface := { s.line with framing := .waitSync, high := highTail bytes }
    let bits := frameBits bytes ++ broken
    let discarded : LineInterface :=
      { s.line with framing := .waitQuiet, high := highRun bits, low := bits.getLast? == some false }
    (∃ before, bits = before ++ List.replicate (highRun bits) true ∧ before.getLast? = some false) ∧
      (bytes ≠ [] → highTail bytes = highRun (frameBits bytes)) ∧
      ((broken = [] ∧ judgeFrame bytes = .malformed ∨ broken = [true] ∨
          ∃ data : List Bool, data.length = 8 ∧ broken = false :: data ++ [false]) →
        exec (.invalidFrame bytes broken) s = .next { s with line := discarded }) ∧
      (broken = [] → judgeFrame bytes = .invalid → exec (.invalidFrame bytes broken) s = .next { s with line := ended }) ∧
      ∀ w, judgeFrame bytes = .valid w →
        (w.sender = s.startup.strap → s.isHalted = false → s.cfg.reactions[(1 : FaultNo)] = .report → s.latched 1 = false →
          exec (.duplicate bytes) s =
            .next
              { s with
                line :=
                  { ended with
                    queue :=
                      (enqueue s.line.queue ⟨.fault 1 .report (some s.startup.strap) 0, s.now, 0, s.fault.nextTag⟩).1 }
                fault := { s.fault with latches := s.fault.latches ||| 2#8, nextTag := s.fault.nextTag + 1 } }) ∧
        (w.sender = s.startup.strap → s.isHalted = true → exec (.duplicate bytes) s = .next { s with line := ended }) ∧
        (w.sender ≠ s.startup.strap → s.isHalted = true →
          (∀ e q x, w.body = .heard e q x → exec (.heardReceived bytes) s = .next { s with line := ended }) ∧
          (∀ p, w.body = .pulse p → exec (.pulseReceived bytes) s = .next { s with line := ended }) ∧
          (w.body = .halt → exec (.haltReceived bytes) s = .next { s with line := ended }) ∧
          (∀ ch r c q, w.body = .fault ch r c q → exec (.faultReceived bytes) s = .next { s with line := ended }) ∧
          ∀ n, (w.body = .cue .select n → exec (.select bytes) s = .next { s with line := ended }) ∧
            (w.body = .cue .start n → exec (.start bytes) s = .next { s with line := ended }) ∧
            (w.body = .cue .stop n → exec (.stop bytes) s = .next { s with line := ended }))

/-- HEARD_RECEIVED (R14, R19, R83, R84, R86): the sender's entry updated, and in play the observation placed in the own clock at the queue's
tail, the head discarded with OVERRUN from a full queue; over the age limit STALE is taken instead; out of play nothing is queued. An unmasked
OVERRUN or STALE records its culprit, the head discarded or the sender, and latches and reports FOLLOW under that culprit (R119, R120, R123,
R185). -/
def Obligations.HeardFrameTaken : Prop :=
  ∀ (bytes : List Byte) (w : WireFrame) (event : ObsKind) (sequence : BitVec 8) (strength : Nat) (s : State),
    s.running = true → s.line.onLine = none → s.line.framing = .receiving → s.isHalted = false → judgeFrame bytes = .valid w →
    w.sender ≠ s.startup.strap → w.body = .heard event sequence strength →
      let ended : LineInterface := { s.line with framing := .waitSync, high := highTail bytes }
      let old := s.gather.peers[w.sender]
      let weight := if old.present then old.weight else min s.cfg.peerDefault s.cfg.weightMax
      let peers := s.gather.peers.set w.sender ⟨true, s.line.markLatch, weight, old.claim⟩
      let o : Observation := ⟨.peer w.sender, event, s.line.markLatch - BitVec.ofNat 32 w.age, sequence, weight⟩
      (s.inPlay = true → w.age ≤ 800 → s.gather.queue.length < 32 →
        exec (.heardReceived bytes) s =
          .next { s with line := ended, gather := { s.gather with peers := peers, queue := s.gather.queue ++ [o] } }) ∧
      (s.inPlay = true → w.age ≤ 800 → s.gather.queue.length = 32 → s.masked .overrun = true →
        exec (.heardReceived bytes) s =
          .next
            { s with
              line := ended
              gather := { s.gather with peers := peers, queue := s.gather.queue.tail ++ [o] }
              follow :=
                { s.follow with sticky := s.follow.sticky ||| 0x10#7, overrunPending := true, resyncPending := true } }) ∧
      (s.inPlay = true → 800 < w.age → s.masked .stale = true →
        exec (.heardReceived bytes) s =
          .next
            { s with
              line := ended, gather.peers := peers
              follow := { s.follow with sticky := s.follow.sticky ||| 0x08#7 } }) ∧
      (s.inPlay = false → exec (.heardReceived bytes) s = .next { s with line := ended, gather.peers := peers }) ∧
      (s.inPlay = true → s.cfg.reactions[(2 : FaultNo)] = .report →
        let named (p : Station) (n : BitVec 8) (queue : List Observation) (follow : Follower) : Host.Outcome State Fault Refusal :=
          .next
            { s with
              line :=
                { ended with
                  queue :=
                    if s.latched 2 then s.line.queue
                    else (enqueue s.line.queue ⟨.fault 2 .report (some p) n, s.now, 0, s.fault.nextTag⟩).1 }
              gather := { s.gather with peers := peers, queue := queue }
              follow := { follow with culprit := some (p, n) }
              fault :=
                { s.fault with
                  latches := s.fault.latches ||| 4#8
                  nextTag := if s.latched 2 then s.fault.nextTag else s.fault.nextTag + 1 } }
        (800 < w.age → s.masked .stale = false →
          exec (.heardReceived bytes) s =
            named w.sender sequence s.gather.queue { s.follow with sticky := s.follow.sticky ||| 0x08#7 }) ∧
          ∀ head others, w.age ≤ 800 → s.gather.queue = head :: others → others.length = 31 → s.masked .overrun = false →
            exec (.heardReceived bytes) s =
              named (match head.source with | .own => s.startup.strap | .peer p => p) head.sequence (others ++ [o])
                { s.follow with sticky := s.follow.sticky ||| 0x10#7, overrunPending := true, resyncPending := true })

/-- PULSE_RECEIVED (R14, R19, R87): the sender's entry updated and its claim replaced, but over the age limit the claim it held is kept. The claims
of two peers for one hymn form a join request (R75): in IDLE its load begins; in LOADED with that hymn the join starts (R76), from the claim
of the higher confidence, of equals the lower station's, with a seek to two beats after it, or is given up near the hymn's end. With nothing
to read the seek is done at once, and otherwise when the readers have read their blocks: LEADING in the section of the target, on the join
anchor, the next beat the target. -/
def Obligations.PulseClaimStored : Prop :=
  (∀ (bytes : List Byte) (w : WireFrame) (fields : PulseFields) (s : State),
    s.running = true → s.line.onLine = none → s.line.framing = .receiving → s.isHalted = false → judgeFrame bytes = .valid w →
    w.sender ≠ s.startup.strap → w.body = .pulse fields →
      let ended : LineInterface := { s.line with framing := .waitSync, high := highTail bytes }
      let old := s.gather.peers[w.sender]
      let weight := if old.present then old.weight else min s.cfg.peerDefault s.cfg.weightMax
      let claim : Claim := ⟨fields, s.line.markLatch - BitVec.ofNat 32 w.age, s.line.markLatch⟩
      let peers := s.gather.peers.set w.sender ⟨true, s.line.markLatch, weight, some claim⟩
      (2000 < w.age →
        exec (.pulseReceived bytes) s =
          .next { s with line := ended, gather.peers := s.gather.peers.set w.sender ⟨true, s.line.markLatch, weight, old.claim⟩ }) ∧
      (w.age ≤ 2000 → (s.play.state ≠ .idle ∧ s.play.state ≠ .loaded ∨ s.play.join.isSome = true) →
        exec (.pulseReceived bytes) s = .next { s with line := ended, gather.peers := peers }) ∧
      ∀ (q : Station) (other : Claim), q ≠ w.sender → (s.gather.peers[q]).present = true → (s.gather.peers[q]).claim = some other →
        (∀ r : Station, r ≠ q → r ≠ w.sender → (s.gather.peers[r]).claim = none) → w.age ≤ 2000 →
        s.play.join = none → s.play.barred ≠ some fields.hymn → 1 ≤ fields.hymn → fields.hymn ≤ 1023 → other.fields.hymn = fields.hymn →
        4 ≤ fields.confidence → 4 ≤ other.fields.confidence → since s.now s.line.markLatch ≤ 2 * fields.period →
        since s.now other.heard ≤ 2 * other.fields.period →
        (s.play.state = .idle → s.loadedNumber = none →
          ∃ t, exec (.pulseReceived bytes) s = .next t ∧
            t.play = { s.play with state := .loading, join := some ⟨fields.hymn, none⟩, joinLoad := some fields.hymn } ∧
            t.store.loader = .count fields.hymn ∧ t.store.hymn = none ∧ t.gather.peers = peers ∧ t.follow = s.follow ∧
            t.line.queue = s.line.queue) ∧
          ∀ h : Header, s.play.state = .loaded → s.loadedNumber = some fields.hymn → s.header = some h →
            let chosen :=
              if fields.confidence < other.fields.confidence ∨
                  other.fields.confidence = fields.confidence ∧ q < w.sender then other else claim
            let target := chosen.fields.beat + 2
            let anchor : JoinAnchor :=
              ⟨chosen.fields.beat, chosen.beatTime, (clampInt h.minPeriod h.maxPeriod chosen.fields.period).toNat, target⟩
            let last := h.verseStart h.verses + h.length - 2
            (last ≤ target → exec (.pulseReceived bytes) s = .next { s with line := ended, gather.peers := peers }) ∧
              (target < last → 0 < h.marks.count →
                ∃ t, exec (.pulseReceived bytes) s = .next t ∧ t.play = { s.play with join := some ⟨fields.hymn, some anchor⟩ } ∧
                  t.store.seek = some target ∧ t.store.queue = [] ∧ t.store.hymn = s.store.hymn ∧ t.store.marks.phase = .running ∧
                  t.store.marks.discardBelow = 24 * target ∧ t.store.notes.start = 24 * target ∧
                  t.store.notes.planned = s.out.stopImage ∧ t.sched = Scheduler.initial ∧ t.gather.peers = peers ∧ t.line = ended ∧
                  t.follow = s.follow ∧ t.fault = s.fault) ∧
              (target < last → h.marks.count = 0 → s.readDivision = none →
                ∃ t, exec (.pulseReceived bytes) s = .next t ∧
                  t.play =
                    { s.play with
                      state := .leading, sect := some (h.sectionOf target), run := 0, leadLock := false, pendingStart := none
                      join := none, returnState := none } ∧
                  t.ruling = some ⟨24 * anchor.beat, anchor.time, anchor.period⟩ ∧ t.follow.nextBeat = some target ∧
                  t.follow.sticky = 0 ∧ t.follow.culprit = none ∧ t.fault.latches = 0 ∧ t.gather.playStart = s.now ∧
                  t.store.seek = none ∧ t.store.hymn = s.store.hymn ∧ t.passBegun ∧ t.line = ended)) ∧
    ∀ (bytes : List Byte) (r : FlashRead) (h : Header) (n target : Nat) (j : JoinAnchor) (s : State),
      s.store.port = .only r → r.unit = .markBlock → r.length = bytes.length → s.play.state = .loaded →
      s.play.join = some ⟨n, some j⟩ → s.store.seek = some target → s.store.loader = .idle → s.readDivision = none → s.header = some h →
      s.store.marks.phase = .running → s.store.marks.sect = h.verses → 1 ≤ h.verses →
      s.store.marks.buffer = [] → s.store.marks.ended = false → h.marks.count ≤ 16 * (s.store.marks.block + 1) → checked bytes = true →
      (∀ x ∈ (blockWords 4 bytes).map parseMark, 24 * (h.verseStart h.verses + x.beat) + x.sub < s.store.marks.discardBelow) →
      (∀ x ∈ (blockWords 4 bytes).map parseMark, x.passes h.length) →
      (∀ p, s.store.marks.lastValid = some p → ∀ x ∈ (blockWords 4 bytes).map parseMark, p < 24 * x.beat + x.sub) →
      ((blockWords 4 bytes).map parseMark).Pairwise (fun x y => 24 * x.beat + x.sub < 24 * y.beat + y.sub) →
      (blockWords 4 bytes).length ≤ 16 → s.store.queue = [] →
      ∃ t, exec (.markBlockRead bytes) s = .next t ∧
        t.play =
          { s.play with
            state := .leading, sect := some (h.sectionOf j.target), run := 0, leadLock := false, pendingStart := none, join := none
            returnState := none } ∧
        t.ruling = some ⟨24 * j.beat, j.time, j.period⟩ ∧ t.follow.nextBeat = some j.target ∧ t.follow.top = 0 ∧
        t.follow.confidence = 0 ∧ t.follow.misses = 0 ∧ t.follow.sticky = 0 ∧ t.follow.culprit = none ∧ t.fault.latches = 0 ∧
        t.gather.playStart = s.now ∧ t.store.seek = none ∧ t.store.hymn = s.store.hymn ∧ t.passBegun ∧ t.line = s.line ∧
        t.out = s.out

/-- FAULT_RECEIVED makes the peer update alone (R19); PEER_ABSENCE_EXPIRY takes away presence and claim and keeps the weight (R88);
HALT_RECEIVED silences the station, the fault latches, the transmit queue, the sticky flags and the swell kept (R79). -/
def Obligations.PeerEntriesAndHalt : Prop :=
  ∀ s : State,
    (∀ p : Station, (s.gather.peers[p]).present = true → p ≠ s.startup.strap → 50000 ≤ since s.now (s.gather.peers[p]).lastHeard →
      exec (.peerAbsenceExpiry p) s =
        .next { s with gather.peers := s.gather.peers.set p { s.gather.peers[p] with present := false, claim := none } }) ∧
    ∀ (bytes : List Byte) (w : WireFrame),
      s.running = true → s.line.onLine = none → s.line.framing = .receiving → s.isHalted = false → judgeFrame bytes = .valid w →
      w.sender ≠ s.startup.strap →
        let ended : LineInterface := { s.line with framing := .waitSync, high := highTail bytes }
        let old := s.gather.peers[w.sender]
        let weight := if old.present then old.weight else min s.cfg.peerDefault s.cfg.weightMax
        let peers := s.gather.peers.set w.sender ⟨true, s.line.markLatch, weight, old.claim⟩
        (∀ ch r c q, w.body = .fault ch r c q →
          exec (.faultReceived bytes) s = .next { s with line := ended, gather.peers := peers }) ∧
        (w.body = .halt → s.play.state ≠ .starting →
          ∃ t, exec (.haltReceived bytes) s = .next t ∧ t.play.state = .silenced ∧ t.mutedEmpty = true ∧ t.play.pendingStart = none ∧
            t.play.join = none ∧ t.play.leadLock = false ∧ t.play.run = 0 ∧ t.gather = { emptyGather s.gather with peers := peers } ∧
            t.follow = { Follower.initial with sticky := s.follow.sticky, culprit := s.follow.culprit } ∧ t.sched = Scheduler.initial ∧
            t.out =
              { s.out with
                counts := Vector.replicate 64 0, onCoils := Vector.replicate 16 none, offCoils := Vector.replicate 16 none } ∧
            t.store.queue = [] ∧ t.store.hymn = (if s.store.loader = .idle then s.store.hymn else none) ∧ t.fault = s.fault ∧
            t.line = ended ∧ t.front = s.front ∧ t.cue = s.cue ∧ t.clock = s.clock ∧
            t.startup = s.startup) ∧
        (w.body = .halt → s.play.state = .starting →
          exec (.haltReceived bytes) s = .next { s with line := ended, gather.peers := peers })

/-! ## The sound front end (chapter 2) -/

/-- Without LISTEN (R22): samples are not read, the detector stays QUIET with an empty history, no own observation is made and no HEARD frame
queued, no level is present, and the loss watch does not run. -/
def Obligations.WithoutListenNothingHeard : Prop :=
  ∀ s : State, s.cfg.listen = false →
    s.ownLevel = none ∧ exec .soundInputLost s = .next s ∧ (∀ edges ago, exec (.sampleTaken edges ago) s = .next s) ∧
      ∀ (c : Instr) (t : State), exec c s = .next t →
        (s.front.detector = .quiet → s.front.history = [] → t.front.detector = .quiet ∧ t.front.history = []) ∧
          t.line.heardFrames ≤ s.line.heardFrames ∧ ∀ o ∈ t.gather.queue, o.source = .own → o ∈ s.gather.queue

/-- SAMPLE_TAKEN (R23 to R25, R31, R35): the sixteen bits after a word sync edge are a sample, the first its most significant bit, stamped with the
counter as it stood at that edge; bits outside a sample are ignored, and a sample cut short by the next word sync edge is discarded. A sample
adds its magnitude to the block being formed; the 64th completes the block, whose envelope enters the history of four and the window of
thirty-two; a block below the floor makes no candidate and changes nothing else. The level of the choir is the window's mean over 32, at most
255, present only with a full window. While the front end is not active, in HALTED among the rest, no sample is taken, nor one whose
word sync edge came before the pins were read (R36; the count of ticks by which the model knows it is log 46). -/
def Obligations.SamplesFormBlocks : Prop :=
  (∀ (edges : List SoundEdge) (ago : Nat) (s : State), (s.listening = false ∨ s.front.portTicks < ago) →
    exec (.sampleTaken edges ago) s = .next s) ∧
  ∀ (outside : List Bool) (cut : List (List Bool)) (ago : Nat) (bits : List Bool) (s : State), s.listening = true →
    (∀ short ∈ cut, short.length < 16) → bits.length = 16 → ago ≤ s.front.portTicks →
    let edges := portEdges outside cut bits
    let stamp := s.now - BitVec.ofNat 32 ago
    let magnitude := portMagnitude bits
    let start := if s.front.block.count = 0 then stamp else s.front.block.start
    let envelope := (s.front.block.sum + magnitude) / 64
    let history := (s.front.history ++ [envelope]).drop (s.front.history.length + 1 - 4)
    let window := (s.front.window ++ [envelope]).drop (s.front.window.length + 1 - 32)
    (s.ownLevel = if s.front.window.length = 32 then some (min 255 (s.front.window.sum / 32 / 32)) else none) ∧
      (s.front.block.count < 63 →
        exec (.sampleTaken edges ago) s =
          .next
            { s with
              front :=
                { s.front with
                  block := ⟨s.front.block.count + 1, s.front.block.sum + magnitude, start⟩, lastSample := s.now
                  lossReported := false, portTicks := 0 } }) ∧
      (s.front.block.count = 63 →
        ∃ t, exec (.sampleTaken edges ago) s = .next t ∧ t.front.block = ⟨0, 0, 0⟩ ∧ t.front.history = history ∧
          t.front.window = window ∧ t.front.lastSample = s.now ∧ t.front.lossReported = false ∧ t.front.portTicks = 0) ∧
      (s.front.block.count = 63 → s.startup.soundCheck = false → s.front.detector = .quiet → s.front.candidate = none →
        envelope < s.cfg.onsetFloor →
        exec (.sampleTaken edges ago) s =
          .next
            { s with
              front :=
                { s.front with
                  block := ⟨0, 0, 0⟩, history := history, window := window, lastSample := s.now, lossReported := false
                  portTicks := 0 } })

/-- The blocks that the detector judges (R26 to R30, R32). In QUIET a block with a baseline, at the floor and the ratio and past the refractory expiry
begins a candidate, which is confirmed at once at a persistence of 1; any other leaves none. A standing candidate is judged against its own baseline:
a pass counts on and confirms it at the persistence; a failure abandons it, and the same block is tested afresh. An onset confirmed in play takes
the event time of its first block, its strength and the sequence number, enters the gather queue and is offered as a HEARD frame; the same
out of play makes no observation. In SOUNDING a block raises the peak, and begins, counts on, confirms or abandons a release candidate. Of the
two ways R32 hands an observation on, the gather unit first is the model's choice (log 39). -/
def Obligations.ObservationsMade : Prop :=
  ∀ (ago : Nat) (bits : List Bool) (s : State), s.listening = true → s.front.block.count = 63 → s.startup.soundCheck = false →
    bits.length = 16 → ago ≤ s.front.portTicks →
    let edges := portEdges [] [] bits
    let start := s.front.block.start
    let envelope := (s.front.block.sum + portMagnitude bits) / 64
    let early (t : Time) : Time := t + BitVec.ofInt 32 (-s.cfg.pickupDelay)
    let front : FrontEnd :=
      { s.front with
        block := ⟨0, 0, 0⟩, history := (s.front.history ++ [envelope]).drop (s.front.history.length + 1 - 4)
        window := (s.front.window ++ [envelope]).drop (s.front.window.length + 1 - 32), lastSample := s.now, lossReported := false
        portTicks := 0 }
    let observed (f : FrontEnd) (kind : ObsKind) (time : Time) (strength : Nat) : Host.Outcome State Fault Refusal :=
      .next
        { s with
          front := { f with sequence := s.front.sequence + 1 }
          gather.queue := s.gather.queue ++ [⟨.own, kind, time, s.front.sequence, s.cfg.selfWeight⟩]
          line.queue := (enqueue s.line.queue ⟨.heard kind s.front.sequence strength, time, 0, 0⟩).1 }
    let base := s.front.history.sum / 4
    let loud (base : Nat) : Prop := s.cfg.onsetFloor ≤ envelope ∧ s.cfg.onsetRatio * base ≤ 16 * envelope
    let fresh : Prop :=
      s.front.candidate = none ∨ ∃ begun first base count largest, s.front.candidate = some (.onset begun first base count largest) ∧ ¬loud base
    let begins : Prop :=
      s.front.history.length = 4 ∧ loud base ∧ ∀ expiry, s.front.refractory = some expiry → 0 ≤ since (early start) expiry
    let onset (begun : Time) (first peak : Nat) : Prop :=
      let f : FrontEnd :=
        { front with
          detector := .sounding, candidate := none, peak := peak, refractory := some (early begun + BitVec.ofNat 32 s.cfg.refractory) }
      (s.inPlay = true → s.gather.queue.length < 32 →
        exec (.sampleTaken edges ago) s = observed f .onset (early begun) (min 255 (first / 128))) ∧
        (s.inPlay = false → exec (.sampleTaken edges ago) s = .next { s with front := f })
    let peak := max s.front.peak envelope
    let release (begun : Time) (recorded : Nat) : Prop :=
      let f : FrontEnd := { front with detector := .quiet, candidate := none, peak := peak }
      (s.inPlay = true → s.gather.queue.length < 32 →
        exec (.sampleTaken edges ago) s = observed f .release (early begun) (min 255 (recorded / 128))) ∧
        (s.inPlay = false → exec (.sampleTaken edges ago) s = .next { s with front := f })
    (s.front.detector = .quiet → fresh →
      (begins → 2 ≤ s.cfg.persistence →
        exec (.sampleTaken edges ago) s = .next { s with front := { front with candidate := some (.onset start envelope base 1 envelope) } }) ∧
        (begins → s.cfg.persistence ≤ 1 → onset start envelope envelope) ∧
        (¬begins → exec (.sampleTaken edges ago) s = .next { s with front := { front with candidate := none } })) ∧
      (∀ begun first base count largest, s.front.detector = .quiet →
        s.front.candidate = some (.onset begun first base count largest) → loud base →
        (count + 1 < s.cfg.persistence →
          exec (.sampleTaken edges ago) s =
            .next { s with front := { front with candidate := some (.onset begun first base (count + 1) (max largest envelope)) } }) ∧
          (s.cfg.persistence ≤ count + 1 → onset begun first (max largest envelope))) ∧
      (s.front.detector = .sounding → s.front.candidate = none →
        (s.cfg.releaseRatio * envelope ≤ peak → 2 ≤ s.cfg.persistence →
          exec (.sampleTaken edges ago) s =
            .next { s with front := { front with peak := peak, candidate := some (.release start peak 1) } }) ∧
          (s.cfg.releaseRatio * envelope ≤ peak → s.cfg.persistence ≤ 1 → release start peak) ∧
          (peak < s.cfg.releaseRatio * envelope → exec (.sampleTaken edges ago) s = .next { s with front := { front with peak := peak } })) ∧
      ∀ begun recorded count, s.front.detector = .sounding → s.front.candidate = some (.release begun recorded count) →
        (s.cfg.releaseRatio * envelope ≤ recorded → count + 1 < s.cfg.persistence →
          exec (.sampleTaken edges ago) s =
            .next { s with front := { front with peak := peak, candidate := some (.release begun recorded (count + 1)) } }) ∧
          (s.cfg.releaseRatio * envelope ≤ recorded → s.cfg.persistence ≤ count + 1 → release begun recorded) ∧
          (recorded < s.cfg.releaseRatio * envelope →
            exec (.sampleTaken edges ago) s = .next { s with front := { front with peak := peak, candidate := none } })

/-- SOUND_INPUT_LOST (R34): after 500 ticks without a sample, and not before, the block, the history, the window and the candidate are emptied, the
detector is QUIET and the level absent; peak, refractory expiry and sequence number are kept, and the watch counts again from now. SOUND is
raised, as FaultsRaised says, for the first loss only. Edges that complete no sample are no sample taken. While the front end is not active
there is no watch. -/
def Obligations.SoundInputLost : Prop :=
  ∀ s : State,
    let front : FrontEnd :=
      { s.front with
        block := ⟨0, 0, 0⟩, history := [], window := [], detector := .quiet, candidate := none, lastSample := s.now
        lossReported := true }
    (s.listening = true → 500 ≤ since s.now s.front.lastSample →
      (s.front.lossReported = true →
        exec .soundInputLost s = .next { s with front := front } ∧ ({ s with front := front } : State).ownLevel = none) ∧
      (s.front.lossReported = false → exec .soundInputLost s = .next (raiseFault 6 { s with front := front })) ∧
      (s.front.lossReported = false → s.cfg.reactions[(6 : FaultNo)] = .report → s.latched 6 = false →
        exec .soundInputLost s =
          .next
            { s with
              front := front
              line.queue := (enqueue s.line.queue ⟨.fault 6 .report none 0, s.now, 0, s.fault.nextTag⟩).1
              fault := { s.fault with latches := s.fault.latches ||| 64#8, nextTag := s.fault.nextTag + 1 } }) ∧
      (s.front.lossReported = false → s.cfg.reactions[(6 : FaultNo)] = .report → s.latched 6 = true →
        exec .soundInputLost s = .next { s with front := front })) ∧
      ((s.listening = false ∨ since s.now s.front.lastSample < 500) → exec .soundInputLost s = .next s) ∧
      ∀ (edges : List SoundEdge) (ago : Nat),
        edges.countP (fun e => match e with | .bit _ => true | .wordSync => false) < 16 →
          exec (.sampleTaken edges ago) s = .next s

/-! ## Playing a hymn (chapter 4) -/

/-- The cue port's offers (R62 to R64). HYMN_NUMBER_STABLE offers SELECT for a number that has stood for 2500 ticks, is not 0 and was not
the last sent. BUTTON_PRESS_EDGE offers the button's cue, or begins a both-held period and offers nothing; that the other button is judged
by its level as it stands, so that of two edges made at one sample neither offers a cue, is the model's choice (log 52). BOTH_HELD_RESTART
offers one RESTART at 20,000 ticks, which a HALTED station takes at once without a frame. -/
def Obligations.CuePortOffers : Prop :=
  ∀ s : State, s.configured = true →
    let n := (s.cue.levels.extractLsb' 0 10).toNat
    let offered (c : Cue) : List QueuedFrame := (enqueue s.line.queue ⟨.cue c n, 0, 0, 0⟩).1
    (s.isHalted = false → s.cue.settled = true → n ≠ 0 → n ≠ s.cue.lastSent → 2500 ≤ since s.now s.cue.changedAt →
      exec .hymnNumberStable s = .next { s with line.queue := offered .select, cue.lastSent := n }) ∧
      ((n = 0 ∨ n = s.cue.lastSent) → exec .hymnNumberStable s = .next s) ∧
      (s.isHalted = false → s.cue.startEdge = true → s.cue.levels.getLsbD 11 = false →
        exec (.buttonPressEdge .start) s = .next { s with line.queue := offered .start, cue.startEdge := false }) ∧
      (s.isHalted = false → s.cue.stopEdge = true → s.cue.levels.getLsbD 10 = false →
        exec (.buttonPressEdge .stop) s = .next { s with line.queue := offered .stop, cue.stopEdge := false }) ∧
      (s.isHalted = true → s.cue.startEdge = true → s.cue.levels.getLsbD 11 = false →
        exec (.buttonPressEdge .start) s = .next { s with cue.startEdge := false }) ∧
      (s.cue.startEdge = true → s.cue.levels.getLsbD 11 = true → s.cue.bothHeld = none →
        exec (.buttonPressEdge .start) s =
          .next { s with cue := { s.cue with startEdge := false, bothHeld := some s.now, bothSent := false } }) ∧
      (s.cue.stopEdge = true → s.cue.levels.getLsbD 10 = true → s.cue.bothHeld = none →
        exec (.buttonPressEdge .stop) s =
          .next { s with cue := { s.cue with stopEdge := false, bothHeld := some s.now, bothSent := false } }) ∧
      ∀ t, s.cue.bothHeld = some t → 20000 ≤ since s.now t →
        (s.isHalted = false → s.cue.bothSent = false →
          exec .bothHeldRestart s = .next { s with line.queue := offered .restart, cue.bothSent := true }) ∧
        (s.cue.bothSent = true → exec .bothHeldRestart s = .next s) ∧
        (s.isHalted = true → s.cue.bothSent = false →
          ∃ u, exec .bothHeldRestart s = .next u ∧ u.play.state = .idle ∧ u.line.transmitter = .joining ∧ u.line.joinTime = some 0 ∧
            u.fault.latches = 0 ∧ u.cue.bothSent = true)

/-- DEBOUNCED_LEVEL_CHANGE, one sample of the twelve lines (R61, R63): a line's level changes at the third consecutive sample that differs
from it, and not before; a button's press edge is a change to pressed; the time of the last change of the hymn number follows. The first
three samples, when they agree, set the levels without an edge. That one command is one sample of all twelve lines, the first at any time
after the configuration read, and that a press edge stands in a flag until BUTTON_PRESS_EDGE takes it, is the model's choice (log 12), as is
that two buttons pressed at one sample both have their levels set before either edge is taken (log 52). -/
def Obligations.CueSampleDebounces : Prop :=
  ∀ (lines : BitVec 12) (s : State), s.configured = true → (∀ t, s.cue.sampledAt = some t → 10 ≤ since s.now t) →
    (s.cue.settled = true →
      ∃ d : CuePort, exec (.debouncedLevelChange lines) s = .next { s with cue := d } ∧ d.sampledAt = some s.now ∧
        d.lastSent = s.cue.lastSent ∧ d.settled = true ∧
        (∀ i : Fin 12, lines.getLsbD i = s.cue.levels.getLsbD i → d.runs[i] = 0 ∧ d.levels.getLsbD i = s.cue.levels.getLsbD i) ∧
        (∀ i : Fin 12, lines.getLsbD i ≠ s.cue.levels.getLsbD i → s.cue.runs[i] < 2 →
          d.runs[i] = s.cue.runs[i] + 1 ∧ d.levels.getLsbD i = s.cue.levels.getLsbD i) ∧
        (∀ i : Fin 12, lines.getLsbD i ≠ s.cue.levels.getLsbD i → 2 ≤ s.cue.runs[i] →
          d.runs[i] = 0 ∧ d.levels.getLsbD i = lines.getLsbD i) ∧
        d.changedAt = (if d.levels.extractLsb' 0 10 = s.cue.levels.extractLsb' 0 10 then s.cue.changedAt else s.now) ∧
        d.startEdge = (s.cue.startEdge || (d.levels.getLsbD 10 && !s.cue.levels.getLsbD 10)) ∧
        d.stopEdge = (s.cue.stopEdge || (d.levels.getLsbD 11 && !s.cue.levels.getLsbD 11)) ∧
        d.bothHeld = (if d.levels.getLsbD 10 && d.levels.getLsbD 11 then s.cue.bothHeld else none)) ∧
      (s.cue.settled = false → s.cue.early.length < 2 →
        exec (.debouncedLevelChange lines) s =
          .next { s with cue := { s.cue with early := s.cue.early ++ [lines], sampledAt := some s.now } }) ∧
      (s.cue.settled = false → s.cue.early = [lines, lines] →
        exec (.debouncedLevelChange lines) s =
          .next
            { s with
              clock.opened := s.clock.opened + 1
              cue :=
                { s.cue with levels := lines, early := [], settled := true, sampledAt := some s.now, changedAt := s.now } })

/-- SELECT taken from a peer (R65, R66): in IDLE, LOADING and LOADED the pending START, the join and the barred hymn are cleared, the hymn held
is given up and the load of the new one begun with a read of the directory's count; refused in play, in SILENCED and before full start
ends. -/
def Obligations.SelectBeginsLoad : Prop :=
  ∀ (bytes : List Byte) (p : Station) (n : Nat) (s : State), s.hearsCue bytes p .select n →
    ((s.play.state = .idle ∨ s.play.state = .loading ∨ s.play.state = .loaded) →
      ∃ t, exec (.select bytes) s = .next t ∧
        t.play = { s.play with state := .loading, pendingStart := none, join := none, joinLoad := none, barred := none } ∧
        t.store.loader = .count n ∧ t.store.hymn = none ∧ t.store.queue = [] ∧ t.store.seek = none ∧ t.store.marks.phase = .idle ∧
        t.store.notes.phase = .idle ∧ t.loadedNumber = none ∧ t.sched = Scheduler.initial ∧
        (s.store.port.serving = none → s.store.port.granting = true → t.store.port.serving = some ⟨.directoryCount, 2048, 2⟩) ∧
        t.line = (s.afterFrameFrom bytes p).line ∧ t.gather = (s.afterFrameFrom bytes p).gather ∧
        t.follow = s.follow ∧ t.fault = s.fault ∧ t.front = s.front ∧
        t.cue = s.cue ∧ t.clock = s.clock ∧ t.startup = s.startup) ∧
      ((s.inPlay = true ∨ s.play.state = .silenced ∨ s.play.state = .starting) → exec (.select bytes) s = .next (s.afterFrameFrom bytes p))

/-- START taken from a peer (R65, R67): in LOADED with the loaded hymn's number play begins, LEADING in the intro, anchored at play beat 0 at the
cue's mark time plus 6000 ticks or now when that has passed, with the nominal period and the fault latches cleared, and the first re-time pass
begins (R103, R158); in LOADING with the number being loaded it is kept as the pending START; otherwise it is refused. -/
def Obligations.StartBeginsPlay : Prop :=
  ∀ (bytes : List Byte) (p : Station) (n : Nat) (s : State), s.hearsCue bytes p .start n →
    (∀ h, s.play.state = .loaded → s.loadedNumber = some n → s.header = some h → (s.store.seek = none ∨ s.store.seek = some 0) →
      let lead := s.line.markLatch + 6000
      let start := if 0 ≤ since s.now lead then s.now else lead
      ∃ t, exec (.start bytes) s = .next t ∧
        t.play =
          { s.play with
            state := .leading, sect := some 0, run := 0, leadLock := false, pendingStart := none, join := none, returnState := none } ∧
        t.ruling = some ⟨0, start, h.period⟩ ∧ t.follow.top = 0 ∧ t.follow.nextBeat = some 0 ∧ t.follow.confidence = 0 ∧ t.follow.misses = 0 ∧
        t.follow.sticky = 0 ∧ t.follow.culprit = none ∧ t.fault.latches = 0 ∧ t.gather.playStart = s.now ∧ t.gather.opens = [] ∧
        t.gather.closed = [] ∧ t.gather.pool = [] ∧ t.passBegun ∧ t.sched.table = s.sched.table ∧ t.out = s.out ∧ t.store.hymn = s.store.hymn ∧
        t.line = (s.afterFrameFrom bytes p).line ∧ t.gather.peers = (s.afterFrameFrom bytes p).gather.peers) ∧
      (s.play.state = .loading → s.loadingNumber = some n →
        exec (.start bytes) s = .next { s.afterFrameFrom bytes p with play.pendingStart := some s.line.markLatch }) ∧
      (s.play.state = .loading → s.loadingNumber ≠ some n → exec (.start bytes) s = .next (s.afterFrameFrom bytes p)) ∧
      (s.play.state = .loaded → s.loadedNumber ≠ some n → exec (.start bytes) s = .next (s.afterFrameFrom bytes p)) ∧
      ((s.inPlay = true ∨ s.play.state = .idle ∨ s.play.state = .silenced ∨ s.play.state = .starting) →
        exec (.start bytes) s = .next (s.afterFrameFrom bytes p))

/-- STOP taken from a peer (R65, R68, R69, R80): in play the table is emptied with firing, the gather unit and the follower emptied with their
sticky flags and culprit kept, the swell taken to rest, LOADED, the fault latches and the transmit queue kept; in LOADING the pending START
and the join are cleared; in LOADED the join is cleared, a join's seek replaced by one to 0, another seek left; SILENCED is left unless the own
cutoff is asserted, which is read as the debounced state (log 27, the model's choice), for LOADED with a seek to 0 or for IDLE with the
readers idle (R59); in IDLE and before full start ends nothing. -/
def Obligations.StopTaken : Prop :=
  ∀ (bytes : List Byte) (p : Station) (n : Nat) (s : State), s.hearsCue bytes p .stop n →
    (s.inPlay = true →
      ∃ t, exec (.stop bytes) s = .next t ∧ t.play = s.play.rest .loaded ∧ t.sched = Scheduler.initial ∧
        (∀ key : Key, t.out.counts[key] = s.out.counts[key] - firedOffs s.sched.table key) ∧
        t.out.onCoils = Vector.replicate 16 none ∧ t.out.offCoils = Vector.replicate 16 none ∧ t.out.stopImage = s.out.stopImage ∧
        t.out.swell = s.cfg.swellRest ∧ t.out.target = s.cfg.swellRest ∧ t.gather = emptyGather (s.afterFrameFrom bytes p).gather ∧
        t.follow = emptyFollower s.follow ∧ t.follow.sticky = s.follow.sticky ∧ t.follow.culprit = s.follow.culprit ∧
        t.follow.slots = Vector.replicate 4 none ∧ t.follow.confidence = 0 ∧ t.store.queue = [] ∧ t.store.hymn = s.store.hymn ∧
        (s.store.hymn.isSome = true → t.store.notes.planned = s.out.stopImage ∧ t.store.notes.start = 0 ∧ t.store.notes.endReached = false) ∧
        t.fault = s.fault ∧ t.line = (s.afterFrameFrom bytes p).line ∧ t.front = s.front ∧ t.cue = s.cue ∧ t.clock = s.clock ∧ t.startup = s.startup) ∧
      (s.play.state = .loading →
        exec (.stop bytes) s = .next { s.afterFrameFrom bytes p with play := { s.play with pendingStart := none, join := none } }) ∧
      (s.play.state = .loaded → (s.store.seek = none ∨ ∀ j, s.play.join = some j → j.anchor = none) →
        exec (.stop bytes) s = .next { s.afterFrameFrom bytes p with play.join := none }) ∧
      (∀ (k m : Nat) (j : JoinAnchor), s.play.state = .loaded → s.store.seek = some k → s.play.join = some ⟨m, some j⟩ →
        s.store.hymn.isSome = true →
        ∃ t, exec (.stop bytes) s = .next t ∧ t.play = { s.play with join := none } ∧ (t.store.seek = some 0 ∨ t.store.seek = none) ∧
          t.store.queue = [] ∧ t.store.hymn = s.store.hymn ∧ t.store.marks.discardBelow = 0 ∧ t.store.notes.start = 0 ∧
          t.store.notes.planned = s.out.stopImage ∧ t.sched = Scheduler.initial ∧ t.follow = s.follow ∧ t.fault = s.fault ∧
          t.line = (s.afterFrameFrom bytes p).line) ∧
      (s.play.state = .silenced → s.out.cutoff.asserted = true → exec (.stop bytes) s = .next (s.afterFrameFrom bytes p)) ∧
      (s.play.state = .silenced → s.out.cutoff.asserted = false → s.store.hymn = none →
        exec (.stop bytes) s =
          .next
            { s.afterFrameFrom bytes p with
              play.state := .idle, out := { s.out with swell := s.cfg.swellRest, target := s.cfg.swellRest }
              store.marks.phase := .idle, store.notes.phase := .idle }) ∧
      (s.play.state = .silenced → s.out.cutoff.asserted = false → s.store.hymn.isSome = true → s.play.join = none →
        ∃ t, exec (.stop bytes) s = .next t ∧ t.play = { s.play with state := .loaded } ∧ t.store.hymn = s.store.hymn ∧
          t.out.swell = s.cfg.swellRest ∧ t.store.marks.phase = .running ∧ t.store.notes.phase = .running ∧ t.store.notes.start = 0) ∧
      ((s.play.state = .idle ∨ s.play.state = .starting) → exec (.stop bytes) s = .next (s.afterFrameFrom bytes p))

/-- RESTART taken from a peer (R70, R203): IDLE without the repeat of full start, every block as its chapter's table has it; the peers, the
HEARD sequence number, the counter, the configuration, the pins and a sample being read are kept (R23); a station that was HALTED joins the
line afresh. A number that stands on the panel is offered at once. Before full start ends it is ignored (R202). The model's choice: out of
HALTED the sender's entry is kept as it was, since no frame updated it, and the frame sent before is forgotten (log 29, from R86 and R181);
and the planned stop set is all off until the next priming (log 55, from R59). The mismatch run and report are kept (R181). -/
def Obligations.RestartReturnsToIdle : Prop :=
  ∀ (bytes : List Byte) (p : Station) (n : Nat) (s : State), s.hearsCue bytes p .restart n →
    let panel := (s.cue.levels.extractLsb' 0 10).toNat
    let stands := s.configured && s.cue.settled && panel != 0 && decide (2500 ≤ since s.now s.cue.changedAt)
    let gather := if s.isHalted then s.gather else (s.afterFrameFrom bytes p).gather
    (s.play.state ≠ .starting →
      exec (.restart bytes) s =
        .next
          { s with
            play := { PlayController.initial with state := .idle }
            line :=
              { s.line with
                framing := .waitSync, high := highTail bytes, onLine := none
                queue := if stands then [⟨.cue .select panel, 0, 0, 0⟩] else []
                transmitter := if s.isHalted then .joining else s.line.transmitter
                joinTime := if s.isHalted then some 0 else s.line.joinTime }
            cue.lastSent := if stands then panel else 0
            front :=
              { FrontEnd.initial with
                sequence := s.front.sequence, lastSample := s.now, portTicks := if s.isHalted then 0 else s.front.portTicks }
            store := { ScoreStore.initial with port := { s.store.port.abandonAll with granting := true } }
            gather := emptyGather gather
            follow := .initial
            sched := .initial
            fault := { s.fault with latches := 0, silencing := none }
            out :=
              { s.out with
                counts := Vector.replicate 64 0, onCoils := Vector.replicate 16 none, offCoils := Vector.replicate 16 none
                swell := s.cfg.swellRest, target := s.cfg.swellRest, sent := if s.isHalted then none else s.out.sent } }) ∧
      (s.play.state = .starting → exec (.restart bytes) s = .next (s.afterFrameFrom bytes p))

/-! ## The score store and its readers (chapter 3) -/

/-- DIRECTORY_READ (R43): the count opens the whole range; a probed entry either is the hymn, whose header is then read, or leaves the half that
can hold it, whose middle entry is probed next; a count of 0 or above 1023, an entry whose number is not 1 to 1023, and an empty range fail
the load. Which of two middle entries is probed is open (log 6). -/
def Obligations.DirectorySearch : Prop :=
  ∀ (bytes : List Byte) (n : Nat) (r : FlashRead) (s : State), s.store.port = .only r → r.length = bytes.length → s.wouldReport 4 →
    let probes (low high m : Nat) : Prop :=
      low + (high - low - 1) / 2 ≤ m ∧ m ≤ low + (high - low) / 2 ∧
        exec (.directoryRead bytes) s =
          .next
            { s with
              store := { s.store with loader := .search n low high m, port := .only ⟨.directoryEntry, 2050 + 8 * m, 8⟩ } }
    (r.unit = .directoryCount → s.store.loader = .count n →
      (1 ≤ leNat bytes → leNat bytes ≤ 1023 → ∃ m, probes 0 (leNat bytes) m) ∧
        ((leNat bytes = 0 ∨ 1023 < leNat bytes) → exec (.directoryRead bytes) s = .next s.afterFailedLoad)) ∧
      ∀ low high at_, r.unit = .directoryEntry → s.store.loader = .search n low high at_ →
        let e := parseEntry bytes
        (1 ≤ n → n ≤ 1023 → e.hymn = n →
          exec (.directoryRead bytes) s =
            .next
              { s with
                store := { s.store with loader := .header n e.address e.length, port := .only ⟨.header, e.address, 59⟩ } }) ∧
          (n < e.hymn → e.hymn ≤ 1023 → low < at_ → ∃ m, probes low at_ m) ∧
          (1 ≤ e.hymn → e.hymn ≤ 1023 → e.hymn < n → at_ + 1 < high → ∃ m, probes (at_ + 1) high m) ∧
          ((e.hymn = 0 ∨ 1023 < e.hymn ∨ (n < e.hymn ∧ at_ ≤ low) ∨ (e.hymn < n ∧ high ≤ at_ + 1)) →
            exec (.directoryRead bytes) s = .next s.afterFailedLoad)

/-- HEADER_READ and VERSE_PLAN_READ (R44 to R47, R66, R206): the header's fields and the plan's entries stand at the offsets of the tables of
section 12.3; a header whose check matches and whose fields and streams are in range is kept and the plan read; a plan whose check matches
and whose entries are in range makes the hymn the loaded hymn and starts both readers at play position 0; with nothing to read the load
completes at once, in LOADED, or in LEADING with a START pending; otherwise the load fails. That the pass of the intro reads the mark
stream from block 0 on is the model's choice (log 14). -/
def Obligations.HeaderAndPlan : Prop :=
  ∀ (bytes : List Byte) (r : FlashRead) (s : State), s.store.port = .only r → r.length = bytes.length → s.wouldReport 4 →
    let one (o : Nat) : Nat := (bytes.getD o 0).toNat
    let two (o : Nat) : Nat := one o + 256 * one (o + 1)
    let three (o : Nat) : Nat := two o + 65536 * one (o + 2)
    (∀ n address length, r.unit = .header → s.store.loader = .header n address length →
      let h : Header :=
        { number := two 0, period := two 2, length := two 4, verses := one 6, introFirst := two 7, introLast := two 9, gap := one 11
          marks := ⟨three 12, two 15⟩, notes := Vector.ofFn fun d : Fin 8 => ⟨three (17 + 5 * d.val), two (20 + 5 * d.val)⟩ }
      let good : Prop :=
        checked bytes = true ∧ h.number = n ∧ 2000 ≤ h.period ∧ h.period ≤ 24000 ∧ 1 ≤ h.length ∧ h.length ≤ 512 ∧ 1 ≤ h.verses ∧
          h.verses ≤ 8 ∧ h.introFirst ≤ h.introLast ∧ h.introLast < h.length ∧ h.gap ≤ 16 ∧
          h.marks.offset + h.marks.count * 4 + 2 * ((h.marks.count + 15) / 16) ≤ length ∧
          ∀ d : Fin 8, (h.notes[d]).offset + (h.notes[d]).count * 5 + 2 * (((h.notes[d]).count + 15) / 16) ≤ length
      (good →
        exec (.headerRead bytes) s =
          .next
            { s with
              store := { s.store with loader := .plan address h, port := .only ⟨.plan, address + 59, 21 * h.verses + 2⟩ } }) ∧
        (¬good → exec (.headerRead bytes) s = .next s.afterFailedLoad)) ∧
      ∀ address h, r.unit = .plan → s.store.loader = .plan address h → bytes.length = 21 * h.verses + 2 →
        let good : Prop :=
          checked bytes = true ∧
            ∀ v < h.verses,
              one (21 * v) < 32 ∧ one (21 * v + 17) ≤ 3 ∧ one (21 * v + 18) ≤ one (21 * v + 19) ∧ 12 ≤ one (21 * v + 20) ∧
                one (21 * v + 20) ≤ 24
        let entry (v : Nat) : PlanEntry :=
          { voices := BitVec.ofNat 5 (one (21 * v)), stops := Vector.ofFn fun d : Fin 8 => BitVec.ofNat 16 (two (21 * v + 1 + 2 * d.val))
            mode := match one (21 * v + 17) with | 0 => .fixed | 1 => .quick | 2 => .steady | _ => .slow
            floor := one (21 * v + 18), ceiling := one (21 * v + 19), scale := one (21 * v + 20) }
        let hymn : Hymn := ⟨address, h, (List.range h.verses).map entry⟩
        (good → 0 < h.marks.count → s.store.queue = [] →
          ∃ t, exec (.versePlanRead bytes) s = .next t ∧ t.store.hymn = some hymn ∧ t.store.loader = .priming ∧
            t.play = s.play ∧ t.store.queue = [] ∧ t.store.marks = ⟨.running, 0, 0, [], none, 0, false⟩ ∧
            t.store.notes.phase = .running ∧ t.store.notes.start = 0 ∧ t.store.notes.planned = s.out.stopImage ∧
            t.store.port.serving = some ⟨.markBlock, address + h.marks.offset, min 16 h.marks.count * 4 + 2⟩ ∧
            t.sched = s.sched ∧ t.out = s.out ∧ t.line = s.line ∧ t.fault = s.fault ∧ t.gather = s.gather ∧ t.follow = s.follow) ∧
          (good → h.marks.count = 0 → s.readDivision = none →
            (s.play.pendingStart = none → s.play.join = none →
              ∃ t, exec (.versePlanRead bytes) s = .next t ∧ t.store.hymn = some hymn ∧ t.store.loader = .idle ∧
                t.play = { s.play with state := .loaded, joinLoad := none } ∧ t.loadedNumber = some h.number ∧
                t.store.marks.ended = true ∧ t.line = s.line ∧ t.fault = s.fault ∧ t.follow = s.follow) ∧
              ∀ mark, s.play.pendingStart = some mark →
                ∃ t, exec (.versePlanRead bytes) s = .next t ∧ t.store.hymn = some hymn ∧ t.store.loader = .idle ∧
                  t.play =
                    { s.play with
                      state := .leading, sect := some 0, run := 0, leadLock := false, pendingStart := none, join := none
                      joinLoad := none, returnState := none } ∧
                  t.ruling = some ⟨0, if 0 ≤ since s.now (mark + 6000) then s.now else mark + 6000, h.period⟩ ∧
                  t.follow.nextBeat = some 0 ∧ t.fault.latches = 0 ∧ t.passBegun) ∧
          (¬good → exec (.versePlanRead bytes) s = .next s.afterFailedLoad)

/-- MARK_BLOCK_READ while priming (R46, R49, R50, R58). The valid records of a block whose check matches, those that pass the tests and stand in
rising order, enter the queue as marks at their play positions; a record that fails a test, or does not lie above the last valid one, is skipped
and SCORE raised; a block whose check fails is skipped whole and SCORE raised. In the intro the records before its first one are passed over
without a fault, and the first record past it ends the pass: verse 1 begins again at the first block. Otherwise the next block of the stream is
asked for, after the last one the first block for the next verse. That the pass of the intro reads the stream from block 0 on, so that a damaged
block raises SCORE in it wherever it stands, is the model's choice (log 14). Priming is complete at the block that ends the last verse's pass, or
that brings the 24th mark, once the note reader is inactive or waits: LOADED, or with a pending START play begins; with a carried join request
and no claim that counts any more, or one near the hymn's end, the join is given up, and otherwise its seek begins (R66, R76). MARK_APPEND in play:
a record held at a full queue enters once there is room. -/
def Obligations.MarksAppended : Prop :=
  ∀ (s : State) (hymn : Hymn), s.store.hymn = some hymn → s.store.marks.phase = .running →
    let m := s.store.marks
    let h := hymn.header
    let place (r : MarkRecord) : Nat :=
      if m.sect = 0 then 24 * (r.beat - h.introFirst) + r.sub else 24 * (h.verseStart m.sect + r.beat) + r.sub
    let verse (r : MarkRecord) : Nat := 24 * r.beat + r.sub
    let rising (x y : MarkRecord) : Prop := verse x < verse y
    let block (i : Nat) : FlashRead := ⟨.markBlock, hymn.address + h.marks.offset + i * 66, min 16 (h.marks.count - 16 * i) * 4 + 2⟩
    (∀ (bytes : List Byte) (r : FlashRead), s.store.port = .only r → r.unit = .markBlock → r.length = bytes.length → m.buffer = [] →
      m.ended = false → m.discardBelow = 0 → s.play.state = .loading → s.store.loader = .priming → s.store.queue.length < 24 →
      0 < h.marks.count →
        let records := (blockWords 4 bytes).map parseMark
        let store (port : FlashPort) (marks : MarkReader) (valid : List MarkRecord) : ScoreStore :=
          { s.store with port := port, marks := marks, queue := s.store.queue ++ valid.map fun x => x.mark (place x) }
        let lastOf (valid : List MarkRecord) : Option Nat :=
          match valid.getLast? with
          | some x => some (verse x)
          | none => m.lastValid
        let notes := s.store.notes
        let notesWaiting : Prop :=
          s.readDivision = none ∨ notes.finished = true ∨
            match nextStop s, notes.buffer with
            | some _, _ =>
              notes.inHand = false ∧ notes.start + 96 ≤ 24 * h.sectionStart notes.sect - 12 ∨ s.sched.table.toList.countP (·.isNone) = 0
            | none, x :: _ =>
              notes.inHand = false ∧ notes.start + 96 ≤ h.place notes.sect x.beat x.sub ∨ s.sched.table.toList.countP (·.isNone) < 2
            | none, [] => False
        let completes (t : State) (loaded : ScoreStore) : Prop :=
          let done : State := { t with store := { loaded with loader := .idle }, play := { s.play with state := .loaded, joinLoad := none } }
          notesWaiting → s.store.seek = none →
            (s.play.pendingStart = none → s.play.join = none → exec (.markBlockRead bytes) s = .next done) ∧
              (∀ mark, s.play.pendingStart = some mark →
                ∃ u, exec (.markBlockRead bytes) s = .next u ∧ u.store.marks = loaded.marks ∧ u.store.loader = .idle ∧
                  u.play =
                    { done.play with
                      state := .leading, sect := some 0, run := 0, leadLock := false, pendingStart := none, join := none
                      returnState := none } ∧
                  u.ruling = some ⟨0, if 0 ≤ since s.now (mark + 6000) then s.now else mark + 6000, h.period⟩ ∧
                  u.follow.nextBeat = some 0 ∧ u.fault.latches = 0 ∧ u.gather.opens = [] ∧ u.gather.playStart = s.now ∧ u.passBegun ∧
                  u.sched.table = s.sched.table ∧ u.line = t.line ∧ u.out = s.out) ∧
              ∀ (n : Nat), s.play.pendingStart = none → s.play.join = some ⟨n, none⟩ →
                ((∀ q : Station, (s.gather.peers[q]).claim = none) →
                  exec (.markBlockRead bytes) s = .next { done with play.join := none }) ∧
                  ∀ (q : Station) (c : Claim), 1 ≤ n → n ≤ 1023 → s.play.barred ≠ some n → (s.gather.peers[q]).present = true →
                    (s.gather.peers[q]).claim = some c → (∀ p : Station, p ≠ q → (s.gather.peers[p]).claim = none) → c.fields.hymn = n →
                    4 ≤ c.fields.confidence → since s.now c.heard ≤ 2 * c.fields.period →
                    let target := c.fields.beat + 2
                    let last := h.verseStart h.verses + h.length - 2
                    (last ≤ target → exec (.markBlockRead bytes) s = .next { done with play.join := none }) ∧
                      (target < last →
                        ∃ u, exec (.markBlockRead bytes) s = .next u ∧
                          u.play =
                            { done.play with
                              join :=
                                some
                                  ⟨n, some ⟨c.fields.beat, c.beatTime, (clampInt h.minPeriod h.maxPeriod c.fields.period).toNat, target⟩⟩ } ∧
                          u.store.seek = some target ∧ u.store.queue = [] ∧ u.store.marks.discardBelow = 24 * target ∧
                          u.store.notes.start = 24 * target ∧ u.sched = Scheduler.initial ∧ u.follow = s.follow)
        (∀ (pre before after post : List MarkRecord) (bad : Option MarkRecord), checked bytes = true →
          records = pre ++ before ++ bad.toList ++ after ++ post → records.length ≤ 16 →
          (if m.sect = 0 then
              (∀ x ∈ pre, x.beat < h.introFirst) ∧ (∀ x ∈ post, h.introLast < x.beat) ∧
                ∀ x ∈ before ++ bad.toList ++ after, h.introFirst ≤ x.beat ∧ x.beat ≤ h.introLast
            else pre = [] ∧ post = []) →
          (∀ x ∈ before ++ after, x.passes h.length) → (before ++ after).Pairwise rising →
          (∀ p ∈ m.lastValid, ∀ x ∈ before ++ after, p < verse x) →
          (∀ x ∈ bad, s.wouldReport 4 ∧ (¬x.passes h.length ∨ ∃ p ∈ lastOf before, verse x ≤ p)) →
          let t : State := if bad = none then s else s.withReport 4 none
          let valid := before ++ after
          let count := s.store.queue.length + valid.length
          let ends (port : FlashPort) (marks : MarkReader) : Prop :=
            (count < 24 → exec (.markBlockRead bytes) s = .next { t with store := store port marks valid }) ∧
              (count = 24 → (bad = none ∨ after ≠ []) → completes t (store port marks valid))
          let last := lastOf valid
          let verse1 : MarkReader := { m with sect := 1, block := 0, lastValid := none }
          (post ≠ [] → count < 24 → exec (.markBlockRead bytes) s = .next { t with store := store (.only (block 0)) verse1 valid }) ∧
            (post = [] → 16 * (m.block + 1) < h.marks.count →
              ends (.only (block (m.block + 1))) { m with block := m.block + 1, lastValid := last }) ∧
            (post = [] → h.marks.count ≤ 16 * (m.block + 1) → m.sect < h.verses →
              ends (.only (block 0)) { m with sect := m.sect + 1, block := 0, lastValid := none }) ∧
            (post = [] → h.marks.count ≤ 16 * (m.block + 1) → h.verses ≤ m.sect → count ≤ 24 → (bad = none ∨ after ≠ [] ∨ count < 24) →
              completes t (store .initial { m with block := m.block + 1, lastValid := last, ended := true } valid))) ∧
          (∀ before x after, checked bytes = true → records = before ++ x :: after → records.length ≤ 16 →
            (m.sect = 0 → ∀ y ∈ before, h.introFirst ≤ y.beat ∧ y.beat ≤ h.introLast) →
            s.store.queue.length + before.length = 24 → (∀ y ∈ before, y.passes h.length) → before.Pairwise rising →
            (∀ p ∈ m.lastValid, ∀ y ∈ before, p < verse y) →
            completes s (store .initial { m with block := m.block + 1, buffer := x :: after, lastValid := lastOf before } before)) ∧
          (checked bytes = false → s.wouldReport 4 →
            let t := s.withReport 4 none
            (16 * (m.block + 1) < h.marks.count →
              exec (.markBlockRead bytes) s =
                .next { t with store := store (.only (block (m.block + 1))) { m with block := m.block + 1 } [] }) ∧
              (h.marks.count ≤ 16 * (m.block + 1) → m.sect < h.verses →
                exec (.markBlockRead bytes) s =
                  .next { t with store := store (.only (block 0)) { m with sect := m.sect + 1, block := 0, lastValid := none } [] }) ∧
              (h.marks.count ≤ 16 * (m.block + 1) → h.verses ≤ m.sect →
                completes t (store .initial { m with block := m.block + 1, ended := true } [])))) ∧
      ∀ x y rest, 1 ≤ m.sect → m.buffer = x :: y :: rest → s.store.queue.length = 23 → s.inPlay = true → s.store.loader = .idle →
        s.store.seek = none → m.ended = false → s.follow.watch = none → s.sched.barrier = none →
        (∀ k ∈ s.store.queue, k.hold ≠ .unserved) → x.passes h.length → x.hold = false → (∀ p, m.lastValid = some p → p < verse x) →
        m.discardBelow ≤ place x →
          exec .markAppend s =
            .next
              { s with
                store :=
                  { s.store with
                    queue := s.store.queue ++ [x.mark (place x)]
                    marks := { m with buffer := y :: rest, lastValid := some (verse x) } } }

/-- NOTE_BLOCK_READ (R50, R53, R58): the records of a block whose check matches are held for insertion; a block whose check fails is skipped, SCORE
raised, and the next asked for; in the intro the records before its first are passed over without a fault (that its pass reads the stream from
block 0 on is the model's choice, log 14). A note whose voice its section does not draw, or below a seek's target, is skipped without a fault; a
damaged record is skipped and SCORE raised. NOTE_PAIR_INSERT (R53, R147 to R153): the note in hand, once it is below the horizon or has been,
whatever the horizon has moved to, enters as a NOTE_ON and a NOTE_OFF in the two lowest FREE entries, linked as a pair, and leaves the reader's
hand, the record after it there next when that is to be inserted too; the release at its shortened length, each with its lead: speech delay of the
zone, chamber delay and 20 less the bias, or chamber delay, 20 and off trim less the bias, within 0 to 6000 (R148). In LOADED both are WAITING,
untimed; in HOLDING from the hold point on, HELD for it; in LEADING and FOLLOWING below the slip position, HELD for the slip; otherwise (of a slip
position in HOLDING, log 40) timed, the NOTE_OFF not before the NOTE_ON's due time plus 100, and tested at once: it waits at the barrier and beyond
200 ticks, arms within them on the lowest FREE channel, fires when due, the NOTE_OFF then tested in its turn, and is dropped with its NOTE_OFF
beyond the late limit, LATE raised, as at a hold count of 15, with SCORE. -/
def Obligations.NotesInserted : Prop :=
  ∀ (s : State) (hymn : Hymn) (d : Fin 8), s.store.hymn = some hymn → s.readDivision = some d → s.store.notes.phase = .running →
    s.store.loader = .idle → s.store.seek = none → s.wouldReport 4 →
    let n := s.store.notes
    let h := hymn.header
    let place (x : NoteRecord) : Nat :=
      if n.sect = 0 then 24 * (x.beat - h.introFirst) + x.sub else 24 * (h.verseStart n.sect + x.beat) + x.sub
    let next : FlashRead :=
      ⟨.noteBlock, hymn.address + (h.notes[d]).offset + (n.block + 1) * 82, min 16 ((h.notes[d]).count - 16 * (n.block + 1)) * 5 + 2⟩
    (∀ (bytes : List Byte) (r : FlashRead), s.store.port = .only r → r.unit = .noteBlock → r.length = bytes.length → n.buffer = [] →
      let records := (blockWords 5 bytes).map parseNote
      let skipped (t : State) : Prop :=
        exec (.noteBlockRead bytes) s =
          .next { t with store := { s.store with port := .only next, notes := { n with block := n.block + 1 } } }
      let holds (t : State) (records : List NoteRecord) (last : Option Nat) : Prop :=
        exec (.noteBlockRead bytes) s =
          .next
            { t with
              store := { s.store with port := .initial, notes := { n with block := n.block + 1, buffer := records, lastValid := last } } }
      let reached (x : NoteRecord) : Prop := n.sect = 0 → h.introFirst ≤ x.beat ∧ x.beat ≤ h.introLast
      let good (x : NoteRecord) : Prop := x.beat < h.length ∧ x.sub ≤ 23 ∧ 1 ≤ x.length ∧ x.voice ≤ 4
      let after (x : NoteRecord) : Prop := ∀ p, n.lastValid = some p → p ≤ 24 * x.beat + x.sub
      (∀ plan, checked bytes = true → hymn.planOf n.sect = some plan → records.length ≤ 16 →
        let plays (x : NoteRecord) : Prop := plan.voices.getLsbD x.voice = true ∧ n.start ≤ place x
        (∀ before x rest, records = before ++ x :: rest → (n.sect = 0 ∧ nextStop s = none ∧ (∀ y ∈ before, y.beat < h.introFirst) ∨ before = []) →
          reached x → good x → after x → plays x → holds s (x :: rest) n.lastValid) ∧
          ∀ y x rest, records = y :: x :: rest → nextStop s = none → reached y → reached x → good x → plays x →
            (good y → after y → ¬plays y → 24 * y.beat + y.sub ≤ 24 * x.beat + x.sub → holds s (x :: rest) (some (24 * y.beat + y.sub))) ∧
              (¬(good y ∧ after y) → after x → holds (s.withReport 4 none) (x :: rest) n.lastValid)) ∧
        (n.finished = false → 16 * (n.block + 1) < (h.notes[d]).count →
          (checked bytes = false → skipped (s.withReport 4 none)) ∧
            (n.sect = 0 → nextStop s = none → checked bytes = true → records.length ≤ 16 → (∀ y ∈ records, y.beat < h.introFirst) →
              skipped s))) ∧
      ∀ (x : NoteRecord) (rest : List NoteRecord) (e f : EntryNo), n.buffer = x :: rest → nextStop s = none → e < f →
        s.sched.table[e] = none → s.sched.table[f] = none → (∀ g, g < e → s.sched.table[g] ≠ none) →
        (∀ g, e < g → g < f → s.sched.table[g] ≠ none) →
          let lead (ticks : Int) : Nat := (max 0 (min 6000 ticks)).toNat
          let leadOn := lead (speechDelay s.cfg.zones x.key.val + s.cfg.chamberDelay + 20 - s.cfg.bias)
          let leadOff := lead (s.cfg.chamberDelay + 20 + s.cfg.offTrim - s.cfg.bias)
          let release := place x + max (x.length - s.cfg.articulation) ((x.length + 1) / 2)
          let on (st : ActionState) (due : Option Time) : Option Action := some ⟨st, .noteOn x.key, place x, leadOn, due, .entry f⟩
          let off (st : ActionState) (due : Option Time) (pair : Pair) : Option Action :=
            some ⟨st, .noteOff x.key, release, leadOff, due, pair⟩
          let stands (y : NoteRecord) : Prop :=
            (n.sect = 0 → h.introFirst ≤ y.beat ∧ y.beat ≤ h.introLast) ∧ y.beat < h.length ∧ y.sub ≤ 23 ∧ 1 ≤ y.length ∧ y.voice ≤ 4 ∧
              24 * x.beat + x.sub ≤ 24 * y.beat + y.sub ∧ n.start ≤ place y ∧
              (hymn.planOf n.sect).any (fun plan => plan.voices.getLsbD y.voice) = true
          let handed : Prop := match rest with | y :: _ => stands y | [] => 16 * n.block < (h.notes[d]).count
          let enters (a b : Option Action) (channels : Vector Channel 8) (counts : Vector Nat 64) (raised : Option FaultNo) : Prop :=
            ∃ t, exec .notePairInsert s = .next t ∧
              t.sched = { s.sched with table := (s.sched.table.set e a).set f b, channels := channels } ∧
              t.out = { s.out with counts := counts } ∧ (∀ ch, raised = some ch → t.latched ch = true) ∧ t.play = s.play ∧
              t.store.queue = s.store.queue ∧ t.store.hymn = s.store.hymn ∧ t.store.notes.buffer <:+ rest ∧
              (handed → t.store.notes = { n with buffer := rest, lastValid := some (24 * x.beat + x.sub), inHand := false }) ∧
              t.gather = s.gather ∧ t.follow = s.follow ∧
              t.front = s.front ∧ t.clock = s.clock
          let quietly (a b : Option Action) : Prop := enters a b s.sched.channels s.out.counts none
          (s.play.state = .loaded → (place x < n.start + 96 ∨ n.inHand = true) →
            quietly (on .waiting none) (off .waiting none (.entry e))) ∧
          (s.inPlay = true → ((place x : Int) < s.position + 96 ∨ n.inHand = true) → n.endReached = false →
            (∀ g : EntryNo, waitsForChannel s g = false) →
            (∀ p, s.play.state = .holding → s.holdPoint = some p → p ≤ place x →
              quietly (on (.held .hold) none) (off (.held .hold) none (.entry e))) ∧
            (∀ p, s.play.state ≠ .holding → s.slipPosition = some p → place x < p →
              quietly (on (.held .slip) none) (off (.held .slip) none (.entry e))) ∧
            ((∀ p, s.play.state = .holding → s.holdPoint = some p → place x < p) →
              (∀ p, s.play.state ≠ .holding → s.slipPosition = some p → p ≤ place x) →
              let due := s.timeOf (place x) - BitVec.ofNat 32 leadOn
              let floor := due + 100
              let own := s.timeOf release - BitVec.ofNat 32 leadOff
              let dueOff := if 0 ≤ since own floor then own else floor
              let barred (p : Nat) : Prop := ∃ b, s.sched.barrier = some b ∧ b ≤ p
              let waits := off .waiting (some dueOff) (.entry e)
              let count := s.out.counts[x.key]
              ((barred (place x) ∨ 200 < since due s.now) → quietly (on .waiting (some due)) waits) ∧
              (¬barred (place x) → 0 < since due s.now → since due s.now ≤ 200 →
                (∀ c, s.sched.channels[c] = .free → (∀ b, b < c → s.sched.channels[b] ≠ .free) →
                  enters (on (.armed c) (some due)) waits (s.sched.channels.set c (.waiting e due)) s.out.counts none) ∧
                ((∀ c : ChannelNo, s.sched.channels[c] ≠ .free) → quietly (on .waiting (some due)) waits)) ∧
              (¬barred (place x) → 0 ≤ since s.now due → since s.now due ≤ s.cfg.lateLimit → count < 15 →
                let raised := s.out.counts.set x.key (count + 1)
                let fired := off .waiting (some dueOff) (.fired floor)
                ((barred release ∨ 200 < since dueOff s.now ∨ 0 < since dueOff s.now ∧ ∀ c : ChannelNo, s.sched.channels[c] ≠ .free) →
                  enters none fired s.sched.channels raised none) ∧
                (¬barred release → 0 < since dueOff s.now → since dueOff s.now ≤ 200 →
                  ∀ c, s.sched.channels[c] = .free → (∀ b, b < c → s.sched.channels[b] ≠ .free) →
                    enters none (off (.armed c) (some dueOff) (.fired floor)) (s.sched.channels.set c (.waiting f dueOff)) raised none) ∧
                (¬barred release → 0 ≤ since s.now dueOff → enters none none s.sched.channels s.out.counts none)) ∧
              (¬barred (place x) → 0 ≤ since s.now due → since s.now due ≤ s.cfg.lateLimit → 15 ≤ count →
                enters none none s.sched.channels s.out.counts (some 4)) ∧
              (¬barred (place x) → 0 ≤ since s.now due → s.cfg.lateLimit < since s.now due → s.wouldReport 3 →
                enters none none s.sched.channels s.out.counts (some 3))))

/-- STOP_ACTION_INSERT (R54, R149 to R153): one STOP action for each stop whose wanted state differs from the planned stop set, lowest stop in
the lowest entry, an on-coil action for a stop wanted drawn, at the position 12 su before the section or at the reader's start, once that
is below the horizon or has been; the planned stop set becomes the wanted one. Into an empty table in LOADED they enter WAITING, untimed, and in
HOLDING from the hold point on HELD for it. Elsewhere in play a single one is timed and tested at once: it waits at the barrier, beyond 200 ticks and
for want of a FREE channel, arms on the lowest FREE channel within 200 ticks, and when due pulses its coil on that channel. That one command inserts
every stop action that is due is the model's choice (log 14). END_OF_SCORE (R55, R78): reported once the hymn's end has been reached, it ends
the hymn when the table is empty and the state is not HOLDING, and otherwise only stands; a beat event due at or before the end goes first
(log 50). -/
def Obligations.StopsInsertedAndScoreEnds : Prop :=
  ∀ (s : State) (hymn : Hymn), s.store.hymn = some hymn →
    (∀ (d : Fin 8) (plan : PlanEntry), s.store.loader = .idle → s.store.seek = none →
      s.readDivision = some d → s.store.notes.phase = .running → hymn.planOf s.store.notes.sect = some plan → s.wouldReport 4 →
      let n := s.store.notes
      let place := max (24 * hymn.header.sectionStart n.sect - 12) n.start
      let lead := (clampInt 0 6000 s.cfg.stopLead).toNat
      let moves (i : StopNo) : Prop := plan.stops[d].getLsbD i.val ≠ n.planned.getLsbD i.val
      let coil (i : StopNo) : Coil := if plan.stops[d].getLsbD i.val then .on else .off
      let frame (t : State) : Prop :=
        t.store.notes.planned = plan.stops[d] ∧ t.play = s.play ∧ t.store.queue = s.store.queue ∧ t.gather = s.gather ∧
          t.follow = s.follow
      (∀ st : ActionState, s.sched.table = Vector.replicate 64 none → plan.stops[d] ≠ n.planned →
        (s.play.state = .loaded ∧ (place < n.start + 96 ∨ n.inHand = true) ∧ st = .waiting ∨
          s.play.state = .holding ∧ ((place : Int) < s.position + 96 ∨ n.inHand = true) ∧ st = .held .hold ∧
            ∃ p, s.holdPoint = some p ∧ p ≤ place) →
          let moved := (List.finRange 16).filter fun i => decide (moves i)
          ∃ t, exec .stopActionInsert s = .next t ∧ frame t ∧ t.out = s.out ∧
            (∀ (k : Nat) (i : StopNo) (e : EntryNo), moved[k]? = some i → e.val = k →
              t.sched.table[e] = some ⟨st, .stop i (coil i), place, lead, none, .absent⟩) ∧
            (∀ e : EntryNo, moved.length ≤ e.val → t.sched.table[e] = none) ∧ t.sched.channels = s.sched.channels) ∧
        ∀ (i : StopNo) (e : EntryNo), moves i → (∀ j, moves j → j = i) → s.inPlay = true →
          ((place : Int) < s.position + 96 ∨ n.inHand = true) → (∀ p, s.play.state = .holding → s.holdPoint = some p → place < p) →
          n.endReached = false → (∀ g : EntryNo, waitsForChannel s g = false) → s.sched.table[e] = none →
          (∀ g, g < e → s.sched.table[g] ≠ none) →
            let due := s.timeOf place - BitVec.ofNat 32 lead
            let barred : Prop := ∃ b, s.sched.barrier = some b ∧ b ≤ place
            let stop (st : ActionState) : Option Action := some ⟨st, .stop i (coil i), place, lead, some due, .absent⟩
            let enters (a : Option Action) (channels : Vector Channel 8) (out : OutputStage) : Prop :=
              ∃ t, exec .stopActionInsert s = .next t ∧ frame t ∧ t.out = out ∧
                t.sched = { s.sched with table := s.sched.table.set e a, channels := channels }
            let full : Prop := ∀ c : ChannelNo, s.sched.channels[c] ≠ .free
            let lowest (c : ChannelNo) : Prop := s.sched.channels[c] = .free ∧ ∀ b, b < c → s.sched.channels[b] ≠ .free
            let ends := addTicks s.now s.cfg.stopPulse
            ((barred ∨ 200 < since due s.now ∨ full) → enters (stop .waiting) s.sched.channels s.out) ∧
              ∀ c, ¬barred → lowest c →
                (0 < since due s.now → since due s.now ≤ 200 →
                  enters (stop (.armed c)) (s.sched.channels.set c (.waiting e due)) s.out) ∧
                  (0 ≤ since s.now due → enters none (s.sched.channels.set c (.pulsing ends)) (s.out.withPulse i (coil i) ends))) ∧
      (let last : Nat := 24 * (hymn.header.verseStart hymn.header.verses + hymn.header.length)
       let beatDue : Prop := ∃ b, s.follow.nextBeat = some b ∧ 24 * b ≤ last ∧ 0 ≤ since s.now (s.timeOf (24 * b))
       (s.inPlay = true → s.store.notes.endReached = false →
          (s.store.notes.endPassed = true ∨ s.store.notes.finished = true ∧ (last : Int) ≤ s.position) →
          ((s.play.state = .holding ∨ ¬beatDue ∧ ∃ e : EntryNo, s.sched.table[e] ≠ none) →
            exec .endOfScore s =
              .next { s with store.notes := { s.store.notes with endReached := true, endPassed := false } }) ∧
            (s.play.state ≠ .holding → beatDue → exec .endOfScore s = .next s) ∧
            (s.play.state ≠ .holding → ¬beatDue → s.sched.table = Vector.replicate 64 none →
              ∃ t, exec .endOfScore s = .next t ∧ t.play = s.play.rest .loaded ∧ t.store.notes.start = 0 ∧
                t.store.notes.endReached = false ∧ t.store.notes.endPassed = false ∧ t.store.hymn = s.store.hymn ∧
                t.out.counts = s.out.counts ∧ t.out.swell = s.cfg.swellRest ∧ t.follow = emptyFollower s.follow ∧
                t.gather = emptyGather s.gather ∧ t.fault = s.fault ∧ t.line = s.line)) ∧
         (s.position < (last : Int) → s.store.notes.endPassed = false → exec .endOfScore s = .next s))

/-! ## Observations, peers and gathers (chapter 5) -/

/-- ONSET_TAKEN (R85, R91, R92, R94, R97, R98): a member of the open gather whose window holds it, once per source, closing the gather at the
quorum; dropped when only a closed window holds it; STALE before the stale boundary; otherwise into the pool, where the earliest of eight
members makes room. An ONSET that brings a span of P/8 to the quorum, alone or with members already there, makes a cluster of the first such
span: its members leave the pool, the others stay, and its time is the earliest one's plus the nearest whole tick to the weighted mean of
their offsets from it. -/
def Obligations.OnsetTaken : Prop :=
  ∀ (o : Observation) (rest : List Observation) (s : State), s.inPlay = true → s.gather.taking = .free →
    s.gather.queue = o :: rest → o.kind = .onset →
    let within (w : Window) : Prop := 0 ≤ since o.time w.first ∧ 0 ≤ since w.last o.time
    let taken (u : GatherUnit) : Host.Outcome State Fault Refusal := .next { s with gather := { u with queue := rest } }
    let others := s.gather.pool.filter fun m => m.source != o.source
    let span (pool : List Observation) (m : Observation) : List Observation :=
      pool.filter fun x => decide (0 ≤ since x.time m.time) && decide (since x.time m.time ≤ s.period / 8)
    let weight (members : List Observation) : Nat := (members.map (·.weight)).sum
    let boundary :=
      match s.gather.opens, s.gather.closed.getLast? with
      | g :: _, _ => g.window.first
      | [], some w => w.last
      | [], none => s.gather.playStart
    (∀ pre g post, s.gather.opens = pre ++ g :: post → within g.window → (∀ x ∈ pre, ¬within x.window) →
      (∀ x ∈ pre ++ post, x.mark ≠ g.mark) →
        let joined : Gather := { g with members := g.members ++ [o], sum := g.sum + o.weight }
        ((∃ m ∈ g.members, m.source = o.source) → exec .onsetTaken s = taken s.gather) ∧
          ((∀ m ∈ g.members, m.source ≠ o.source) → g.sum + o.weight < s.cfg.quorum →
            exec .onsetTaken s = taken { s.gather with opens := pre ++ joined :: post }) ∧
          ((∀ m ∈ g.members, m.source ≠ o.source) → s.cfg.quorum ≤ g.sum + o.weight → s.gather.pool = [] →
            exec .onsetTaken s =
              taken
                { s.gather with
                  opens := pre ++ post, taking := .close joined
                  closed := (s.gather.closed ++ [g.window]).drop (s.gather.closed.length + 1 - 2) })) ∧
      ((∀ x ∈ s.gather.opens, ¬within x.window) →
        ((∃ w ∈ s.gather.closed, within w) → exec .onsetTaken s = taken s.gather) ∧
          ((∀ w ∈ s.gather.closed, ¬within w) →
            (since o.time boundary < 0 → s.masked .stale = true →
              exec .onsetTaken s =
                .next { s with gather.queue := rest, follow := { s.follow with sticky := s.follow.sticky ||| 0x08#7 } }) ∧
              (0 ≤ since o.time boundary → others.length < 8 → s.period ≤ 24000 →
                (∀ m ∈ others ++ [o], weight (span (others ++ [o]) m) < s.cfg.quorum) →
                exec .onsetTaken s =
                  .next { s with clock.opened := s.clock.opened + 1, gather := { s.gather with queue := rest, pool := others ++ [o] } }) ∧
              (∀ e ∈ others, 0 ≤ since o.time boundary → others.length = 8 → others.Pairwise (fun x y => x.source ≠ y.source) →
                (∀ m ∈ others, m ≠ e → 0 < since m.time e.time) → 0 < since o.time e.time →
                weight (others ++ [o]) < s.cfg.quorum →
                exec .onsetTaken s =
                  .next
                    { s with
                      clock.opened := s.clock.opened + 1
                      gather := { s.gather with queue := rest, pool := others.filter (fun m => m.source != e.source) ++ [o] } }) ∧
              (0 ≤ since o.time boundary → others = [] → 1 ≤ o.weight → s.cfg.quorum ≤ o.weight → s.period ≤ 24000 →
                exec .onsetTaken s =
                  .next
                    { s with
                      clock.opened := s.clock.opened + 1
                      gather := { s.gather with queue := rest, pool := [], taking := .cluster ⟨[o], o.time⟩ } }) ∧
              ∀ e ∈ others ++ [o],
                let pool := others ++ [o]
                let cluster := span pool e
                let moment : Int := (cluster.map fun x => (x.weight : Int) * since x.time e.time).sum
                0 ≤ since o.time boundary → others.length < 8 → others.Pairwise (fun x y => x.source ≠ y.source) →
                (∀ x ∈ pool, ∀ y ∈ pool, (since x.time y.time).natAbs < 2 ^ 30) → s.period ≤ 24000 → 1 ≤ s.cfg.quorum →
                s.cfg.quorum ≤ weight cluster → (∀ m ∈ pool, since m.time e.time < 0 → weight (span pool m) < s.cfg.quorum) →
                ∃ mean : Int,
                  2 * (weight cluster * mean - moment).natAbs ≤ weight cluster ∧
                    (2 * (weight cluster * mean - moment).natAbs = weight cluster → moment.natAbs < (weight cluster * mean).natAbs) ∧
                    exec .onsetTaken s =
                      .next
                        { s with
                          clock.opened := s.clock.opened + 1
                          gather :=
                            { s.gather with
                              queue := rest, pool := pool.filter fun x => !cluster.contains x
                              taking := .cluster ⟨cluster, addTicks e.time mean⟩ } }))

/-- RELEASE_TAKEN (R100, R141): in HOLDING a RELEASE at or after the threshold, from a source not yet counted, adds its weight, and the release
falls due at the quorum; otherwise, and in LEADING and FOLLOWING, it only leaves the queue. HOLD_LIMIT_EXPIRY (R142): the release falls
due. -/
def Obligations.ReleasesCounted : Prop :=
  ∀ s : State,
    (∀ o rest, s.gather.taking = .free → s.gather.queue = o :: rest → o.kind = .release →
      (s.moving = true → exec .releaseTaken s = .next { s with gather.queue := rest }) ∧
        ∀ h, s.play.state = .holding → s.follow.hold = some h →
          (h.due = false → 0 ≤ since o.time h.threshold → o.source ∉ h.sources →
            exec .releaseTaken s =
              .next
                { s with
                  gather.queue := rest
                  follow.hold :=
                    some
                      { h with
                        sum := h.sum + o.weight, sources := h.sources ++ [o.source]
                        due := decide (s.cfg.quorum ≤ h.sum + o.weight) } }) ∧
            ((h.due = true ∨ since o.time h.threshold < 0 ∨ o.source ∈ h.sources) →
              exec .releaseTaken s = .next { s with gather.queue := rest })) ∧
      ∀ h, s.play.state = .holding → s.follow.hold = some h → h.due = false → 0 ≤ since s.now h.limit →
        exec .holdLimitExpiry s = .next { s with follow.hold := some { h with due := true } }

/-- GATHER_OPEN (R89, R90, R97, R101): the gather of the first SUNG mark not yet begun opens, beside one that is open too, in LEADING and FOLLOWING
and, for a mark at or before the hold point, in HOLDING: with the half-width W_s, T(s) ± W_s as its window and 300 ticks more as its close expiry,
each neighbour term left out where there is no neighbour; it becomes the previous SUNG position, and pool members at or before its window end
leave. One whose expiry has passed closes at once. Nothing opens before its window start, beside two, or in HOLDING past the hold point.
GATHER_CLOSE_EXPIRY (R94): an open gather whose expiry has come is closed and handed over, its window the newest of the record; pool members before
the new stale boundary leave. -/
def Obligations.GathersOpenAndClose : Prop :=
  ∀ s : State, s.gather.taking = .free →
    (∀ (before : List Mark) (m : Mark) (rest : List Mark), s.inPlay = true → s.gather.opens.length < 2 →
      s.store.queue = before ++ m :: rest → m.sung = .unserved → (∀ g ∈ s.gather.opens, g.mark ≠ m.position) →
      (∀ x ∈ before, x.position ≤ m.position ∧ (x.sung = .unserved → ∃ g ∈ s.gather.opens, g.mark = x.position)) →
      let p := s.period
      let t := s.timeOf m.position
      let gapPrev := s.gather.previousSung.map (m.position - ·)
      let gapNext := (rest.find? fun x => decide (x.sung ≠ .absent ∧ m.position < x.position)).map (·.position - m.position)
      let cut (gap : Option Nat) (w : Nat) : Nat :=
        match gap with
        | some g => min w (g * p / 48)
        | none => w
      let w := cut gapNext (cut gapPrev (p * s.cfg.windowFactor / 16))
      let window : Window := ⟨addTicks t (-w), addTicks t w⟩
      let g : Gather := ⟨m.position, gapPrev, gapNext, window, addTicks t (w + 300), [], 0⟩
      let oldest := match s.gather.opens with | x :: _ => x.window.first | [] => window.first
      let boundary := match s.gather.opens with | x :: _ => x.window.first | [] => window.last
      let pool := s.gather.pool.filter fun x => decide (0 < since x.time window.last ∧ 0 ≤ since x.time oldest)
      ((∀ h, s.play.state = .holding → s.holdPoint = some h → m.position ≤ h) → 0 ≤ since s.now window.first →
        (since s.now g.expiry < 0 →
          exec .gatherOpen s =
            .next
              { s with
                gather := { s.gather with previousSung := some m.position, opens := s.gather.opens ++ [g], pool := pool } }) ∧
          (0 ≤ since s.now g.expiry →
            exec .gatherOpen s =
              .next
                { s with
                  gather :=
                    { s.gather with
                      previousSung := some m.position, taking := .close g
                      closed := (s.gather.closed ++ [window]).drop (s.gather.closed.length + 1 - 2)
                      pool := pool.filter fun x => decide (0 ≤ since x.time boundary) } })) ∧
        ((since s.now window.first < 0 ∨ ∃ h, s.play.state = .holding ∧ s.holdPoint = some h ∧ h < m.position) →
          exec .gatherOpen s = .next s)) ∧
      (2 ≤ s.gather.opens.length → exec .gatherOpen s = .next s) ∧
      ∀ (which : Fin 2) (g : Gather), s.inPlay = true → s.gather.opens[which.val]? = some g →
        s.gather.opens.Pairwise (fun a b => a.mark ≠ b.mark) → 0 ≤ since s.now g.expiry →
        let opens := s.gather.opens.eraseIdx which.val
        let boundary := match opens with | x :: _ => x.window.first | [] => g.window.last
        exec (.gatherCloseExpiry which) s =
          .next
            { s with
              gather :=
                { s.gather with
                  opens := opens, taking := .close g
                  closed := (s.gather.closed ++ [g.window]).drop (s.gather.closed.length + 1 - 2)
                  pool := s.gather.pool.filter fun x => decide (0 ≤ since x.time boundary) } }

/-! ## Following the beat (chapter 6) -/

/-- GATHER_CLOSE_TAKEN for a matched close, SLEW and RANGE masked (R108 to R110, R112, R72, R96, R124, R131, R133): the line passes through
the mark at its predicted time moved by the phase correction, with the period corrected in FOLLOWING alone, both within their limits;
confidence up by 1, misses 0; the weight of each PRESENT peer that took part moved by its residual; the culprit cleared when a member from
its station lies within P/16 of the mean; the mark's SUNG flag served. A re-time pass begins when an action is WAITING or ARMED (R103,
R158), and the windows and close expiries of the open gathers are computed afresh (R93; stated where the new line has not reached a BROADEN
mark). In HOLDING the line stays, and so do pass and windows. Under a PROVISIONAL TOP the line below rules again when the members lie nearer
to it, within its window; else the first close counts and the second confirms, the actions held for the slip freed. That residuals are
judged by the period the close has written (log 22), and that the confirm count is 0 under a TOP that has become ACTIVE (log 54), is the
model's choice. -/
def Obligations.MatchedCloseCorrects : Prop :=
  ∀ (g : Gather) (tag : Tag) (a : Anchor) (pushed : Option Nat) (h : Header) (s : State),
    s.gather.taking = .close g → 0 < g.sum → (g.members.map (·.weight)).sum = g.sum → g.members.Pairwise (fun x y => x.source ≠ y.source) →
    s.follow.slots[s.follow.top] = some ⟨tag, a, pushed⟩ → s.header = some h → s.masked .slew = true → s.masked .range = true →
      let t := a.timeOf g.mark
      let error (x : Anchor) : Int := roundDiv ((g.members.map fun m => (m.weight : Int) * since m.time (x.timeOf g.mark)).sum) g.sum
      let mean := error a
      let limited (limit : Nat) (x : Int) : Int := clampInt (-(limit : Int)) limit x
      let phase := if s.play.state = .following then roundDiv (mean * s.cfg.kp) 16 else roundDiv (mean * s.cfg.kp) 64
      let change := if s.play.state = .following then if s.follow.overrunPending then 0 else roundDiv (mean * s.cfg.ki) 256 else 0
      let phase' := limited (a.period / 8) phase
      let change' := limited (a.period / 32) change
      let wanted := (a.period : Int) + change'
      let period := (clampInt h.minPeriod h.maxPeriod wanted).toNat
      let line : Anchor := ⟨g.mark, addTicks t phase', period⟩
      let station (m : Observation) : Station := match m.source with | .own => s.startup.strap | .peer p => p
      let moved (u : State) : Prop :=
        u.passBegun ∧
          ((∀ x ∈ s.store.queue, x.broaden = .unserved → u.position < x.position) → u.anchorReported s.gather.opens s.store.queue) ∧
          u.follow.overrunPending = false ∧
          u.follow.sticky =
            (s.follow.sticky ||| (if phase' ≠ phase ∨ change' ≠ change then 2#7 else 0#7)) |||
              (if (period : Int) ≠ wanted then 1#7 else 0#7) ∧
          u.play =
            match s.play.state with
            | .leading =>
              if s.play.run = 0 then { s.play with run := 1 }
              else if s.play.leadLock then { s.play with run := 2 }
              else { s.play with run := 2, state := .following }
            | _ => s.play
      let kept (u : State) (period : Nat) : Prop :=
        u.follow.confidence = min 15 (s.follow.confidence + 1) ∧ u.follow.misses = 0 ∧ u.follow.change = none ∧
          u.follow.nextBeat = s.follow.nextBeat ∧ u.gather.taking = .free ∧ u.gather.queue = s.gather.queue ∧
          u.gather.closed = s.gather.closed ∧ (∀ x ∈ u.store.queue, x.position = g.mark → x.sung ≠ .unserved) ∧
          (∀ p q, s.follow.culprit = some (p, q) →
            ((∃ m ∈ g.members, station m = p ∧ (since m.time t - mean).natAbs ≤ period / 16) → u.follow.culprit = none) ∧
              ((∀ m ∈ g.members, station m = p → period / 16 < (since m.time t - mean).natAbs) →
                u.follow.culprit = s.follow.culprit)) ∧
          (s.follow.culprit = none → u.follow.culprit = none) ∧
          (∀ m ∈ g.members, ∀ q : Station, m.source = .peer q → (s.gather.peers[q]).present = true →
            let r := (since m.time t - mean).natAbs
            let w := (s.gather.peers[q]).weight
            u.gather.peers[q] =
              { s.gather.peers[q] with
                weight := if r ≤ period / 16 then min s.cfg.weightMax (w + 1) else if period / 8 < r then w - 1 else w }) ∧
          (∀ q : Station, ((s.gather.peers[q]).present = false ∨ ∀ m ∈ g.members, m.source ≠ .peer q) →
            u.gather.peers[q] = s.gather.peers[q]) ∧
          u.sched.channels = s.sched.channels ∧ u.out = s.out ∧ u.line = s.line ∧ u.fault = s.fault ∧
          u.front = s.front ∧ u.cue = s.cue ∧ u.clock = s.clock ∧ u.startup = s.startup
      (s.moving = true → tag = .active →
        ∃ u, exec .gatherCloseTaken s = .next u ∧ u.follow.slots[u.follow.top] = some ⟨.active, line, pushed⟩ ∧
          u.follow.top = s.follow.top ∧ u.sched.table = s.sched.table ∧ moved u ∧ kept u period) ∧
        (s.play.state = .holding →
          ∃ u, exec .gatherCloseTaken s = .next u ∧ u.ruling = some a ∧ u.follow.top = s.follow.top ∧
            u.follow.overrunPending = s.follow.overrunPending ∧ u.follow.sticky = s.follow.sticky ∧ u.play = s.play ∧
            u.sched = s.sched ∧ u.gather.opens = s.gather.opens ∧ kept u a.period) ∧
        ∀ (b : Anchor) (under : Option Nat), s.moving = true → tag = .provisional → s.store.marks.ended = false →
          s.store.notes.endReached = false → s.follow.slots[s.follow.top + 1] = some ⟨.fallback, b, under⟩ →
          s.follow.slots[s.follow.top + 2] = none → s.follow.slots[s.follow.top + 3] = none →
            let term (gap : Option Nat) (w : Nat) : Nat := match gap with | some su => min w (su * b.period / 48) | none => w
            let width := term g.gapNext (term g.gapPrev (b.period * s.cfg.windowFactor / 16))
            let nearer := (error b).natAbs < mean.natAbs ∧ (error b).natAbs ≤ width
            (nearer →
              ∃ u, exec .gatherCloseTaken s = .next u ∧ u.follow.top = s.follow.top + 1 ∧
                u.follow.slots[u.follow.top] = some ⟨.active, b, under⟩ ∧ u.follow.slots[s.follow.top] = none ∧
                u.follow.confirmCount = 0 ∧ moved u ∧ kept u period ∧
                ∀ (e : EntryNo) (x : Action), s.sched.table[e] = some x → x.heldFor .slip = true → (∃ key, x.kind = .noteOn key) →
                  u.sched.table[e] = some { x with state := .waiting, due := none }) ∧
              (¬nearer → s.follow.confirmCount = 0 →
                ∃ u, exec .gatherCloseTaken s = .next u ∧ u.follow.top = s.follow.top ∧
                  u.follow.slots[u.follow.top] = some ⟨.provisional, line, pushed⟩ ∧ u.follow.confirmCount = 1 ∧
                  u.follow.slots[s.follow.top + 1] = some ⟨.fallback, b, under⟩ ∧ u.sched.table = s.sched.table ∧ moved u ∧
                  kept u period) ∧
              (¬nearer → s.follow.confirmCount ≠ 0 →
                ∃ u, exec .gatherCloseTaken s = .next u ∧ u.follow.top = s.follow.top ∧
                  u.follow.slots[u.follow.top] = some ⟨.active, line, pushed⟩ ∧ u.follow.confirmCount = 0 ∧
                  u.follow.slots[s.follow.top + 1] = none ∧ moved u ∧ kept u period ∧
                  ∀ (e : EntryNo) (x : Action), s.sched.table[e] = some x →
                    (x.heldFor .slip = true → u.sched.table[e] = none) ∧ (x.heldFor .slip = false → u.sched.table[e] = some x))

/-- GATHER_CLOSE_TAKEN for a VOID close, VOID masked (R111, R112, R132, R130): no change of an ACTIVE line; confidence down by 2; in
FOLLOWING a miss, and at the third, with DIVERGE unmasked and reporting, LEADING with a FAULT frame that names no culprit where none is
recorded; in LEADING the run lost; a PROVISIONAL TOP popped, the line below ruling as ACTIVE again, with a re-time pass and the windows
afresh. That a VOID close without a pop starts no re-time pass and refreshes no window, since it changes no anchor, is the model's choice
(log 24), as is the confirm count of 0 under the line that has become ACTIVE (log 54). -/
def Obligations.VoidCloseTaken : Prop :=
  ∀ (g : Gather) (s : State), s.gather.taking = .close g → g.sum = 0 → s.masked .void = true →
    let served := serveMarks (fun m => if m.position == g.mark then { m with sung := m.sung.serve } else m) s.store.queue
    let follow : Follower :=
      { s.follow with confidence := s.follow.confidence - 2, sticky := s.follow.sticky ||| 4#7, change := none }
    let ended (t : State) : Host.Outcome State Fault Refusal := .next { t with gather.taking := .free, store.queue := served }
    (s.provisional = false →
      (s.play.state = .following → s.follow.misses < 2 →
        exec .gatherCloseTaken s = ended { s with follow := { follow with misses := s.follow.misses + 1 } }) ∧
        (s.play.state = .leading → exec .gatherCloseTaken s = ended { s with play.run := 0, follow := follow }) ∧
        (s.play.state = .following → s.follow.misses = 2 → s.masked .diverge = false → s.wouldReport 2 → s.follow.culprit = none →
          exec .gatherCloseTaken s =
            ended
              { s.withReport 2 none with
                play := { s.play with state := .leading, run := 0 }
                follow := { follow with misses := 0, sticky := follow.sticky ||| 0x20#7 } })) ∧
      (s.play.state = .holding → exec .gatherCloseTaken s = ended { s with follow := follow }) ∧
      ∀ (a b : Anchor) (pushed under : Option Nat), s.play.state = .leading →
        s.follow.slots[s.follow.top] = some ⟨.provisional, a, pushed⟩ → s.follow.slots[s.follow.top + 1] = some ⟨.fallback, b, under⟩ →
        s.follow.slots[s.follow.top + 2] = none → s.follow.slots[s.follow.top + 3] = none →
          ∃ t, exec .gatherCloseTaken s = .next t ∧ t.follow.top = s.follow.top + 1 ∧
            t.follow.slots[t.follow.top] = some ⟨.active, b, under⟩ ∧ t.follow.slots[s.follow.top] = none ∧ t.follow.confirmCount = 0 ∧
            t.follow.confidence = s.follow.confidence - 2 ∧ t.follow.nextBeat = s.follow.nextBeat ∧ t.gather.taking = .free ∧ t.passBegun ∧
            ((∀ x ∈ s.store.queue, x.broaden = .unserved → t.position < x.position) → t.anchorReported s.gather.opens s.store.queue) ∧
            (∀ (e : EntryNo) (x : Action), s.sched.table[e] = some x → x.heldFor .slip = true → (∃ key, x.kind = .noteOn key) →
              t.sched.table[e] = some { x with state := .waiting, due := none }) ∧
            t.out = s.out ∧ t.line = s.line ∧ t.fault = s.fault

/-- BEAT_EVENT (R113, R114, R116 to R118, R122, R177, R178) at a beat that is no section boundary and with no broadening: the line re-based at the
beat, moved and turned within P/32 toward the claims used, those of PRESENT peers in the same hymn, of confidence 4 at least, heard within 2P,
projected to within P/4 of the beat, SLEW and RANGE masked; the next beat; a PULSE offered with the beat's time before coupling, SUMMARY set for an
unmasked sticky flag; end of score stands once the beat has reached it, wherever coupling moves the line (R55, log 50); a re-time pass begun and
the open gathers' windows and close expiries afresh under the new line (R93, R103, R158); the swell stepped toward the ceiling, or to floor plus
the mean level's share of the range, or with no level the old target within the range. -/
def Obligations.BeatEventTaken : Prop :=
  ∀ (b : Nat) (slot : Slot) (h : Header) (plan : PlanEntry) (s : State), s.moving = true → s.follow.nextBeat = some b →
    s.follow.slots[s.follow.top] = some slot → s.header = some h → s.plan = some plan → 0 ≤ since s.now (s.timeOf (24 * b)) →
    boundaryAt s b = none → s.follow.broaden = false → (∀ m ∈ s.store.queue, m.broaden ≠ .unserved) → s.masked .slew = true →
    s.masked .range = true →
      let p := s.period
      let t := s.timeOf (24 * b)
      let used : List (Nat × Int × Nat) :=
        s.gather.peers.toList.filterMap fun q =>
          match q.present, q.claim with
          | true, some x =>
            let offset := since (x.beatTime + BitVec.ofInt 32 (((b : Int) - x.fields.beat) * x.fields.period)) t
            if s.loadedNumber = some x.fields.hymn ∧ 4 ≤ x.fields.confidence ∧ since s.now x.heard ≤ 2 * p ∧ offset.natAbs ≤ p / 4 then
              some (q.weight, offset, x.fields.period)
            else none
          | _, _ => none
      let total := (used.map fun c => c.1).sum
      let offset := roundDiv ((used.map fun c => (c.1 : Int) * c.2.1).sum) total
      let peers := roundDiv ((used.map fun c => (c.1 : Int) * c.2.2).sum) total
      let shift := clampInt (-(p / 32 : Nat)) (p / 32 : Nat) (roundDiv (offset * s.cfg.kc) 16)
      let period := (clampInt h.minPeriod h.maxPeriod (p + roundDiv ((peers - p) * s.cfg.kc) 64)).toNat
      ∃ u, exec .beatEvent s = .next u ∧
        u.follow.slots[u.follow.top] =
          some (if total = 0 then { slot with anchor := ⟨24 * b, t, p⟩ } else { slot with anchor := ⟨24 * b, addTicks t shift, period⟩ }) ∧
        u.follow.nextBeat = some (b + 1) ∧ u.follow.resyncPending = false ∧ u.follow.change = none ∧ u.play = s.play ∧
        u.anchorReported s.gather.opens s.store.queue ∧
        (∃ fields : PulseFields,
          u.line = { s.line with queue := (enqueue s.line.queue ⟨.pulse fields, t, 0, 0⟩).1 } ∧
            fields.beat = b ∧ fields.period = u.period ∧ fields.hymn = s.loadedNumber.getD 0 ∧ fields.confidence = s.follow.confidence ∧
            fields.tempo = (if s.play.state = .following then .following else .leading) ∧ fields.resync = s.follow.resyncPending ∧
            fields.leadLock = s.play.leadLock ∧ fields.listening = s.ownLevel.isSome ∧ fields.level = s.ownLevel.getD 0 ∧
            fields.fault = decide (s.fault.latches ≠ 0) ∧ fields.culprit = s.follow.culprit.map (·.1) ∧
            fields.summary = decide (∃ i : Fin 7, s.follow.sticky.getLsbD i.val = true ∧ s.cfg.masks.getLsbD i.val = false)) ∧
        (let levels : List (Nat × Nat) :=
            (match s.ownLevel with | some l => [(s.cfg.selfWeight, l)] | none => []) ++
              s.gather.peers.toList.filterMap fun q =>
                match q.present, q.claim with
                | true, some x =>
                  if s.loadedNumber = some x.fields.hymn ∧ x.fields.listening = true ∧ since s.now x.heard ≤ 2 * u.period then
                    some (q.weight, x.fields.level)
                  else none
                | _, _ => none
         let weight := (levels.map (·.1)).sum
         let level := (roundDiv ((levels.map fun x => x.1 * x.2).sum : Nat) weight).toNat
         let slew := match plan.mode with | .fixed | .quick => 32 | .steady => 12 | .slow => 4
         u.out.target =
            (if plan.mode = .fixed then plan.ceiling
             else if weight = 0 then clampNat plan.floor plan.ceiling s.out.target
             else plan.floor + (roundDiv (level * (plan.ceiling - plan.floor) : Nat) 255).toNat) ∧
          u.out =
            { s.out with
              target := u.out.target
              swell :=
                if s.out.swell ≤ u.out.target then min u.out.target (s.out.swell + slew) else max u.out.target (s.out.swell - slew) }) ∧
        u.sched.table = s.sched.table ∧ u.sched.channels = s.sched.channels ∧
        u.store =
          { s.store with notes := { s.store.notes with inHand := u.store.notes.inHand, endPassed := u.store.notes.endPassed } } ∧
        (s.store.notes.finished = true → s.store.notes.endReached = false → 24 * (h.verseStart h.verses + h.length) ≤ 24 * b →
          u.store.notes.endPassed = true) ∧
        (s.store.notes.endPassed = true → u.store.notes.endPassed = true) ∧ u.fault = s.fault ∧
        u.gather.peers = s.gather.peers ∧ u.gather.queue = s.gather.queue

/-- BEAT_EVENT at a section boundary (R71): the verse current, LEADING with the run and the lead lock cleared, the broaden flag cleared, the period
scaled within the hymn's limits. BROADEN_MARK_REACHED (R115): the broaden flag set and the mark's flag served; the beat event after it
lengthens the period by P/64; a beat event that is due at or before the mark goes first (log 44). That a beat beyond two section starts takes
only the next section is the model's choice (log 20). -/
def Obligations.SectionsAndBroadening : Prop :=
  ∀ (b : Nat) (slot : Slot) (h : Header) (s : State), s.moving = true → s.follow.nextBeat = some b →
    s.follow.slots[s.follow.top] = some slot → s.header = some h → s.masked .range = true →
      (∀ (v : Nat) (hymn : Hymn) (plan : PlanEntry), 0 ≤ since s.now (s.timeOf (24 * b)) → s.store.hymn = some hymn → s.play.sect = some v →
        v < h.verses → h.sectionStart (v + 1) ≤ b → hymn.planOf (v + 1) = some plan → (∀ m ∈ s.store.queue, m.broaden ≠ .unserved) →
        (∀ q : Station, (s.gather.peers[q]).claim = none) →
        ∃ u, exec .beatEvent s = .next u ∧ u.play = { s.play with state := .leading, sect := some (v + 1), run := 0, leadLock := false } ∧
          u.follow.broaden = false ∧ u.follow.nextBeat = some (b + 1) ∧
          u.ruling =
            some ⟨24 * b, s.timeOf (24 * b), (clampInt h.minPeriod h.maxPeriod (roundDiv (s.period * plan.scale) 16)).toNat⟩ ∧
          u.sched.table = s.sched.table ∧ u.anchorReported s.gather.opens s.store.queue ∧ u.fault = s.fault) ∧
      (0 ≤ since s.now (s.timeOf (24 * b)) → boundaryAt s b = none → s.follow.broaden = true →
        (∀ q : Station, (s.gather.peers[q]).claim = none) →
        ∃ u, exec .beatEvent s = .next u ∧ u.play = s.play ∧ u.follow.broaden = true ∧
          u.ruling =
            some ⟨24 * b, s.timeOf (24 * b), (clampInt h.minPeriod h.maxPeriod (s.period + roundDiv s.period 64)).toNat⟩ ∧
          u.anchorReported s.gather.opens u.store.queue) ∧
      ∀ (pre post : List Mark) (m : Mark), s.store.queue = pre ++ m :: post → m.broaden = .unserved → (∀ x ∈ pre, x.broaden ≠ .unserved) →
        (∀ x ∈ post, m.position < x.position) → (m.position : Int) ≤ s.position →
        (24 * b ≤ m.position → 0 ≤ since s.now (s.timeOf (24 * b)) → exec .broadenMarkReached s = .next s) ∧
        ((m.position < 24 * b ∨ since s.now (s.timeOf (24 * b)) < 0) →
        ∃ u, exec .broadenMarkReached s = .next u ∧ u = { s with follow.broaden := true, store.queue := u.store.queue } ∧
          (∀ x ∈ u.store.queue, x.position = m.position → x.broaden ≠ .unserved) ∧
          ∀ x ∈ post, x.spent = false → x ∈ u.store.queue)

/-! ## Hypotheses and holds (chapter 7) -/

/-- CLUSTER_TAKEN (R129, R135, R136, R144, R113). In LEADING and FOLLOWING: with a SUNG mark ahead of the cluster, the first unserved one whose
window start T(s) - W_s lies after the cluster's time, a PROVISIONAL line through that mark at the cluster's time, with the ruling period, over the
line that ruled, which becomes FALLBACK; the next beat taken on; every live NOTE_ON below the mark HELD with reason SLIP. With no such mark the
cluster is dropped. In HOLDING the hold is released at now, and the first unserved SUNG mark after the hold point takes the place of that mark,
over the line of the release; with none the release stands alone. A re-time pass begins and the windows of the open gathers are computed afresh
(R93, R103, R158). With a push the open gathers of earlier marks leave, and the pushed mark's gather, when it was not open, opens under the new
line: the cluster's members, one from each source, join it in rising event time, ties by station number, and at the quorum it closes at once, its
window the newest of the record (R99). That a mark whose gather has not opened takes the stored previous SUNG position for its distance before is
the model's choice (log 21). -/
def Obligations.ClusterTaken : Prop :=
  ∀ (c : Cluster) (s : State), s.gather.taking = .cluster c →
    let station (x : Observation) : Station := match x.source with | .own => s.startup.strap | .peer p => p
    let joinsBefore (x y : Observation) : Prop :=
      x.source ≠ y.source ∧ (0 < since y.time x.time ∨ x.time = y.time ∧ station x < station y)
    let adopted (m : Mark) (t : State) : Prop :=
      t.passBegun ∧ (∀ o ∈ t.gather.opens, m.position ≤ o.mark) ∧
        (∀ o ∈ s.gather.opens, m.position < o.mark → o.underLine t t.store.queue ∈ t.gather.opens) ∧
        ∀ members : List Observation, (∀ o ∈ s.gather.opens, o.mark < m.position) → members.Perm c.members → members.Pairwise joinsBefore →
          let gapPrev := s.gather.previousSung.map (m.position - ·)
          let g := Gather.underLine t t.store.queue ⟨m.position, gapPrev, none, ⟨0, 0⟩, 0, members, (members.map (·.weight)).sum⟩
          t.gather.previousSung = some m.position ∧
            (g.sum < s.cfg.quorum →
              t.gather.opens = [g] ∧ t.gather.taking = .free ∧ (s.gather.opens = [] → t.gather.closed = s.gather.closed)) ∧
            (s.cfg.quorum ≤ g.sum →
              t.gather.opens = [] ∧ t.gather.taking = .close g ∧
                (s.gather.opens = [] →
                  t.gather.closed = (s.gather.closed ++ [g.window]).drop (s.gather.closed.length + 1 - 2)))
    (s.moving = true →
      let term (gap : Option Nat) (w : Nat) : Nat := match gap with | some su => min w (su * s.period / 48) | none => w
      let gapPrev (x : Mark) : Option Nat :=
        match s.gather.opens.find? fun g => g.mark == x.position with
        | some g => g.gapPrev
        | none => s.gather.previousSung.map fun before => x.position - before
      let gapNext (x : Mark) : Option Nat :=
        (s.store.queue.find? fun y => y.sung != .absent && decide (x.position < y.position)).map fun y => y.position - x.position
      let width (x : Mark) : Nat := term (gapNext x) (term (gapPrev x) (s.period * s.cfg.windowFactor / 16))
      let ahead (x : Mark) : Prop := x.sung = .unserved ∧ 0 < since (addTicks (s.timeOf x.position) (-width x)) c.time
      ((∀ x ∈ s.store.queue, ¬ahead x) → exec .clusterTaken s = .next { s with gather.taking := .free }) ∧
        ∀ (pre post : List Mark) (m : Mark) (slot : Slot) (above : Fin 4), s.store.queue = pre ++ m :: post → ahead m →
          (∀ x ∈ pre, ¬ahead x) → s.follow.slots[s.follow.top] = some slot →
          above + 1 = s.follow.top → s.follow.slots[above] = none → s.store.notes.endReached = false →
          (∀ x ∈ s.store.queue, x.hold ≠ .unserved) → s.follow.watch = none → s.sched.barrier = none →
            ∃ t, exec .clusterTaken s = .next t ∧ t.follow.top = above ∧
              t.follow.slots[above] = some ⟨.provisional, ⟨m.position, c.time, slot.anchor.period⟩, some m.position⟩ ∧
              t.follow.slots[s.follow.top] = some { slot with tag := .fallback } ∧ t.follow.confirmCount = 0 ∧ t.follow.change = none ∧
              t.follow.nextBeat = s.follow.nextBeat.map (fun b => max b ((m.position + 23) / 24)) ∧
              t.follow.confidence = s.follow.confidence ∧ t.follow.misses = s.follow.misses ∧ t.slipPosition = some m.position ∧ adopted m t ∧
              (∀ x ∈ t.store.queue, x.position < m.position → x.sung ≠ .unserved) ∧
              (∀ (e : EntryNo) (a : Action), s.sched.table[e] = some a → a.live = true → (∃ key, a.kind = .noteOn key) →
                a.position < m.position → t.sched.table[e] = some { a with state := .held .slip, due := none }) ∧
              t.out.counts = s.out.counts ∧ t.play = s.play ∧ t.line = s.line ∧ t.front = s.front ∧ t.clock = s.clock) ∧
      ∀ (h : HoldRecord) (slot : Slot) (above : Fin 4), s.play.state = .holding → s.follow.hold = some h →
        s.follow.slots[s.follow.top] = some slot → slot.tag = .active → above + 1 = s.follow.top → s.follow.slots[above] = none →
        s.store.notes.endReached = false → (∀ x ∈ s.store.queue, x.hold ≠ .unserved) → s.sched.barrier = some h.point →
        (∀ (e : EntryNo) (x : Action), s.sched.table[e] = some x → x.state = .waiting → h.point ≤ x.position → x.due = none) →
          let released (t : State) : Prop :=
            t.follow.hold = none ∧ t.play.returnState = none ∧ t.gather.playStart = s.now ∧ t.sched.barrier = none ∧
              (s.play.returnState = some .following → t.play.state = .following ∧ t.play.run = s.play.run) ∧
              (s.play.returnState = some .leading → t.play.state = .leading ∧ t.play.run = 0) ∧
              t.follow.confidence = s.follow.confidence ∧ t.out.counts = s.out.counts ∧ t.line = s.line ∧ t.clock = s.clock
          ((∀ x ∈ s.store.queue, x.sung = .unserved → x.position ≤ h.point) →
            ∃ t, exec .clusterTaken s = .next t ∧ released t ∧ t.gather.taking = .free ∧
              t.ruling = some ⟨h.point, s.now, slot.anchor.period⟩ ∧ t.follow.top = s.follow.top ∧
              t.anchorReported s.gather.opens t.store.queue ∧
              t.follow.nextBeat = s.follow.nextBeat ∧
              ∀ (e : EntryNo) (x : Action), s.sched.table[e] = some x → x.heldFor .hold = true →
                t.sched.table[e] = some { x with state := .waiting, due := none }) ∧
            ∀ (pre post : List Mark) (m : Mark), s.store.queue = pre ++ m :: post → m.sung = .unserved → h.point < m.position →
              (∀ x ∈ pre, x.sung = .unserved → x.position ≤ h.point) →
              ∃ t, exec .clusterTaken s = .next t ∧ released t ∧ t.follow.top = above ∧
                t.follow.slots[above] = some ⟨.provisional, ⟨m.position, c.time, slot.anchor.period⟩, some m.position⟩ ∧
                t.follow.slots[s.follow.top] = some ⟨.fallback, ⟨h.point, s.now, slot.anchor.period⟩, slot.pushed⟩ ∧
                t.follow.nextBeat = s.follow.nextBeat.map (fun b => max b ((m.position + 23) / 24)) ∧ adopted m t ∧
                (∀ x ∈ t.store.queue, x.position < m.position → x.sung ≠ .unserved) ∧
                ∀ (e : EntryNo) (x : Action), s.sched.table[e] = some x → x.heldFor .hold = true → (∃ key, x.kind = .noteOn key) →
                  x.position < m.position → t.sched.table[e] = some { x with state := .held .slip, due := none }

/-- HOLD_POINT_REACHED and HOLD_RELEASE under an ACTIVE TOP (R139, R143, R74, R162, R146). The hold: the hold record, the line based at the hold
point, HOLDING with the return state, every live action at or after the point HELD, the barrier there; the open gathers of marks after the point
are withdrawn, neither closed nor recorded, their marks unserved in the queue, the previous SUNG position that of the gather before them (R101, log
34). The release at now: the line through the hold point at now, the return state, the play start time now, the actions returned to WAITING
untimed. After either a re-time pass begins and the windows and close expiries of the open gathers are computed afresh (R93, R103, R158). -/
def Obligations.HoldTakenAndReleased : Prop :=
  ∀ (a : Anchor) (pushed : Option Nat) (s : State), s.follow.slots[s.follow.top] = some ⟨.active, a, pushed⟩ →
    s.store.notes.endReached = false →
      (∀ (w : Watch) (pre post : List Mark) (m : Mark), s.moving = true → s.follow.watch = some w → 0 ≤ since s.now (s.timeOf w.point) →
        s.store.queue = pre ++ m :: post → m.position = w.mark → (∀ x ∈ pre, x.position ≠ w.mark) →
        (∀ x ∈ s.store.queue, x.broaden ≠ .unserved) →
        ∃ t, exec .holdPointReached s = .next t ∧
          t.follow.hold =
            some ⟨w.mark, w.point, s.timeOf w.mark, addTicks (s.timeOf w.point) (m.holdBeats * a.period), 0, [], false⟩ ∧
          t.ruling = some ⟨w.point, s.timeOf w.point, a.period⟩ ∧ t.position = w.point ∧
          t.play =
            { s.play with
              state := .holding, returnState := some (if s.play.state = .following then .following else .leading) } ∧
          t.sched.barrier = some w.point ∧ t.follow.nextBeat = s.follow.nextBeat ∧ t.follow.confidence = s.follow.confidence ∧
          (∀ (e : EntryNo) (x : Action), s.sched.table[e] = some x → x.live = true → w.point ≤ x.position →
            t.sched.table[e] = some { x with state := .held .hold, due := none }) ∧
          (∀ x ∈ t.store.queue, x.position = w.mark → x.hold ≠ .unserved) ∧ t.out.counts = s.out.counts ∧ t.line = s.line ∧ t.fault = s.fault ∧
          (∀ x ∈ s.store.queue, x.sung = .unserved → x.position ≠ w.mark → x ∈ t.store.queue) ∧
          ∀ before after, s.gather.opens = before ++ after → (∀ o ∈ before, o.mark ≤ w.point) → (∀ o ∈ after, w.point < o.mark) →
            t.anchorReported before t.store.queue ∧ t.gather.closed = s.gather.closed ∧ t.gather.taking = s.gather.taking ∧
              t.gather.queue = s.gather.queue ∧
              t.gather.previousSung =
                match after with
                | [] => s.gather.previousSung
                | o :: _ => o.gapPrev.map (o.mark - ·)) ∧
      ∀ h : HoldRecord, s.play.state = .holding → s.follow.hold = some h → h.due = true → s.sched.barrier = some h.point →
        (∀ (e : EntryNo) (x : Action), s.sched.table[e] = some x → x.state = .waiting → h.point ≤ x.position → x.due = none) →
        (∀ x ∈ s.store.queue, x.hold ≠ .unserved) →
        ∃ t, exec .holdRelease s = .next t ∧ t.follow.hold = none ∧ t.ruling = some ⟨h.point, s.now, a.period⟩ ∧
          t.play.returnState = none ∧ t.anchorReported s.gather.opens t.store.queue ∧
          (s.play.returnState = some .following → t.play.state = .following ∧ t.play.run = s.play.run) ∧
          (s.play.returnState = some .leading → t.play.state = .leading ∧ t.play.run = 0) ∧ t.gather.playStart = s.now ∧
          t.sched.barrier = none ∧ t.follow.nextBeat = s.follow.nextBeat ∧ t.follow.confidence = s.follow.confidence ∧
          (∀ (e : EntryNo) (x : Action), s.sched.table[e] = some x → x.heldFor .hold = true →
            t.sched.table[e] = some { x with state := .waiting, due := none }) ∧
          t.out.counts = s.out.counts ∧ t.line = s.line ∧ t.fault = s.fault

/-! ## The action table (chapter 8) -/

/-- RETIME_VISIT (R150, R153, R158, R159): the next action of the pass takes its due time under the ruling line. A WAITING one beyond the horizon,
barred, or in want of a channel, waits with it; an eligible one within the horizon arms on the lowest-numbered FREE channel. An ARMED one
beyond the horizon gives its channel up and waits, and one within it has its channel's expiry replaced. Eligible and due at or before now, either
fires at once, an ARMED one giving up its channel: a NOTE_ON beyond the late limit is dropped with its NOTE_OFF and LATE raised, within it its
key's count rises and its NOTE_OFF is FIRED with the floor 100 ticks after the due time; a NOTE_OFF lowers the count; a STOP pulses its coil on the
lowest-numbered FREE channel. A pass with no action left ends. ACTION_ARM (R152): the action within the horizon takes the lowest-numbered FREE
channel, with its due time as expiry. -/
def Obligations.PassAndArming : Prop :=
  ∀ s : State, s.store.notes.endReached = false →
    (∀ (cursor : Cursor) (e : EntryNo) (x : Action) (due : Time), s.sched.pass = some cursor → nextVisit s.sched cursor = some e →
      s.sched.table[e] = some x → s.rulesDue x due →
        let visited (table : Vector (Option Action) 64) (channels : Vector Channel 8) (out : OutputStage) (u : State) : Prop :=
          ∃ t, exec .retimeVisit s = .next t ∧ (t.sched.pass = none ∨ t.sched.pass = some (.after x.position e)) ∧
            t = { u with sched := { s.sched with table := table, channels := channels, pass := t.sched.pass }, out := out }
        let timed := s.sched.table.set e (some { x with due := some due })
        let gone := s.sched.table.set e none
        let barred : Prop := (∃ b, s.sched.barrier = some b ∧ b ≤ x.position) ∨ ∃ key p, x.kind = .noteOff key ∧ x.pair = .entry p
        let alone : Prop := ∀ f, f ≠ e → waitsForChannel s f = false
        (x.state = .waiting → 200 < since due s.now →
          ∃ t, exec .retimeVisit s = .next t ∧ t.sched.table[e] = some { x with due := some due } ∧ t.out.counts = s.out.counts ∧
            (t.sched.pass = none ∨ t.sched.pass = some (.after x.position e))) ∧
          (x.state = .waiting → alone →
            (barred ∨ 200 < since due s.now ∨
                (0 < since due s.now ∨ x.isStop = true) ∧ ∀ c : ChannelNo, s.sched.channels[c] ≠ .free) →
            visited timed s.sched.channels s.out s) ∧
          (∀ c, x.state = .waiting → alone → ¬barred → 0 < since due s.now → since due s.now ≤ 200 → s.sched.channels[c] = .free →
            (∀ b, b < c → s.sched.channels[b] ≠ .free) →
            visited (s.sched.table.set e (some { x with state := .armed c, due := some due }))
              (s.sched.channels.set c (.waiting e due)) s.out s) ∧
          (∀ ch old, x.state = .armed ch → s.sched.channels[ch] = .waiting e old → 200 < since due s.now →
            (∃ t, exec .retimeVisit s = .next t ∧ t.sched.table[e] = some { x with state := .waiting, due := some due } ∧
              t.sched.channels[ch] ≠ s.sched.channels[ch] ∧ t.out.counts = s.out.counts) ∧
            (alone →
              visited (s.sched.table.set e (some { x with state := .waiting, due := some due })) (s.sched.channels.set ch .free)
                s.out s)) ∧
          (∀ ch, x.state = .armed ch → 0 < since due s.now → since due s.now ≤ 200 →
            visited timed (s.sched.channels.set ch (.waiting e due)) s.out s) ∧
          ∀ freed : Vector Channel 8, alone → 0 ≤ since s.now due →
            (x.state = .waiting ∧ ¬barred ∧ freed = s.sched.channels ∨
              ∃ ch old, x.state = .armed ch ∧ s.sched.channels[ch] = .waiting e old ∧ freed = s.sched.channels.set ch .free) →
            (∀ (key : Key) (off : EntryNo) (y : Action), x.kind = .noteOn key → x.pair = .entry off → off ≠ e →
              s.sched.table[off] = some y → y.kind = .noteOff key → y.pair = .entry e → y.state = .waiting →
              (∀ d, y.due = some d → 200 < since d s.now) →
              ((s.cfg.lateLimit : Int) < since s.now due → s.wouldReport 3 →
                visited (gone.set off none) freed s.out (s.withReport 3 none)) ∧
                (since s.now due ≤ s.cfg.lateLimit → s.out.counts[key] < 15 →
                  visited (gone.set off (some { y with pair := .fired (due + 100) })) freed
                    { s.out with counts := s.out.counts.set key (s.out.counts[key] + 1) } s)) ∧
              (∀ (key : Key) (floor : Time), x.kind = .noteOff key → x.pair = .fired floor →
                visited gone freed { s.out with counts := s.out.counts.set key (s.out.counts[key] - 1) } s) ∧
              ∀ (stop : StopNo) (coil : Coil) (c : ChannelNo), x.kind = .stop stop coil → freed[c] = .free →
                (∀ b, b < c → freed[b] ≠ .free) →
                let ends := addTicks s.now s.cfg.stopPulse
                visited gone (freed.set c (.pulsing ends)) (s.out.withPulse stop coil ends) s) ∧
      (∀ cursor, s.sched.pass = some cursor → nextVisit s.sched cursor = none → exec .retimeVisit s = .next { s with sched.pass := none }) ∧
      ∀ (e : EntryNo) (x : Action) (due : Time) (ch : ChannelNo), s.sched.table[e] = some x → x.state = .waiting → x.due = some due →
        0 < since due s.now → since due s.now ≤ 200 → (∀ b, s.sched.barrier = some b → x.position < b) →
        (∀ key p, x.kind = .noteOff key → x.pair ≠ .entry p) → s.sched.channels[ch] = .free →
        (∀ d, d < ch → s.sched.channels[d] ≠ .free) → (∀ f, f ≠ e → waitsForChannel s f = false) →
          exec (.actionArm e) s =
            .next
              { s with
                sched :=
                  { s.sched with
                    table := s.sched.table.set e (some { x with state := .armed ch })
                    channels := s.sched.channels.set ch (.waiting e due) } }

/-- CHANNEL_EXPIRY (R154 to R156): a NOTE_ON raises its key's hold count and leaves its NOTE_OFF FIRED with the floor 100 ticks on, or at a count
of 15 is dropped with it and SCORE reported; a NOTE_OFF lowers the count; a STOP starts a coil pulse on its channel and moves the stop image.
STOP_PULSE_END frees the channel. -/
def Obligations.ChannelsFire : Prop :=
  ∀ (ch : ChannelNo) (s : State), s.store.notes.endReached = false →
    (∀ (e : EntryNo) (x : Action) (expiry : Time), s.sched.channels[ch] = .waiting e expiry → 0 ≤ since s.now expiry →
      s.sched.table[e] = some x → x.state = .armed ch →
      (∀ (key : Key) (off : EntryNo) (y : Action), x.kind = .noteOn key → x.pair = .entry off → off ≠ e → s.sched.table[off] = some y →
        y.kind = .noteOff key → y.pair = .entry e → y.state = .waiting → (∀ d, y.due = some d → 200 < since d s.now) →
        (s.out.counts[key] < 15 →
          ∃ t, exec (.channelExpiry ch) s = .next t ∧ t.sched.table[e] = none ∧
            t.sched.table[off] = some { y with pair := .fired (addTicks expiry 100) } ∧
            t.out.counts = s.out.counts.set key (s.out.counts[key] + 1) ∧ t.fault = s.fault ∧ t.line = s.line ∧ t.follow = s.follow) ∧
          (s.out.counts[key] = 15 → s.wouldReport 4 →
            ∃ t, exec (.channelExpiry ch) s = .next t ∧ t.sched.table[e] = none ∧ t.sched.table[off] = none ∧
              t.out.counts = s.out.counts ∧ t.fault = (s.withReport 4 none).fault ∧ t.line = (s.withReport 4 none).line)) ∧
        (∀ key : Key, x.kind = .noteOff key →
          ∃ t, exec (.channelExpiry ch) s = .next t ∧ t.sched.table[e] = none ∧
            t.out.counts = s.out.counts.set key (s.out.counts[key] - 1) ∧ t.fault = s.fault ∧ t.line = s.line) ∧
        ∀ (stop : StopNo) (coil : Coil), x.kind = .stop stop coil → (∀ f, f ≠ e → waitsForChannel s f = false) →
          let ends := addTicks s.now s.cfg.stopPulse
          exec (.channelExpiry ch) s =
            .next
              { s with
                sched :=
                  { s.sched with table := s.sched.table.set e none, channels := s.sched.channels.set ch (.pulsing ends) }
                out := s.out.withPulse stop coil ends }) ∧
      ∀ ends, s.sched.channels[ch] = .pulsing ends → 0 ≤ since s.now ends → (∀ f, waitsForChannel s f = false) →
        exec (.stopPulseEnd ch) s = .next { s with sched.channels := s.sched.channels.set ch .free }

/-- DUE_TIME_PASSED_WAITING (R153, R155): an eligible NOTE_ON whose due time has passed by no more than the late limit fires; beyond it, it is dropped
with its NOTE_OFF and LATE reported; a NOTE_OFF fires however late; an action behind the barrier, and a NOTE_OFF whose NOTE_ON is still in
the table, do nothing (R151). -/
def Obligations.LateActions : Prop :=
  ∀ (e : EntryNo) (x : Action) (due : Time) (s : State), s.store.notes.endReached = false → s.sched.table[e] = some x →
    x.state = .waiting → x.due = some due → 0 ≤ since s.now due →
      ((∃ b, s.sched.barrier = some b ∧ b ≤ x.position) → exec (.dueTimePassedWaiting e) s = .next s) ∧
        (∀ key p, x.kind = .noteOff key → x.pair = .entry p → exec (.dueTimePassedWaiting e) s = .next s) ∧
        ((∀ b, s.sched.barrier = some b → x.position < b) →
          (∀ (key : Key) (off : EntryNo) (y : Action), x.kind = .noteOn key → x.pair = .entry off → off ≠ e →
            s.sched.table[off] = some y → y.kind = .noteOff key → y.pair = .entry e → y.state = .waiting →
            (∀ d, y.due = some d → 200 < since d s.now) →
            ((s.cfg.lateLimit : Int) < since s.now due → s.wouldReport 3 →
              ∃ t, exec (.dueTimePassedWaiting e) s = .next t ∧ t.sched.table[e] = none ∧ t.sched.table[off] = none ∧
                t.out.counts = s.out.counts ∧ t.fault = (s.withReport 3 none).fault ∧ t.line = (s.withReport 3 none).line) ∧
              (since s.now due ≤ s.cfg.lateLimit → s.out.counts[key] < 15 →
                ∃ t, exec (.dueTimePassedWaiting e) s = .next t ∧ t.sched.table[e] = none ∧
                  t.sched.table[off] = some { y with pair := .fired (addTicks due 100) } ∧
                  t.out.counts = s.out.counts.set key (s.out.counts[key] + 1) ∧ t.fault = s.fault ∧ t.line = s.line)) ∧
            ∀ (key : Key) (floor : Time), x.kind = .noteOff key → x.pair = .fired floor →
              ∃ t, exec (.dueTimePassedWaiting e) s = .next t ∧ t.sched.table[e] = none ∧
                t.out.counts = s.out.counts.set key (s.out.counts[key] - 1) ∧ t.fault = s.fault ∧ t.line = s.line)

/-! ## Valves, stops and swell (chapter 9) -/

/-- The valve image and the output enable (R169, R170, R172, R174): a key's bit is set while its hold count is above 0, a coil's while its output is
set, all 0 while the own cutoff is asserted, the keys also in SILENCED and HALTED; the output enable asserts on a released PLAY station that
is not HALTED and whose cutoff pin is not asserted. Until the configuration read ends the record has PLAY clear, and that the output enable is
off then is the model's choice (log 47). -/
def Obligations.ValveImageBits : Prop :=
  ∀ s : State,
    (∀ key : Key,
      s.valveImage.getLsbD key.val =
        (decide (0 < s.out.counts[key]) && !s.out.cutoff.asserted && s.play.state != .silenced && s.play.state != .halted)) ∧
      (∀ stop : StopNo, s.valveImage.getLsbD (64 + stop.val) = ((s.out.onCoils[stop]).isSome && !s.out.cutoff.asserted)) ∧
      (∀ stop : StopNo, s.valveImage.getLsbD (80 + stop.val) = ((s.out.offCoils[stop]).isSome && !s.out.cutoff.asserted)) ∧
      (s.outputEnable = true ↔ s.running = true ∧ s.cfg.play = true ∧ s.play.state ≠ .halted ∧ s.out.cutoff.pin = false)

/-- VALVE_FRAME_START and VALVE_FRAME_LATCH (R170, R171): every 10 ticks a PLAY station copies the valve image into a frame; at its latch
the bits returned are compared with the frame before it, a match clears the mismatch run and report, a first or second mismatch is counted,
and the third in a row raises VALVE, which silences the station by default (R182), but once only until a frame matches (R171). The frame
latched is the one the next is compared with. During the valve loop check (R199) each of its comparisons that matches counts, the last one
ends it, and the first mismatch fails it: VALVE is raised unless the report already reads reported, the silencing recorded until full start
ends; with no other check running the off-pulses begin. -/
def Obligations.ValveFrames : Prop :=
  ∀ s : State,
    (s.configured = true → s.cfg.play = true → s.out.frame = none → 10 ≤ since s.now s.out.frameStart →
      exec .valveFrameStart s = .next { s with out := { s.out with frame := some s.valveImage, frameStart := s.now } }) ∧
      ∀ (frame returned : BitVec 96), s.out.frame = some frame →
        (s.out.sent = none → exec (.valveFrameLatch returned) s = .next { s with out := { s.out with frame := none, sent := some frame } }) ∧
          (s.isHalted = true →
            exec (.valveFrameLatch returned) s = .next { s with out := { s.out with frame := none, sent := some frame } }) ∧
          (∀ sent k, s.out.sent = some sent → s.isHalted = false → s.startup.valveCheck = some k →
            let out : OutputStage := { s.out with frame := none, sent := some frame }
            let matched : OutputStage := { out with mismatchRun := 0, mismatchReported := false }
            (returned = sent → 2 ≤ k →
              exec (.valveFrameLatch returned) s = .next { s with out := matched, startup.valveCheck := some (k - 1) }) ∧
              (returned = sent → k ≤ 1 → s.startup.soundCheck = true →
                exec (.valveFrameLatch returned) s = .next { s with out := matched, startup.valveCheck := none }) ∧
              (returned = sent → k ≤ 1 → s.startup.soundCheck = false → s.startup.step = .checks → s.cfg.play = true →
                let ends := addTicks s.now s.cfg.stopPulse
                exec (.valveFrameLatch returned) s =
                  .next
                    { s with
                      out := { matched with offCoils := Vector.replicate 16 (some ends) }
                      startup := { s.startup with valveCheck := none, step := .pulses, pulsesEnd := ends } }) ∧
              (returned ≠ sent → s.startup.soundCheck = true → s.out.mismatchRun < 2 →
                (s.out.mismatchReported = true →
                  exec (.valveFrameLatch returned) s =
                    .next { s with out := { out with mismatchRun := s.out.mismatchRun + 1 }, startup.valveCheck := none }) ∧
                  (s.out.mismatchReported = false → s.cfg.reactions[(7 : FaultNo)] = .silence → s.latched 7 = false →
                    s.fault.silencing = none → s.play.state = .starting → s.running = true → s.line.queue.length < 8 →
                    exec (.valveFrameLatch returned) s =
                      .next
                        { s with
                          out := { out with mismatchRun := s.out.mismatchRun + 1, mismatchReported := true }
                          startup := { s.startup with valveCheck := none, silencingRecorded := true }
                          line.queue := s.line.queue ++ [⟨.fault 7 .silence none 0, s.now, 0, s.fault.nextTag⟩]
                          fault :=
                            { s.fault with
                              latches := s.fault.latches ||| 128#8, nextTag := s.fault.nextTag + 1
                              silencing := some s.fault.nextTag } }))) ∧
          ∀ sent, s.out.sent = some sent → s.isHalted = false → s.startup.step = .done → s.startup.valveCheck = none →
            (returned = sent →
              exec (.valveFrameLatch returned) s =
                .next
                  { s with
                    out :=
                      { s.out with frame := none, sent := some frame, mismatchRun := 0, mismatchReported := false } }) ∧
              (returned ≠ sent → s.out.mismatchRun < 2 →
                exec (.valveFrameLatch returned) s =
                  .next
                    { s with out := { s.out with frame := none, sent := some frame, mismatchRun := s.out.mismatchRun + 1 } }) ∧
              (returned ≠ sent → s.out.mismatchRun = 2 → s.out.mismatchReported = true →
                exec (.valveFrameLatch returned) s =
                  .next { s with out := { s.out with frame := none, sent := some frame, mismatchRun := 0 } }) ∧
              (returned ≠ sent → s.out.mismatchRun = 2 → s.out.mismatchReported = false →
                s.cfg.reactions[(7 : FaultNo)] = .silence → s.latched 7 = false → s.fault.silencing = none → s.play.state ≠ .starting →
                s.line.queue.length < 8 →
                ∃ t, exec (.valveFrameLatch returned) s = .next t ∧ t.play.state = .silenced ∧ t.latched 7 = true ∧
                  t.fault.silencing = some s.fault.nextTag ∧ t.out.mismatchRun = 0 ∧ t.out.mismatchReported = true ∧
                  t.out.sent = some frame ∧ t.line.queue = s.line.queue ++ [⟨.fault 7 .silence none 0, s.now, 0, s.fault.nextTag⟩] ∧
                  t.mutedEmpty = true ∧ (∀ key : Key, t.valveImage.getLsbD key.val = false))

/-- COIL_RELEASE (R174), CUTOFF_PIN_CHANGE (R172), ASSERTION_EDGE and CUTOFF_RELEASE_EDGE (R172, R173, R79): a coil output is released at its
release time; the pin moves at once; the third sample that differs sets the debounced state; an assertion silences the station and puts a HALT at
the head of the queue, during full start and in HALTED it is recorded only; the release changes nothing else (R80). That the third differing sample
is taken by these commands, the others by bit times, is the model's choice (log 11). -/
def Obligations.CoilsAndCutoff : Prop :=
  ∀ s : State,
    (∀ (stop : StopNo) (t : Time), s.out.onCoils[stop] = some t → 0 ≤ since s.now t →
      exec (.coilRelease stop .on) s = .next { s with out.onCoils := s.out.onCoils.set stop none }) ∧
      (∀ (stop : StopNo) (t : Time), s.out.offCoils[stop] = some t → 0 ≤ since s.now t →
        exec (.coilRelease stop .off) s = .next { s with out.offCoils := s.out.offCoils.set stop none }) ∧
      (∀ level : Bool, exec (.cutoffPinChange level) s = .next { s with out := { s.out with cutoff := { s.out.cutoff with pin := level } } }) ∧
      (s.running = true → s.out.cutoff.settled = true → s.out.cutoff.differing = 2 → 10 ≤ since s.now s.out.cutoff.sampledAt →
        let cutoff (level : Bool) : Cutoff := { s.out.cutoff with asserted := level, differing := 0, sampledAt := s.now }
        (s.out.cutoff.asserted = true → s.out.cutoff.pin = false →
          exec .cutoffReleaseEdge s = .next { s with out := { s.out with cutoff := cutoff false } }) ∧
          (s.out.cutoff.asserted = false → s.out.cutoff.pin = true →
            ((s.play.state = .starting ∨ s.play.state = .halted) →
              exec .assertionEdge s = .next { s with out := { s.out with cutoff := cutoff true } }) ∧
              (s.play.state ≠ .starting → s.play.state ≠ .halted → s.line.queue.length < 8 → (∀ f ∈ s.line.queue, f.body ≠ .halt) →
                ∃ t, exec .assertionEdge s = .next t ∧ t.play = s.play.rest .silenced ∧ t.out.cutoff = cutoff true ∧
                  t.line = { s.line with queue := ⟨.halt, 0, 0, 0⟩ :: s.line.queue } ∧ t.mutedEmpty = true ∧
                  (∀ i, t.valveImage.getLsbD i = false) ∧ t.fault = s.fault ∧ t.out.swell = s.out.swell)))

/-- The swell output (R176): each PWM period of 200 ticks takes the position; it is then high for the nearest whole number of ticks to position × 200
/ 255, none at 0, 100 at 128 and all 200 at 255; it is constantly low in HALTED, which the model keeps as a position
taken of 0 (its choice, log 28), and before the configuration read completes. -/
def Obligations.SwellOutput : Prop :=
  ∀ s : State,
    (s.configured = true → (∀ t, s.out.pwmStart = some t → 200 ≤ since s.now t) →
      exec .pwmPeriodStart s =
        .next { s with out := { s.out with pwmTaken := if s.isHalted then 0 else s.out.swell, pwmStart := some s.now } }) ∧
      (∀ position ≤ 255,
        pwmHighTicks position ≤ 200 ∧ 2 * (255 * pwmHighTicks position) ≤ 2 * (200 * position) + 255 ∧
          2 * (200 * position) ≤ 2 * (255 * pwmHighTicks position) + 255) ∧
      pwmHighTicks 0 = 0 ∧ pwmHighTicks 128 = 100 ∧ pwmHighTicks 255 = 200 ∧
      (∀ t, s.out.pwmStart = some t → s.configured = true → s.isHalted = false →
        (s.swellPin = true ↔ since s.now t < pwmHighTicks s.out.pwmTaken)) ∧
      ((s.isHalted = true ∨ s.configured = false) → s.swellPin = false)

/-! ## Faults (chapter 10) -/

/-- The raising of a fault channel (R183 to R190, R192): in HALTED ignored; already latched with REPORT, nothing; its first latch offers one FAULT
frame; LEAD sets the lead lock in LEADING; SILENCE silences the station, and while silencing is in progress halts it, with nothing left to
transmit and ATTN on. Any latch whose enable is set lights ATTN. -/
def Obligations.FaultsRaised : Prop :=
  ∀ (ch : FaultNo) (s : State), s.running = true →
    (s.isHalted = true → raiseFault ch s = s) ∧
      (s.cfg.reactions[ch] = .report → s.latched ch = true → raiseFault ch s = s) ∧
      (s.wouldReport ch → ch ≠ 1 → ch ≠ 2 → raiseFault ch s = s.withReport ch none) ∧
      (s.wouldReport 1 → raiseFault 1 s = s.withReport 1 (some s.startup.strap)) ∧
      (s.cfg.reactions[ch] = .lead → s.latched ch = true → s.play.state = .leading → raiseFault ch s = { s with play.leadLock := true }) ∧
      (s.cfg.reactions[ch] = .lead → s.latched ch = true → s.play.state = .following →
        raiseFault ch s = { s with play := { s.play with state := .leading, leadLock := true, run := 0 } }) ∧
      (s.cfg.reactions[ch] = .lead → s.latched ch = true → s.play.state = .holding →
        raiseFault ch s = { s with play := { s.play with leadLock := true, returnState := some .leading } }) ∧
      (s.cfg.reactions[ch] = .silence → s.isHalted = false → s.play.state ≠ .starting → s.fault.silencing = none →
        (raiseFault ch s).play.state = .silenced ∧ (raiseFault ch s).mutedEmpty = true ∧ (raiseFault ch s).latched ch = true ∧
          (s.latched ch = false → s.line.queue.length < 8 → (raiseFault ch s).fault.silencing = some s.fault.nextTag)) ∧
      (s.cfg.reactions[ch] = .silence → s.isHalted = false → s.fault.silencing.isSome = true →
        let t := raiseFault ch s
        t.play.state = .halted ∧ t.haltedQuiet = true ∧ t.mutedEmpty = true ∧ t.latched ch = true ∧ t.attn = true ∧
          t.outputEnable = false ∧ t.swellPin = false ∧ t.fault.silencing = none) ∧
      (s.latched ch = true → s.configured = true → s.cfg.attnEnables.getLsbD ch.val = true → s.attn = true)
end

