-- ==== Sys2Proof/Laws/State.lean ====
section
/-! SUPPORT. Laws/State.lean: what each update of a block leaves alone and what it writes, one lemma per field, true by computation. -/

namespace Sys2Proof.Machine

/-! ## `endOfFrame` -/

@[simp] theorem endOfFrame_pending (bytes : List Byte) (s : State) : (endOfFrame bytes s).pending = s.pending := rfl
@[simp] theorem endOfFrame_clock (bytes : List Byte) (s : State) : (endOfFrame bytes s).clock = s.clock := rfl
@[simp] theorem endOfFrame_startup (bytes : List Byte) (s : State) : (endOfFrame bytes s).startup = s.startup := rfl
@[simp] theorem endOfFrame_front (bytes : List Byte) (s : State) : (endOfFrame bytes s).front = s.front := rfl
@[simp] theorem endOfFrame_store (bytes : List Byte) (s : State) : (endOfFrame bytes s).store = s.store := rfl
@[simp] theorem endOfFrame_play (bytes : List Byte) (s : State) : (endOfFrame bytes s).play = s.play := rfl
@[simp] theorem endOfFrame_cue (bytes : List Byte) (s : State) : (endOfFrame bytes s).cue = s.cue := rfl
@[simp] theorem endOfFrame_gather (bytes : List Byte) (s : State) : (endOfFrame bytes s).gather = s.gather := rfl
@[simp] theorem endOfFrame_follow (bytes : List Byte) (s : State) : (endOfFrame bytes s).follow = s.follow := rfl
@[simp] theorem endOfFrame_sched (bytes : List Byte) (s : State) : (endOfFrame bytes s).sched = s.sched := rfl
@[simp] theorem endOfFrame_out (bytes : List Byte) (s : State) : (endOfFrame bytes s).out = s.out := rfl
@[simp] theorem endOfFrame_fault (bytes : List Byte) (s : State) : (endOfFrame bytes s).fault = s.fault := rfl

/-! ## `latch` -/

@[simp] theorem latch_pending (ch : FaultNo) (s : State) : (latch ch s).pending = s.pending := rfl
@[simp] theorem latch_clock (ch : FaultNo) (s : State) : (latch ch s).clock = s.clock := rfl
@[simp] theorem latch_startup (ch : FaultNo) (s : State) : (latch ch s).startup = s.startup := rfl
@[simp] theorem latch_line (ch : FaultNo) (s : State) : (latch ch s).line = s.line := rfl
@[simp] theorem latch_front (ch : FaultNo) (s : State) : (latch ch s).front = s.front := rfl
@[simp] theorem latch_store (ch : FaultNo) (s : State) : (latch ch s).store = s.store := rfl
@[simp] theorem latch_play (ch : FaultNo) (s : State) : (latch ch s).play = s.play := rfl
@[simp] theorem latch_cue (ch : FaultNo) (s : State) : (latch ch s).cue = s.cue := rfl
@[simp] theorem latch_gather (ch : FaultNo) (s : State) : (latch ch s).gather = s.gather := rfl
@[simp] theorem latch_follow (ch : FaultNo) (s : State) : (latch ch s).follow = s.follow := rfl
@[simp] theorem latch_sched (ch : FaultNo) (s : State) : (latch ch s).sched = s.sched := rfl
@[simp] theorem latch_out (ch : FaultNo) (s : State) : (latch ch s).out = s.out := rfl

/-! ## `offerFault` -/

@[simp] theorem offerFault_pending (ch : FaultNo) (s : State) : (offerFault ch s).pending = s.pending := rfl
@[simp] theorem offerFault_clock (ch : FaultNo) (s : State) : (offerFault ch s).clock = s.clock := rfl
@[simp] theorem offerFault_startup (ch : FaultNo) (s : State) : (offerFault ch s).startup = s.startup := rfl
@[simp] theorem offerFault_front (ch : FaultNo) (s : State) : (offerFault ch s).front = s.front := rfl
@[simp] theorem offerFault_store (ch : FaultNo) (s : State) : (offerFault ch s).store = s.store := rfl
@[simp] theorem offerFault_play (ch : FaultNo) (s : State) : (offerFault ch s).play = s.play := rfl
@[simp] theorem offerFault_cue (ch : FaultNo) (s : State) : (offerFault ch s).cue = s.cue := rfl
@[simp] theorem offerFault_gather (ch : FaultNo) (s : State) : (offerFault ch s).gather = s.gather := rfl
@[simp] theorem offerFault_follow (ch : FaultNo) (s : State) : (offerFault ch s).follow = s.follow := rfl
@[simp] theorem offerFault_sched (ch : FaultNo) (s : State) : (offerFault ch s).sched = s.sched := rfl
@[simp] theorem offerFault_out (ch : FaultNo) (s : State) : (offerFault ch s).out = s.out := rfl

/-! ## `hearPeer` -/

@[simp] theorem hearPeer_pending (p : Station) (s : State) : (hearPeer p s).pending = s.pending := rfl
@[simp] theorem hearPeer_clock (p : Station) (s : State) : (hearPeer p s).clock = s.clock := rfl
@[simp] theorem hearPeer_startup (p : Station) (s : State) : (hearPeer p s).startup = s.startup := rfl
@[simp] theorem hearPeer_line (p : Station) (s : State) : (hearPeer p s).line = s.line := rfl
@[simp] theorem hearPeer_front (p : Station) (s : State) : (hearPeer p s).front = s.front := rfl
@[simp] theorem hearPeer_store (p : Station) (s : State) : (hearPeer p s).store = s.store := rfl
@[simp] theorem hearPeer_play (p : Station) (s : State) : (hearPeer p s).play = s.play := rfl
@[simp] theorem hearPeer_cue (p : Station) (s : State) : (hearPeer p s).cue = s.cue := rfl
@[simp] theorem hearPeer_follow (p : Station) (s : State) : (hearPeer p s).follow = s.follow := rfl
@[simp] theorem hearPeer_sched (p : Station) (s : State) : (hearPeer p s).sched = s.sched := rfl
@[simp] theorem hearPeer_out (p : Station) (s : State) : (hearPeer p s).out = s.out := rfl
@[simp] theorem hearPeer_fault (p : Station) (s : State) : (hearPeer p s).fault = s.fault := rfl

/-! ## `storeClaim` -/

@[simp] theorem storeClaim_pending (p : Station) (c : Claim) (s : State) : (storeClaim p c s).pending = s.pending := rfl
@[simp] theorem storeClaim_clock (p : Station) (c : Claim) (s : State) : (storeClaim p c s).clock = s.clock := rfl
@[simp] theorem storeClaim_startup (p : Station) (c : Claim) (s : State) : (storeClaim p c s).startup = s.startup := rfl
@[simp] theorem storeClaim_line (p : Station) (c : Claim) (s : State) : (storeClaim p c s).line = s.line := rfl
@[simp] theorem storeClaim_front (p : Station) (c : Claim) (s : State) : (storeClaim p c s).front = s.front := rfl
@[simp] theorem storeClaim_store (p : Station) (c : Claim) (s : State) : (storeClaim p c s).store = s.store := rfl
@[simp] theorem storeClaim_play (p : Station) (c : Claim) (s : State) : (storeClaim p c s).play = s.play := rfl
@[simp] theorem storeClaim_cue (p : Station) (c : Claim) (s : State) : (storeClaim p c s).cue = s.cue := rfl
@[simp] theorem storeClaim_follow (p : Station) (c : Claim) (s : State) : (storeClaim p c s).follow = s.follow := rfl
@[simp] theorem storeClaim_sched (p : Station) (c : Claim) (s : State) : (storeClaim p c s).sched = s.sched := rfl
@[simp] theorem storeClaim_out (p : Station) (c : Claim) (s : State) : (storeClaim p c s).out = s.out := rfl
@[simp] theorem storeClaim_fault (p : Station) (c : Claim) (s : State) : (storeClaim p c s).fault = s.fault := rfl

/-! ## `emptyUnfired` -/

@[simp] theorem emptyUnfired_pending (s : State) : (emptyUnfired s).pending = s.pending := rfl
@[simp] theorem emptyUnfired_clock (s : State) : (emptyUnfired s).clock = s.clock := rfl
@[simp] theorem emptyUnfired_startup (s : State) : (emptyUnfired s).startup = s.startup := rfl
@[simp] theorem emptyUnfired_line (s : State) : (emptyUnfired s).line = s.line := rfl
@[simp] theorem emptyUnfired_front (s : State) : (emptyUnfired s).front = s.front := rfl
@[simp] theorem emptyUnfired_store (s : State) : (emptyUnfired s).store = s.store := rfl
@[simp] theorem emptyUnfired_play (s : State) : (emptyUnfired s).play = s.play := rfl
@[simp] theorem emptyUnfired_cue (s : State) : (emptyUnfired s).cue = s.cue := rfl
@[simp] theorem emptyUnfired_gather (s : State) : (emptyUnfired s).gather = s.gather := rfl
@[simp] theorem emptyUnfired_follow (s : State) : (emptyUnfired s).follow = s.follow := rfl
@[simp] theorem emptyUnfired_fault (s : State) : (emptyUnfired s).fault = s.fault := rfl

/-! ## `emptyFired` -/

@[simp] theorem emptyFired_pending (s : State) : (emptyFired s).pending = s.pending := rfl
@[simp] theorem emptyFired_clock (s : State) : (emptyFired s).clock = s.clock := rfl
@[simp] theorem emptyFired_startup (s : State) : (emptyFired s).startup = s.startup := rfl
@[simp] theorem emptyFired_line (s : State) : (emptyFired s).line = s.line := rfl
@[simp] theorem emptyFired_front (s : State) : (emptyFired s).front = s.front := rfl
@[simp] theorem emptyFired_store (s : State) : (emptyFired s).store = s.store := rfl
@[simp] theorem emptyFired_play (s : State) : (emptyFired s).play = s.play := rfl
@[simp] theorem emptyFired_cue (s : State) : (emptyFired s).cue = s.cue := rfl
@[simp] theorem emptyFired_gather (s : State) : (emptyFired s).gather = s.gather := rfl
@[simp] theorem emptyFired_follow (s : State) : (emptyFired s).follow = s.follow := rfl
@[simp] theorem emptyFired_fault (s : State) : (emptyFired s).fault = s.fault := rfl

/-! ## `enterSilenced` -/

@[simp] theorem enterSilenced_pending (s : State) : (enterSilenced s).pending = s.pending := rfl
@[simp] theorem enterSilenced_clock (s : State) : (enterSilenced s).clock = s.clock := rfl
@[simp] theorem enterSilenced_startup (s : State) : (enterSilenced s).startup = s.startup := rfl
@[simp] theorem enterSilenced_line (s : State) : (enterSilenced s).line = s.line := rfl
@[simp] theorem enterSilenced_front (s : State) : (enterSilenced s).front = s.front := rfl
@[simp] theorem enterSilenced_cue (s : State) : (enterSilenced s).cue = s.cue := rfl
@[simp] theorem enterSilenced_fault (s : State) : (enterSilenced s).fault = s.fault := rfl

/-! ## `enterHalted` -/

@[simp] theorem enterHalted_pending (s : State) : (enterHalted s).pending = s.pending := rfl
@[simp] theorem enterHalted_clock (s : State) : (enterHalted s).clock = s.clock := rfl
@[simp] theorem enterHalted_front (s : State) : (enterHalted s).front = s.front := rfl
@[simp] theorem enterHalted_cue (s : State) : (enterHalted s).cue = s.cue := rfl

/-! ## `requestLoad` -/

@[simp] theorem requestLoad_pending (u : FlashUnit) (a n : Nat) (s : State) : (requestLoad u a n s).pending = s.pending := rfl
@[simp] theorem requestLoad_clock (u : FlashUnit) (a n : Nat) (s : State) : (requestLoad u a n s).clock = s.clock := rfl
@[simp] theorem requestLoad_startup (u : FlashUnit) (a n : Nat) (s : State) : (requestLoad u a n s).startup = s.startup := rfl
@[simp] theorem requestLoad_line (u : FlashUnit) (a n : Nat) (s : State) : (requestLoad u a n s).line = s.line := rfl
@[simp] theorem requestLoad_front (u : FlashUnit) (a n : Nat) (s : State) : (requestLoad u a n s).front = s.front := rfl
@[simp] theorem requestLoad_play (u : FlashUnit) (a n : Nat) (s : State) : (requestLoad u a n s).play = s.play := rfl
@[simp] theorem requestLoad_cue (u : FlashUnit) (a n : Nat) (s : State) : (requestLoad u a n s).cue = s.cue := rfl
@[simp] theorem requestLoad_gather (u : FlashUnit) (a n : Nat) (s : State) : (requestLoad u a n s).gather = s.gather := rfl
@[simp] theorem requestLoad_follow (u : FlashUnit) (a n : Nat) (s : State) : (requestLoad u a n s).follow = s.follow := rfl
@[simp] theorem requestLoad_sched (u : FlashUnit) (a n : Nat) (s : State) : (requestLoad u a n s).sched = s.sched := rfl
@[simp] theorem requestLoad_out (u : FlashUnit) (a n : Nat) (s : State) : (requestLoad u a n s).out = s.out := rfl
@[simp] theorem requestLoad_fault (u : FlashUnit) (a n : Nat) (s : State) : (requestLoad u a n s).fault = s.fault := rfl

/-! ## `serveSung` -/

@[simp] theorem serveSung_pending (test : Mark → Bool) (s : State) : (serveSung test s).pending = s.pending := rfl
@[simp] theorem serveSung_clock (test : Mark → Bool) (s : State) : (serveSung test s).clock = s.clock := rfl
@[simp] theorem serveSung_startup (test : Mark → Bool) (s : State) : (serveSung test s).startup = s.startup := rfl
@[simp] theorem serveSung_line (test : Mark → Bool) (s : State) : (serveSung test s).line = s.line := rfl
@[simp] theorem serveSung_front (test : Mark → Bool) (s : State) : (serveSung test s).front = s.front := rfl
@[simp] theorem serveSung_play (test : Mark → Bool) (s : State) : (serveSung test s).play = s.play := rfl
@[simp] theorem serveSung_cue (test : Mark → Bool) (s : State) : (serveSung test s).cue = s.cue := rfl
@[simp] theorem serveSung_gather (test : Mark → Bool) (s : State) : (serveSung test s).gather = s.gather := rfl
@[simp] theorem serveSung_follow (test : Mark → Bool) (s : State) : (serveSung test s).follow = s.follow := rfl
@[simp] theorem serveSung_sched (test : Mark → Bool) (s : State) : (serveSung test s).sched = s.sched := rfl
@[simp] theorem serveSung_out (test : Mark → Bool) (s : State) : (serveSung test s).out = s.out := rfl
@[simp] theorem serveSung_fault (test : Mark → Bool) (s : State) : (serveSung test s).fault = s.fault := rfl

/-! ## `serveHold` -/

@[simp] theorem serveHold_pending (p : Nat) (s : State) : (serveHold p s).pending = s.pending := rfl
@[simp] theorem serveHold_clock (p : Nat) (s : State) : (serveHold p s).clock = s.clock := rfl
@[simp] theorem serveHold_startup (p : Nat) (s : State) : (serveHold p s).startup = s.startup := rfl
@[simp] theorem serveHold_line (p : Nat) (s : State) : (serveHold p s).line = s.line := rfl
@[simp] theorem serveHold_front (p : Nat) (s : State) : (serveHold p s).front = s.front := rfl
@[simp] theorem serveHold_play (p : Nat) (s : State) : (serveHold p s).play = s.play := rfl
@[simp] theorem serveHold_cue (p : Nat) (s : State) : (serveHold p s).cue = s.cue := rfl
@[simp] theorem serveHold_gather (p : Nat) (s : State) : (serveHold p s).gather = s.gather := rfl
@[simp] theorem serveHold_follow (p : Nat) (s : State) : (serveHold p s).follow = s.follow := rfl
@[simp] theorem serveHold_sched (p : Nat) (s : State) : (serveHold p s).sched = s.sched := rfl
@[simp] theorem serveHold_out (p : Nat) (s : State) : (serveHold p s).out = s.out := rfl
@[simp] theorem serveHold_fault (p : Nat) (s : State) : (serveHold p s).fault = s.fault := rfl

/-! ## `setAnchor` -/

@[simp] theorem setAnchor_pending (a : Anchor) (s : State) : (setAnchor a s).pending = s.pending := rfl
@[simp] theorem setAnchor_clock (a : Anchor) (s : State) : (setAnchor a s).clock = s.clock := rfl
@[simp] theorem setAnchor_startup (a : Anchor) (s : State) : (setAnchor a s).startup = s.startup := rfl
@[simp] theorem setAnchor_line (a : Anchor) (s : State) : (setAnchor a s).line = s.line := rfl
@[simp] theorem setAnchor_front (a : Anchor) (s : State) : (setAnchor a s).front = s.front := rfl
@[simp] theorem setAnchor_store (a : Anchor) (s : State) : (setAnchor a s).store = s.store := rfl
@[simp] theorem setAnchor_play (a : Anchor) (s : State) : (setAnchor a s).play = s.play := rfl
@[simp] theorem setAnchor_cue (a : Anchor) (s : State) : (setAnchor a s).cue = s.cue := rfl
@[simp] theorem setAnchor_gather (a : Anchor) (s : State) : (setAnchor a s).gather = s.gather := rfl
@[simp] theorem setAnchor_sched (a : Anchor) (s : State) : (setAnchor a s).sched = s.sched := rfl
@[simp] theorem setAnchor_out (a : Anchor) (s : State) : (setAnchor a s).out = s.out := rfl
@[simp] theorem setAnchor_fault (a : Anchor) (s : State) : (setAnchor a s).fault = s.fault := rfl

/-! ## `openGather` -/

@[simp] theorem openGather_pending (p : Nat) (s : State) : (openGather p s).pending = s.pending := rfl
@[simp] theorem openGather_clock (p : Nat) (s : State) : (openGather p s).clock = s.clock := rfl
@[simp] theorem openGather_startup (p : Nat) (s : State) : (openGather p s).startup = s.startup := rfl
@[simp] theorem openGather_line (p : Nat) (s : State) : (openGather p s).line = s.line := rfl
@[simp] theorem openGather_front (p : Nat) (s : State) : (openGather p s).front = s.front := rfl
@[simp] theorem openGather_store (p : Nat) (s : State) : (openGather p s).store = s.store := rfl
@[simp] theorem openGather_play (p : Nat) (s : State) : (openGather p s).play = s.play := rfl
@[simp] theorem openGather_cue (p : Nat) (s : State) : (openGather p s).cue = s.cue := rfl
@[simp] theorem openGather_follow (p : Nat) (s : State) : (openGather p s).follow = s.follow := rfl
@[simp] theorem openGather_sched (p : Nat) (s : State) : (openGather p s).sched = s.sched := rfl
@[simp] theorem openGather_out (p : Nat) (s : State) : (openGather p s).out = s.out := rfl
@[simp] theorem openGather_fault (p : Nat) (s : State) : (openGather p s).fault = s.fault := rfl

/-! ## `endChange` -/

@[simp] theorem endChange_pending (s : State) : (endChange s).pending = s.pending := rfl
@[simp] theorem endChange_clock (s : State) : (endChange s).clock = s.clock := rfl
@[simp] theorem endChange_startup (s : State) : (endChange s).startup = s.startup := rfl
@[simp] theorem endChange_line (s : State) : (endChange s).line = s.line := rfl
@[simp] theorem endChange_front (s : State) : (endChange s).front = s.front := rfl
@[simp] theorem endChange_store (s : State) : (endChange s).store = s.store := rfl
@[simp] theorem endChange_play (s : State) : (endChange s).play = s.play := rfl
@[simp] theorem endChange_cue (s : State) : (endChange s).cue = s.cue := rfl
@[simp] theorem endChange_gather (s : State) : (endChange s).gather = s.gather := rfl
@[simp] theorem endChange_sched (s : State) : (endChange s).sched = s.sched := rfl
@[simp] theorem endChange_out (s : State) : (endChange s).out = s.out := rfl
@[simp] theorem endChange_fault (s : State) : (endChange s).fault = s.fault := rfl

/-! ## `beginJoining` -/

@[simp] theorem beginJoining_pending (s : State) : (beginJoining s).pending = s.pending := rfl
@[simp] theorem beginJoining_clock (s : State) : (beginJoining s).clock = s.clock := rfl
@[simp] theorem beginJoining_front (s : State) : (beginJoining s).front = s.front := rfl
@[simp] theorem beginJoining_store (s : State) : (beginJoining s).store = s.store := rfl
@[simp] theorem beginJoining_play (s : State) : (beginJoining s).play = s.play := rfl
@[simp] theorem beginJoining_cue (s : State) : (beginJoining s).cue = s.cue := rfl
@[simp] theorem beginJoining_gather (s : State) : (beginJoining s).gather = s.gather := rfl
@[simp] theorem beginJoining_follow (s : State) : (beginJoining s).follow = s.follow := rfl
@[simp] theorem beginJoining_sched (s : State) : (beginJoining s).sched = s.sched := rfl
@[simp] theorem beginJoining_out (s : State) : (beginJoining s).out = s.out := rfl
@[simp] theorem beginJoining_fault (s : State) : (beginJoining s).fault = s.fault := rfl

/-! ## `beginOffPulses` -/

@[simp] theorem beginOffPulses_pending (s : State) : (beginOffPulses s).pending = s.pending := rfl
@[simp] theorem beginOffPulses_clock (s : State) : (beginOffPulses s).clock = s.clock := rfl
@[simp] theorem beginOffPulses_line (s : State) : (beginOffPulses s).line = s.line := rfl
@[simp] theorem beginOffPulses_front (s : State) : (beginOffPulses s).front = s.front := rfl
@[simp] theorem beginOffPulses_store (s : State) : (beginOffPulses s).store = s.store := rfl
@[simp] theorem beginOffPulses_play (s : State) : (beginOffPulses s).play = s.play := rfl
@[simp] theorem beginOffPulses_cue (s : State) : (beginOffPulses s).cue = s.cue := rfl
@[simp] theorem beginOffPulses_gather (s : State) : (beginOffPulses s).gather = s.gather := rfl
@[simp] theorem beginOffPulses_follow (s : State) : (beginOffPulses s).follow = s.follow := rfl
@[simp] theorem beginOffPulses_sched (s : State) : (beginOffPulses s).sched = s.sched := rfl
@[simp] theorem beginOffPulses_fault (s : State) : (beginOffPulses s).fault = s.fault := rfl

/-! ## `applyNoteOff` -/

@[simp] theorem applyNoteOff_pending (e : EntryNo) (key : Key) (s : State) : (applyNoteOff e key s).pending = s.pending := rfl
@[simp] theorem applyNoteOff_clock (e : EntryNo) (key : Key) (s : State) : (applyNoteOff e key s).clock = s.clock := rfl
@[simp] theorem applyNoteOff_startup (e : EntryNo) (key : Key) (s : State) : (applyNoteOff e key s).startup = s.startup := rfl
@[simp] theorem applyNoteOff_line (e : EntryNo) (key : Key) (s : State) : (applyNoteOff e key s).line = s.line := rfl
@[simp] theorem applyNoteOff_front (e : EntryNo) (key : Key) (s : State) : (applyNoteOff e key s).front = s.front := rfl
@[simp] theorem applyNoteOff_store (e : EntryNo) (key : Key) (s : State) : (applyNoteOff e key s).store = s.store := rfl
@[simp] theorem applyNoteOff_play (e : EntryNo) (key : Key) (s : State) : (applyNoteOff e key s).play = s.play := rfl
@[simp] theorem applyNoteOff_cue (e : EntryNo) (key : Key) (s : State) : (applyNoteOff e key s).cue = s.cue := rfl
@[simp] theorem applyNoteOff_gather (e : EntryNo) (key : Key) (s : State) : (applyNoteOff e key s).gather = s.gather := rfl
@[simp] theorem applyNoteOff_follow (e : EntryNo) (key : Key) (s : State) : (applyNoteOff e key s).follow = s.follow := rfl
@[simp] theorem applyNoteOff_fault (e : EntryNo) (key : Key) (s : State) : (applyNoteOff e key s).fault = s.fault := rfl

/-! ## `startPulse` -/

@[simp] theorem startPulse_pending (e : EntryNo) (stop : StopNo) (coil : Coil) (c : ChannelNo) (s : State) : (startPulse e stop coil c s).pending = s.pending := rfl
@[simp] theorem startPulse_clock (e : EntryNo) (stop : StopNo) (coil : Coil) (c : ChannelNo) (s : State) : (startPulse e stop coil c s).clock = s.clock := rfl
@[simp] theorem startPulse_startup (e : EntryNo) (stop : StopNo) (coil : Coil) (c : ChannelNo) (s : State) : (startPulse e stop coil c s).startup = s.startup := rfl
@[simp] theorem startPulse_line (e : EntryNo) (stop : StopNo) (coil : Coil) (c : ChannelNo) (s : State) : (startPulse e stop coil c s).line = s.line := rfl
@[simp] theorem startPulse_front (e : EntryNo) (stop : StopNo) (coil : Coil) (c : ChannelNo) (s : State) : (startPulse e stop coil c s).front = s.front := rfl
@[simp] theorem startPulse_store (e : EntryNo) (stop : StopNo) (coil : Coil) (c : ChannelNo) (s : State) : (startPulse e stop coil c s).store = s.store := rfl
@[simp] theorem startPulse_play (e : EntryNo) (stop : StopNo) (coil : Coil) (c : ChannelNo) (s : State) : (startPulse e stop coil c s).play = s.play := rfl
@[simp] theorem startPulse_cue (e : EntryNo) (stop : StopNo) (coil : Coil) (c : ChannelNo) (s : State) : (startPulse e stop coil c s).cue = s.cue := rfl
@[simp] theorem startPulse_gather (e : EntryNo) (stop : StopNo) (coil : Coil) (c : ChannelNo) (s : State) : (startPulse e stop coil c s).gather = s.gather := rfl
@[simp] theorem startPulse_follow (e : EntryNo) (stop : StopNo) (coil : Coil) (c : ChannelNo) (s : State) : (startPulse e stop coil c s).follow = s.follow := rfl
@[simp] theorem startPulse_fault (e : EntryNo) (stop : StopNo) (coil : Coil) (c : ChannelNo) (s : State) : (startPulse e stop coil c s).fault = s.fault := rfl

/-! ## `afterFrameFrom` -/

@[simp] theorem afterFrameFrom_pending (bytes : List Byte) (p : Station) (s : State) : (State.afterFrameFrom s bytes p).pending = s.pending := rfl
@[simp] theorem afterFrameFrom_clock (bytes : List Byte) (p : Station) (s : State) : (State.afterFrameFrom s bytes p).clock = s.clock := rfl
@[simp] theorem afterFrameFrom_startup (bytes : List Byte) (p : Station) (s : State) : (State.afterFrameFrom s bytes p).startup = s.startup := rfl
@[simp] theorem afterFrameFrom_front (bytes : List Byte) (p : Station) (s : State) : (State.afterFrameFrom s bytes p).front = s.front := rfl
@[simp] theorem afterFrameFrom_store (bytes : List Byte) (p : Station) (s : State) : (State.afterFrameFrom s bytes p).store = s.store := rfl
@[simp] theorem afterFrameFrom_play (bytes : List Byte) (p : Station) (s : State) : (State.afterFrameFrom s bytes p).play = s.play := rfl
@[simp] theorem afterFrameFrom_cue (bytes : List Byte) (p : Station) (s : State) : (State.afterFrameFrom s bytes p).cue = s.cue := rfl
@[simp] theorem afterFrameFrom_follow (bytes : List Byte) (p : Station) (s : State) : (State.afterFrameFrom s bytes p).follow = s.follow := rfl
@[simp] theorem afterFrameFrom_sched (bytes : List Byte) (p : Station) (s : State) : (State.afterFrameFrom s bytes p).sched = s.sched := rfl
@[simp] theorem afterFrameFrom_out (bytes : List Byte) (p : Station) (s : State) : (State.afterFrameFrom s bytes p).out = s.out := rfl
@[simp] theorem afterFrameFrom_fault (bytes : List Byte) (p : Station) (s : State) : (State.afterFrameFrom s bytes p).fault = s.fault := rfl

/-! ## `withReport` -/

@[simp] theorem withReport_pending (ch : FaultNo) (c : Option Station) (s : State) : (State.withReport s ch c).pending = s.pending := rfl
@[simp] theorem withReport_clock (ch : FaultNo) (c : Option Station) (s : State) : (State.withReport s ch c).clock = s.clock := rfl
@[simp] theorem withReport_startup (ch : FaultNo) (c : Option Station) (s : State) : (State.withReport s ch c).startup = s.startup := rfl
@[simp] theorem withReport_front (ch : FaultNo) (c : Option Station) (s : State) : (State.withReport s ch c).front = s.front := rfl
@[simp] theorem withReport_store (ch : FaultNo) (c : Option Station) (s : State) : (State.withReport s ch c).store = s.store := rfl
@[simp] theorem withReport_play (ch : FaultNo) (c : Option Station) (s : State) : (State.withReport s ch c).play = s.play := rfl
@[simp] theorem withReport_cue (ch : FaultNo) (c : Option Station) (s : State) : (State.withReport s ch c).cue = s.cue := rfl
@[simp] theorem withReport_gather (ch : FaultNo) (c : Option Station) (s : State) : (State.withReport s ch c).gather = s.gather := rfl
@[simp] theorem withReport_follow (ch : FaultNo) (c : Option Station) (s : State) : (State.withReport s ch c).follow = s.follow := rfl
@[simp] theorem withReport_sched (ch : FaultNo) (c : Option Station) (s : State) : (State.withReport s ch c).sched = s.sched := rfl
@[simp] theorem withReport_out (ch : FaultNo) (c : Option Station) (s : State) : (State.withReport s ch c).out = s.out := rfl

/-! ## `takeFree` -/

@[simp] theorem takeFree_pending (s : State) : ((State.takeFree s).2).pending = s.pending := rfl
@[simp] theorem takeFree_startup (s : State) : ((State.takeFree s).2).startup = s.startup := rfl
@[simp] theorem takeFree_line (s : State) : ((State.takeFree s).2).line = s.line := rfl
@[simp] theorem takeFree_front (s : State) : ((State.takeFree s).2).front = s.front := rfl
@[simp] theorem takeFree_store (s : State) : ((State.takeFree s).2).store = s.store := rfl
@[simp] theorem takeFree_play (s : State) : ((State.takeFree s).2).play = s.play := rfl
@[simp] theorem takeFree_cue (s : State) : ((State.takeFree s).2).cue = s.cue := rfl
@[simp] theorem takeFree_gather (s : State) : ((State.takeFree s).2).gather = s.gather := rfl
@[simp] theorem takeFree_follow (s : State) : ((State.takeFree s).2).follow = s.follow := rfl
@[simp] theorem takeFree_sched (s : State) : ((State.takeFree s).2).sched = s.sched := rfl
@[simp] theorem takeFree_out (s : State) : ((State.takeFree s).2).out = s.out := rfl
@[simp] theorem takeFree_fault (s : State) : ((State.takeFree s).2).fault = s.fault := rfl

/-! ## `planStop` -/

@[simp] theorem planStop_pending (stop : StopNo) (s : State) : (planStop stop s).pending = s.pending := rfl
@[simp] theorem planStop_clock (stop : StopNo) (s : State) : (planStop stop s).clock = s.clock := rfl
@[simp] theorem planStop_startup (stop : StopNo) (s : State) : (planStop stop s).startup = s.startup := rfl
@[simp] theorem planStop_line (stop : StopNo) (s : State) : (planStop stop s).line = s.line := rfl
@[simp] theorem planStop_front (stop : StopNo) (s : State) : (planStop stop s).front = s.front := rfl
@[simp] theorem planStop_play (stop : StopNo) (s : State) : (planStop stop s).play = s.play := rfl
@[simp] theorem planStop_cue (stop : StopNo) (s : State) : (planStop stop s).cue = s.cue := rfl
@[simp] theorem planStop_gather (stop : StopNo) (s : State) : (planStop stop s).gather = s.gather := rfl
@[simp] theorem planStop_follow (stop : StopNo) (s : State) : (planStop stop s).follow = s.follow := rfl
@[simp] theorem planStop_sched (stop : StopNo) (s : State) : (planStop stop s).sched = s.sched := rfl
@[simp] theorem planStop_out (stop : StopNo) (s : State) : (planStop stop s).out = s.out := rfl
@[simp] theorem planStop_fault (stop : StopNo) (s : State) : (planStop stop s).fault = s.fault := rfl

/-! ## `emptyGather` -/

@[simp] theorem emptyGather_peers (g : GatherUnit) : (emptyGather g).peers = g.peers := rfl
@[simp] theorem emptyGather_playStart (g : GatherUnit) : (emptyGather g).playStart = g.playStart := rfl

/-! ## `emptyFollower` -/

@[simp] theorem emptyFollower_sticky (f : Follower) : (emptyFollower f).sticky = f.sticky := rfl
@[simp] theorem emptyFollower_culprit (f : Follower) : (emptyFollower f).culprit = f.culprit := rfl

/-! ## `releaseCoils` -/

@[simp] theorem releaseCoils_counts (o : OutputStage) : (releaseCoils o).counts = o.counts := rfl
@[simp] theorem releaseCoils_stopImage (o : OutputStage) : (releaseCoils o).stopImage = o.stopImage := rfl
@[simp] theorem releaseCoils_frame (o : OutputStage) : (releaseCoils o).frame = o.frame := rfl
@[simp] theorem releaseCoils_sent (o : OutputStage) : (releaseCoils o).sent = o.sent := rfl
@[simp] theorem releaseCoils_frameStart (o : OutputStage) : (releaseCoils o).frameStart = o.frameStart := rfl
@[simp] theorem releaseCoils_mismatchRun (o : OutputStage) : (releaseCoils o).mismatchRun = o.mismatchRun := rfl
@[simp] theorem releaseCoils_mismatchReported (o : OutputStage) : (releaseCoils o).mismatchReported = o.mismatchReported := rfl
@[simp] theorem releaseCoils_cutoff (o : OutputStage) : (releaseCoils o).cutoff = o.cutoff := rfl
@[simp] theorem releaseCoils_swell (o : OutputStage) : (releaseCoils o).swell = o.swell := rfl
@[simp] theorem releaseCoils_target (o : OutputStage) : (releaseCoils o).target = o.target := rfl
@[simp] theorem releaseCoils_pwmTaken (o : OutputStage) : (releaseCoils o).pwmTaken = o.pwmTaken := rfl
@[simp] theorem releaseCoils_pwmStart (o : OutputStage) : (releaseCoils o).pwmStart = o.pwmStart := rfl

/-! ## `abandonAll` -/

@[simp] theorem abandonAll_serving (p : FlashPort) : (p.abandonAll).serving = p.serving := rfl
@[simp] theorem abandonAll_granting (p : FlashPort) : (p.abandonAll).granting = p.granting := rfl

/-! ## `rest` -/

@[simp] theorem rest_barred (p : PlayController) (st : PlayState) : (p.rest st).barred = p.barred := rfl

/-! ## `lowBit` -/

@[simp] theorem lowBit_queue (l : LineInterface) : (lowBit l).queue = l.queue := rfl
@[simp] theorem lowBit_onLine (l : LineInterface) : (lowBit l).onLine = l.onLine := rfl
@[simp] theorem lowBit_transmitter (l : LineInterface) : (lowBit l).transmitter = l.transmitter := rfl
@[simp] theorem lowBit_lowReported (l : LineInterface) : (lowBit l).lowReported = l.lowReported := rfl
@[simp] theorem lowBit_framing (l : LineInterface) : (lowBit l).framing = l.framing := rfl
@[simp] theorem lowBit_markLatch (l : LineInterface) : (lowBit l).markLatch = l.markLatch := rfl

/-! ## `setEntry` -/

@[simp] theorem setEntry_channels (e : EntryNo) (a : Option Action) (sc : Scheduler) : (setEntry e a sc).channels = sc.channels := rfl
@[simp] theorem setEntry_pass (e : EntryNo) (a : Option Action) (sc : Scheduler) : (setEntry e a sc).pass = sc.pass := rfl
@[simp] theorem setEntry_barrier (e : EntryNo) (a : Option Action) (sc : Scheduler) : (setEntry e a sc).barrier = sc.barrier := rfl

/-! ## `setChannel` -/

@[simp] theorem setChannel_table (c : ChannelNo) (ch : Channel) (sc : Scheduler) : (setChannel c ch sc).table = sc.table := rfl
@[simp] theorem setChannel_pass (c : ChannelNo) (ch : Channel) (sc : Scheduler) : (setChannel c ch sc).pass = sc.pass := rfl
@[simp] theorem setChannel_barrier (c : ChannelNo) (ch : Channel) (sc : Scheduler) : (setChannel c ch sc).barrier = sc.barrier := rfl

/-! ## `mapActions` -/

@[simp] theorem mapActions_pass (change : Action → Option Action) (frees : Action → Bool) (sc : Scheduler) : (mapActions change frees sc).pass = sc.pass := rfl
@[simp] theorem mapActions_barrier (change : Action → Option Action) (frees : Action → Bool) (sc : Scheduler) : (mapActions change frees sc).barrier = sc.barrier := rfl

/-! ## `startPass` -/

@[simp] theorem startPass_table (sc : Scheduler) : (startPass sc).table = sc.table := rfl
@[simp] theorem startPass_channels (sc : Scheduler) : (startPass sc).channels = sc.channels := rfl
@[simp] theorem startPass_barrier (sc : Scheduler) : (startPass sc).barrier = sc.barrier := rfl

/-! ## `prunePool` -/

@[simp] theorem prunePool_queue (g : GatherUnit) : (g.prunePool).queue = g.queue := rfl
@[simp] theorem prunePool_taking (g : GatherUnit) : (g.prunePool).taking = g.taking := rfl
@[simp] theorem prunePool_peers (g : GatherUnit) : (g.prunePool).peers = g.peers := rfl
@[simp] theorem prunePool_opens (g : GatherUnit) : (g.prunePool).opens = g.opens := rfl
@[simp] theorem prunePool_previousSung (g : GatherUnit) : (g.prunePool).previousSung = g.previousSung := rfl
@[simp] theorem prunePool_closed (g : GatherUnit) : (g.prunePool).closed = g.closed := rfl
@[simp] theorem prunePool_playStart (g : GatherUnit) : (g.prunePool).playStart = g.playStart := rfl

/-! ## `recordClosed` -/

@[simp] theorem recordClosed_queue (g : GatherUnit) (w : Window) : (g.recordClosed w).queue = g.queue := rfl
@[simp] theorem recordClosed_taking (g : GatherUnit) (w : Window) : (g.recordClosed w).taking = g.taking := rfl
@[simp] theorem recordClosed_peers (g : GatherUnit) (w : Window) : (g.recordClosed w).peers = g.peers := rfl
@[simp] theorem recordClosed_opens (g : GatherUnit) (w : Window) : (g.recordClosed w).opens = g.opens := rfl
@[simp] theorem recordClosed_previousSung (g : GatherUnit) (w : Window) : (g.recordClosed w).previousSung = g.previousSung := rfl
@[simp] theorem recordClosed_playStart (g : GatherUnit) (w : Window) : (g.recordClosed w).playStart = g.playStart := rfl
@[simp] theorem recordClosed_pool (g : GatherUnit) (w : Window) : (g.recordClosed w).pool = g.pool := rfl

/-! ## `replaceOpen` -/

@[simp] theorem replaceOpen_queue (u : GatherUnit) (g : Gather) : (u.replaceOpen g).queue = u.queue := rfl
@[simp] theorem replaceOpen_taking (u : GatherUnit) (g : Gather) : (u.replaceOpen g).taking = u.taking := rfl
@[simp] theorem replaceOpen_peers (u : GatherUnit) (g : Gather) : (u.replaceOpen g).peers = u.peers := rfl
@[simp] theorem replaceOpen_previousSung (u : GatherUnit) (g : Gather) : (u.replaceOpen g).previousSung = u.previousSung := rfl
@[simp] theorem replaceOpen_closed (u : GatherUnit) (g : Gather) : (u.replaceOpen g).closed = u.closed := rfl
@[simp] theorem replaceOpen_playStart (u : GatherUnit) (g : Gather) : (u.replaceOpen g).playStart = u.playStart := rfl
@[simp] theorem replaceOpen_pool (u : GatherUnit) (g : Gather) : (u.replaceOpen g).pool = u.pool := rfl

/-! ## `closeGather` -/

@[simp] theorem closeGather_queue (g : Gather) (u : GatherUnit) : (closeGather g u).queue = u.queue := rfl
@[simp] theorem closeGather_peers (g : Gather) (u : GatherUnit) : (closeGather g u).peers = u.peers := rfl
@[simp] theorem closeGather_previousSung (g : Gather) (u : GatherUnit) : (closeGather g u).previousSung = u.previousSung := rfl
@[simp] theorem closeGather_playStart (g : Gather) (u : GatherUnit) : (closeGather g u).playStart = u.playStart := rfl

/-! ## `frameEnd` -/

@[simp] theorem frameEnd_queue (bytes : List Byte) (l : LineInterface) : (l.frameEnd bytes).queue = l.queue := rfl
@[simp] theorem frameEnd_onLine (bytes : List Byte) (l : LineInterface) : (l.frameEnd bytes).onLine = l.onLine := rfl
@[simp] theorem frameEnd_transmitter (bytes : List Byte) (l : LineInterface) : (l.frameEnd bytes).transmitter = l.transmitter := rfl
@[simp] theorem frameEnd_lowReported (bytes : List Byte) (l : LineInterface) : (l.frameEnd bytes).lowReported = l.lowReported := rfl
@[simp] theorem frameEnd_quiet (bytes : List Byte) (l : LineInterface) : (l.frameEnd bytes).quiet = l.quiet := rfl
@[simp] theorem frameEnd_low (bytes : List Byte) (l : LineInterface) : (l.frameEnd bytes).low = l.low := rfl
@[simp] theorem frameEnd_joinTime (bytes : List Byte) (l : LineInterface) : (l.frameEnd bytes).joinTime = l.joinTime := rfl
@[simp] theorem frameEnd_markLatch (bytes : List Byte) (l : LineInterface) : (l.frameEnd bytes).markLatch = l.markLatch := rfl

/-! ## `confirm` -/

@[simp] theorem confirm_top (f : Follower) : (f.confirm).top = f.top := rfl
@[simp] theorem confirm_nextBeat (f : Follower) : (f.confirm).nextBeat = f.nextBeat := rfl
@[simp] theorem confirm_confidence (f : Follower) : (f.confirm).confidence = f.confidence := rfl
@[simp] theorem confirm_misses (f : Follower) : (f.confirm).misses = f.misses := rfl
@[simp] theorem confirm_broaden (f : Follower) : (f.confirm).broaden = f.broaden := rfl
@[simp] theorem confirm_overrunPending (f : Follower) : (f.confirm).overrunPending = f.overrunPending := rfl
@[simp] theorem confirm_resyncPending (f : Follower) : (f.confirm).resyncPending = f.resyncPending := rfl
@[simp] theorem confirm_sticky (f : Follower) : (f.confirm).sticky = f.sticky := rfl
@[simp] theorem confirm_culprit (f : Follower) : (f.confirm).culprit = f.culprit := rfl
@[simp] theorem confirm_change (f : Follower) : (f.confirm).change = f.change := rfl
@[simp] theorem confirm_watch (f : Follower) : (f.confirm).watch = f.watch := rfl
@[simp] theorem confirm_hold (f : Follower) : (f.confirm).hold = f.hold := rfl

/-! ## `push` -/

@[simp] theorem push_nextBeat (f : Follower) (p : Nat) (t : Time) : (f.push p t).nextBeat = f.nextBeat := rfl
@[simp] theorem push_confidence (f : Follower) (p : Nat) (t : Time) : (f.push p t).confidence = f.confidence := rfl
@[simp] theorem push_misses (f : Follower) (p : Nat) (t : Time) : (f.push p t).misses = f.misses := rfl
@[simp] theorem push_broaden (f : Follower) (p : Nat) (t : Time) : (f.push p t).broaden = f.broaden := rfl
@[simp] theorem push_overrunPending (f : Follower) (p : Nat) (t : Time) : (f.push p t).overrunPending = f.overrunPending := rfl
@[simp] theorem push_resyncPending (f : Follower) (p : Nat) (t : Time) : (f.push p t).resyncPending = f.resyncPending := rfl
@[simp] theorem push_sticky (f : Follower) (p : Nat) (t : Time) : (f.push p t).sticky = f.sticky := rfl
@[simp] theorem push_culprit (f : Follower) (p : Nat) (t : Time) : (f.push p t).culprit = f.culprit := rfl
@[simp] theorem push_change (f : Follower) (p : Nat) (t : Time) : (f.push p t).change = f.change := rfl
@[simp] theorem push_watch (f : Follower) (p : Nat) (t : Time) : (f.push p t).watch = f.watch := rfl
@[simp] theorem push_hold (f : Follower) (p : Nat) (t : Time) : (f.push p t).hold = f.hold := rfl

/-! ## `keepInHand` -/

@[simp] theorem keepInHand_pending (s : State) : (keepInHand s).pending = s.pending := by unfold keepInHand; split <;> rfl
@[simp] theorem keepInHand_clock (s : State) : (keepInHand s).clock = s.clock := by unfold keepInHand; split <;> rfl
@[simp] theorem keepInHand_startup (s : State) : (keepInHand s).startup = s.startup := by unfold keepInHand; split <;> rfl
@[simp] theorem keepInHand_line (s : State) : (keepInHand s).line = s.line := by unfold keepInHand; split <;> rfl
@[simp] theorem keepInHand_front (s : State) : (keepInHand s).front = s.front := by unfold keepInHand; split <;> rfl
@[simp] theorem keepInHand_play (s : State) : (keepInHand s).play = s.play := by unfold keepInHand; split <;> rfl
@[simp] theorem keepInHand_cue (s : State) : (keepInHand s).cue = s.cue := by unfold keepInHand; split <;> rfl
@[simp] theorem keepInHand_gather (s : State) : (keepInHand s).gather = s.gather := by unfold keepInHand; split <;> rfl
@[simp] theorem keepInHand_follow (s : State) : (keepInHand s).follow = s.follow := by unfold keepInHand; split <;> rfl
@[simp] theorem keepInHand_sched (s : State) : (keepInHand s).sched = s.sched := by unfold keepInHand; split <;> rfl
@[simp] theorem keepInHand_out (s : State) : (keepInHand s).out = s.out := by unfold keepInHand; split <;> rfl
@[simp] theorem keepInHand_fault (s : State) : (keepInHand s).fault = s.fault := by unfold keepInHand; split <;> rfl

/-! ## The fields that are written -/

@[simp] theorem endOfFrame_line (bytes : List Byte) (s : State) : (endOfFrame bytes s).line = s.line.frameEnd bytes := rfl
@[simp] theorem latch_fault (ch : FaultNo) (s : State) :
    (latch ch s).fault = { s.fault with latches := s.fault.latches ||| channelBit ch } := rfl
@[simp] theorem emptyUnfired_sched (s : State) : (emptyUnfired s).sched = .initial := rfl
@[simp] theorem emptyFired_sched (s : State) : (emptyFired s).sched = .initial := rfl
@[simp] theorem emptyUnfired_counts (s : State) : (emptyUnfired s).out.counts = Vector.replicate 64 0 := rfl
@[simp] theorem enterSilenced_play (s : State) : (enterSilenced s).play = s.play.rest .silenced := rfl
@[simp] theorem enterSilenced_sched (s : State) : (enterSilenced s).sched = .initial := rfl
@[simp] theorem enterSilenced_store (s : State) : (enterSilenced s).store = silenceStore s.store := rfl
@[simp] theorem enterSilenced_gather (s : State) : (enterSilenced s).gather = emptyGather s.gather := rfl
@[simp] theorem enterSilenced_follow (s : State) : (enterSilenced s).follow = emptyFollower s.follow := rfl
@[simp] theorem enterHalted_state (s : State) : (enterHalted s).play.state = .halted := rfl
@[simp] theorem enterHalted_sched (s : State) : (enterHalted s).sched = .initial := rfl
@[simp] theorem enterHalted_queue (s : State) : (enterHalted s).line.queue = [] := rfl
@[simp] theorem release_onLine (l : LineInterface) : l.release.onLine = none := by
  unfold LineInterface.release
  split
  · rfl
  · simpa using ‹¬l.onLine.isSome = true›
@[simp] theorem enterHalted_onLine (s : State) : (enterHalted s).line.onLine = none := release_onLine _
@[simp] theorem enterHalted_joinTime (s : State) : (enterHalted s).line.joinTime = none := rfl
@[simp] theorem enterHalted_transmitter (s : State) : (enterHalted s).line.transmitter = .off := rfl
@[simp] theorem frameEnd_framing (bytes : List Byte) (l : LineInterface) : (l.frameEnd bytes).framing = .waitSync := rfl
@[simp] theorem frameEnd_high (bytes : List Byte) (l : LineInterface) : (l.frameEnd bytes).high = highTail bytes := rfl
@[simp] theorem setAnchor_top (a : Anchor) (s : State) : (setAnchor a s).follow.top = s.follow.top := rfl
@[simp] theorem setAnchor_watch (a : Anchor) (s : State) : (setAnchor a s).follow.watch = s.follow.watch := rfl
@[simp] theorem setAnchor_nextBeat (a : Anchor) (s : State) : (setAnchor a s).follow.nextBeat = s.follow.nextBeat := rfl
@[simp] theorem setAnchor_change (a : Anchor) (s : State) : (setAnchor a s).follow.change = s.follow.change := rfl
@[simp] theorem rest_state (p : PlayController) (st : PlayState) : (p.rest st).state = st := rfl
@[simp] theorem releaseCoils_onCoils (o : OutputStage) : (releaseCoils o).onCoils = Vector.replicate 16 none := rfl
@[simp] theorem releaseCoils_offCoils (o : OutputStage) : (releaseCoils o).offCoils = Vector.replicate 16 none := rfl
@[simp] theorem setEntry_table (e : EntryNo) (a : Option Action) (sc : Scheduler) : (setEntry e a sc).table = sc.table.set e a := rfl
@[simp] theorem setChannel_channels (c : ChannelNo) (ch : Channel) (sc : Scheduler) :
    (setChannel c ch sc).channels = sc.channels.set c ch := rfl

/-! ## `noteEnd` and `beforeChange` -/

@[simp] theorem noteEnd_pending (s : State) : (noteEnd s).pending = s.pending := by unfold noteEnd; split <;> rfl
@[simp] theorem noteEnd_clock (s : State) : (noteEnd s).clock = s.clock := by unfold noteEnd; split <;> rfl
@[simp] theorem noteEnd_startup (s : State) : (noteEnd s).startup = s.startup := by unfold noteEnd; split <;> rfl
@[simp] theorem noteEnd_line (s : State) : (noteEnd s).line = s.line := by unfold noteEnd; split <;> rfl
@[simp] theorem noteEnd_front (s : State) : (noteEnd s).front = s.front := by unfold noteEnd; split <;> rfl
@[simp] theorem noteEnd_play (s : State) : (noteEnd s).play = s.play := by unfold noteEnd; split <;> rfl
@[simp] theorem noteEnd_cue (s : State) : (noteEnd s).cue = s.cue := by unfold noteEnd; split <;> rfl
@[simp] theorem noteEnd_gather (s : State) : (noteEnd s).gather = s.gather := by unfold noteEnd; split <;> rfl
@[simp] theorem noteEnd_follow (s : State) : (noteEnd s).follow = s.follow := by unfold noteEnd; split <;> rfl
@[simp] theorem noteEnd_sched (s : State) : (noteEnd s).sched = s.sched := by unfold noteEnd; split <;> rfl
@[simp] theorem noteEnd_out (s : State) : (noteEnd s).out = s.out := by unfold noteEnd; split <;> rfl
@[simp] theorem noteEnd_fault (s : State) : (noteEnd s).fault = s.fault := by unfold noteEnd; split <;> rfl
@[simp] theorem beforeChange_pending (s : State) : (beforeChange s).pending = s.pending := by simp [beforeChange]
@[simp] theorem beforeChange_clock (s : State) : (beforeChange s).clock = s.clock := by simp [beforeChange]
@[simp] theorem beforeChange_startup (s : State) : (beforeChange s).startup = s.startup := by simp [beforeChange]
@[simp] theorem beforeChange_line (s : State) : (beforeChange s).line = s.line := by simp [beforeChange]
@[simp] theorem beforeChange_front (s : State) : (beforeChange s).front = s.front := by simp [beforeChange]
@[simp] theorem beforeChange_play (s : State) : (beforeChange s).play = s.play := by simp [beforeChange]
@[simp] theorem beforeChange_cue (s : State) : (beforeChange s).cue = s.cue := by simp [beforeChange]
@[simp] theorem beforeChange_gather (s : State) : (beforeChange s).gather = s.gather := by simp [beforeChange]
@[simp] theorem beforeChange_follow (s : State) : (beforeChange s).follow = s.follow := by simp [beforeChange]
@[simp] theorem beforeChange_sched (s : State) : (beforeChange s).sched = s.sched := by simp [beforeChange]
@[simp] theorem beforeChange_out (s : State) : (beforeChange s).out = s.out := by simp [beforeChange]
@[simp] theorem beforeChange_fault (s : State) : (beforeChange s).fault = s.fault := by simp [beforeChange]

end Sys2Proof.Machine
end

