-- ==== Sys2Proof/Laws/Ops.lean ====
section
/-! SUPPORT. Laws/Ops.lean: for each operation that several commands share, what it can do, said once. -/

namespace Sys2Proof.Machine

/-! ## Outcomes -/

theorem act_of_due {s t : State} {due : Bool} (h : due = true) : act s due t = .next t := by simp [act, h]

theorem act_of_not_due {s t : State} {due : Bool} (h : due = false) : act s due t = .next s := by simp [act, h]

/-- What an outcome of `act` says: the effect of an event that can happen, or the state as it was. -/
theorem act_cases {s t u : State} {due : Bool} (h : act s due t = .next u) : due = true ∧ u = t ∨ due = false ∧ u = s := by
  cases due <;> simp_all [act]

/-- Whatever `act` answers is a next state. -/
theorem act_next (s t : State) (due : Bool) : ∃ u, act s due t = .next u := ⟨_, rfl⟩

/-- A read that completes answers a next state. -/
theorem completeRead_next (units : List FlashUnit) (bytes : List Byte) (use : State → State) (s : State) :
    ∃ u, completeRead units bytes use s = .next u := by
  unfold completeRead
  exact ⟨_, rfl⟩

/-- A CUE frame received answers a next state. -/
theorem receiveCue_next (c : Cue) (bytes : List Byte) (s : State) : ∃ u, receiveCue c bytes s = .next u := by
  unfold receiveCue
  split
  · split <;> exact ⟨_, rfl⟩
  · exact ⟨_, rfl⟩

/-! ## The transmit queue (R9, R15, R16) -/

/-- The room made in a queue: the queue itself when it is not full, else without its first HEARD, else without its first PULSE. -/
theorem makeRoom_cases {q r : List QueuedFrame} (h : makeRoom q = some r) :
    (q.length < 8 ∧ r = q) ∨ (8 ≤ q.length ∧ r = q.eraseP QueuedFrame.isHeard ∧ r.length = q.length - 1) ∨
      (8 ≤ q.length ∧ r = q.eraseP QueuedFrame.isPulse ∧ r.length = q.length - 1) := by
  unfold makeRoom at h
  split at h
  · exact .inl ⟨‹_›, (Option.some.inj h).symm⟩
  · rename_i full
    have full : 8 ≤ q.length := Nat.le_of_not_lt full
    split at h
    · obtain ⟨a, mem, is⟩ := List.any_eq_true.1 ‹_›
      cases h
      exact .inr (.inl ⟨full, rfl, List.length_eraseP_of_mem mem is⟩)
    · split at h
      · obtain ⟨a, mem, is⟩ := List.any_eq_true.1 ‹_›
        cases h
        exact .inr (.inr ⟨full, rfl, List.length_eraseP_of_mem mem is⟩)
      · cases h

/-- Room is made by leaving frames out. -/
theorem makeRoom_sublist {q r : List QueuedFrame} (h : makeRoom q = some r) : r.Sublist q := by
  rcases makeRoom_cases h with ⟨-, rfl⟩ | ⟨-, rfl, -⟩ | ⟨-, rfl, -⟩
  · exact List.Sublist.refl _
  · exact List.eraseP_sublist
  · exact List.eraseP_sublist

/-- There is room for one frame more in what `makeRoom` leaves of a queue of at most eight. -/
theorem makeRoom_length {q r : List QueuedFrame} (h : makeRoom q = some r) (le : q.length ≤ 8) : r.length < 8 := by
  rcases makeRoom_cases h with ⟨lt, rfl⟩ | ⟨-, -, len⟩ | ⟨-, -, len⟩ <;> omega

/-- What an offer does to the queue: nothing for a HALT already queued; a HALT in front; another frame at the end, a PULSE in place of the one
queued; or no room. -/
theorem enqueue_cases (q : List QueuedFrame) (f : QueuedFrame) :
    (f.isHalt = true ∧ enqueue q f = (q, true)) ∨ (f.isHalt = true ∧ enqueue q f = (q, false)) ∨
      (f.isHalt = true ∧ (∀ g ∈ q, g.isHalt = false) ∧ ∃ r, makeRoom q = some r ∧ enqueue q f = (f :: r, true)) ∨
      (f.isHalt = false ∧
        let rest := if f.isPulse then q.filter (fun g => !g.isPulse) else q
        (∃ r, makeRoom rest = some r ∧ enqueue q f = (r ++ [f], true)) ∨ makeRoom rest = none ∧ enqueue q f = (rest, false)) := by
  unfold enqueue
  cases halt : f.isHalt
  · refine .inr (.inr (.inr ⟨rfl, ?_⟩))
    simp only [Bool.false_eq_true, if_false]
    cases makeRoom (if f.isPulse then q.filter (fun g => !g.isPulse) else q) with
    | none => exact .inr ⟨rfl, rfl⟩
    | some r => exact .inl ⟨r, rfl, rfl⟩
  · simp only [if_true]
    cases any : q.any QueuedFrame.isHalt
    · simp only [Bool.false_eq_true, if_false]
      have none_halts : ∀ g ∈ q, g.isHalt = false := by simpa using any
      cases room : makeRoom q with
      | none => exact .inr (.inl ⟨trivial, rfl⟩)
      | some r => exact .inr (.inr (.inl ⟨trivial, none_halts, r, rfl, rfl⟩))
    · exact .inl ⟨trivial, rfl⟩

/-- An offer leaves at most eight frames in the queue (R15). -/
theorem enqueue_length (q : List QueuedFrame) (f : QueuedFrame) (le : q.length ≤ 8) : (enqueue q f).1.length ≤ 8 := by
  rcases enqueue_cases q f with ⟨-, h⟩ | ⟨-, h⟩ | ⟨-, -, r, room, h⟩ | ⟨-, ⟨r, room, h⟩ | ⟨-, h⟩⟩
  · rw [h]; exact le
  · rw [h]; exact le
  · have := makeRoom_length room le
    rw [h]; simp; omega
  · have rest : (if f.isPulse then q.filter (fun g => !g.isPulse) else q).length ≤ 8 := by
      split
      · exact (List.length_filter_le _ _).trans le
      · exact le
    have := makeRoom_length room rest
    rw [h]; simp; omega
  · rw [h]
    dsimp only
    split
    · exact (List.length_filter_le _ _).trans le
    · exact le

/-- Every frame of the queue after an offer is the one offered or was there before. -/
theorem mem_enqueue {q : List QueuedFrame} {f g : QueuedFrame} (h : g ∈ (enqueue q f).1) : g = f ∨ g ∈ q := by
  have filtered : ∀ x, x ∈ (if f.isPulse then q.filter (fun g => !g.isPulse) else q) → x ∈ q := by
    intro x hx
    split at hx
    · exact (List.mem_filter.1 hx).1
    · exact hx
  rcases enqueue_cases q f with ⟨-, e⟩ | ⟨-, e⟩ | ⟨-, -, r, room, e⟩ | ⟨-, ⟨r, room, e⟩ | ⟨-, e⟩⟩ <;> rw [e] at h
  · exact .inr h
  · exact .inr h
  · rcases List.mem_cons.1 h with rfl | h
    · exact .inl rfl
    · exact .inr ((makeRoom_sublist room).subset h)
  · rcases List.mem_append.1 h with h | h
    · exact .inr (filtered _ ((makeRoom_sublist room).subset h))
    · exact .inl (List.mem_singleton.1 h)
  · exact .inr (filtered _ h)

/-- What a return from a clash does to the queue. -/
theorem requeue_cases (q : List QueuedFrame) (f : QueuedFrame) :
    requeue q f = (q, false) ∨ ∃ r, makeRoom q = some r ∧ requeue q f = (putFirst f r, true) := by
  unfold requeue
  split
  · exact .inl rfl
  · cases makeRoom q with
    | none => exact .inl rfl
    | some r => exact .inr ⟨r, rfl, rfl⟩

/-- A returning frame makes the queue one frame longer. -/
theorem putFirst_length (f : QueuedFrame) (q : List QueuedFrame) : (putFirst f q).length = q.length + 1 := by
  cases q with
  | nil => rfl
  | cons g gs => by_cases h : g.isHalt = true <;> simp [putFirst, h]

/-- The report that a FAULT frame has left changes silencing in progress at most. -/
theorem faultFrameLeft_cases (f : QueuedFrame) (s : State) :
    faultFrameLeft f s = s ∨
      f.isFault = true ∧ s.fault.silencing = some f.tag ∧ faultFrameLeft f s = { s with fault.silencing := none } := by
  unfold faultFrameLeft
  split
  · rename_i h
    simp only [Bool.and_eq_true, beq_iff_eq] at h
    exact .inr ⟨h.1, h.2, rfl⟩
  · exact .inl rfl

/-- An offered frame changes the queue at most, and nothing in HALTED (R21). -/
theorem offerFrame_cases (body : FrameBody) (t : Time) (s : State) :
    (s.isHalted = true ∧ offerFrame body t s = s) ∨
      (s.isHalted = false ∧ offerFrame body t s = { s with line.queue := (enqueue s.line.queue ⟨body, t, 0, 0⟩).1 }) := by
  unfold offerFrame
  cases h : s.isHalted <;> simp

/-! ## Faults and exceptions (R120, R184 to R190) -/

/-- What a request to enter SILENCED does (R79, R187, R202). -/
theorem silence_cases (s : State) :
    (s.play.state = .halted ∧ silence s = s) ∨
      (s.play.state = .starting ∧ silence s = { s with startup.silencingRecorded := true }) ∨
      (s.play.state ≠ .halted ∧ s.play.state ≠ .starting ∧ silence s = enterSilenced s) := by
  unfold silence
  cases h : s.play.state <;> simp

/-- What a LEAD reaction does (R73, R186): the play controller alone changes. -/
theorem leadReaction_cases (s : State) :
    leadReaction s = s ∨
      ∃ p : PlayController, leadReaction s = { s with play := p } ∧
        ((s.play.state = .leading ∧ p = { s.play with leadLock := true }) ∨
          (s.play.state = .following ∧ p = { s.play with state := .leading, leadLock := true, run := 0 }) ∨
          (s.play.state = .holding ∧ p = { s.play with leadLock := true, returnState := some .leading })) := by
  unfold leadReaction
  cases h : s.play.state
  case leading => exact .inr ⟨_, rfl, .inl ⟨rfl, rfl⟩⟩
  case following => exact .inr ⟨_, rfl, .inr (.inl ⟨rfl, rfl⟩)⟩
  case holding => exact .inr ⟨_, rfl, .inr (.inr ⟨rfl, rfl⟩)⟩
  all_goals exact .inl rfl

/-- Latching and reporting: nothing when the latch is set already, else the latch set and one FAULT frame offered (R184). -/
theorem latchAndReport_cases (ch : FaultNo) (s : State) :
    (s.latched ch = true ∧ latchAndReport ch s = s) ∨
      (s.latched ch = false ∧ latchAndReport ch s = offerFault ch (latch ch s)) := by
  unfold latchAndReport
  cases h : s.latched ch <;> simp

/-- What the raising of a fault channel can do (R184 to R190). -/
theorem raiseFault_cases (ch : FaultNo) (s : State) :
    ((s.isHalted = true ∨ s.running = false) ∧ raiseFault ch s = s) ∨
      (s.isHalted = false ∧ s.running = true ∧
        ((s.cfg.reactions[ch] = .report ∧ raiseFault ch s = latchAndReport ch s) ∨
          (s.cfg.reactions[ch] = .lead ∧ raiseFault ch s = leadReaction (latchAndReport ch s)) ∨
          (s.cfg.reactions[ch] = .silence ∧ s.fault.silencing.isSome = true ∧ raiseFault ch s = enterHalted (latch ch s)) ∨
          (s.cfg.reactions[ch] = .silence ∧ s.fault.silencing = none ∧
            raiseFault ch s = silence (nameSilencing ch s (latchAndReport ch s))))) := by
  unfold raiseFault
  cases halted : s.isHalted
  · cases running : s.running
    · exact .inl ⟨.inr rfl, rfl⟩
    · refine .inr ⟨rfl, rfl, ?_⟩
      cases s.cfg.reactions[ch]
      · exact .inl ⟨rfl, rfl⟩
      · exact .inr (.inl ⟨rfl, rfl⟩)
      · cases silencing : s.fault.silencing
        · exact .inr (.inr (.inr ⟨rfl, rfl, by simp⟩))
        · exact .inr (.inr (.inl ⟨rfl, rfl, by simp⟩))
  · exact .inl ⟨.inl rfl, by simp⟩

/-- Naming the frame of silencing in progress changes that name at most. -/
theorem nameSilencing_cases (ch : FaultNo) (b s : State) :
    nameSilencing ch b s = s ∨ nameSilencing ch b s = { s with fault.silencing := some b.fault.nextTag } := by
  unfold nameSilencing
  split
  · exact .inr rfl
  · exact .inl rfl

/-- A follower exception: nothing outside play; in play its sticky flag and default action, and unmasked the FOLLOW channel with the culprit
recorded (R120 to R123). -/
theorem takeException_cases (e : FollowerException) (c : Option (Station × BitVec 8)) (s : State) :
    (s.inPlay = false ∧ takeException e c s = s) ∨
      (s.inPlay = true ∧
        let t := exceptionDefault e { s with follow.sticky := s.follow.sticky ||| (1#7 <<< e.bit) }
        (s.masked e = true ∧ takeException e c s = t) ∨
          (s.masked e = false ∧ takeException e c s = raiseFault 2 (if c.isSome then { t with follow.culprit := c } else t))) := by
  unfold takeException
  cases s.inPlay
  · exact .inl ⟨rfl, by simp⟩
  · cases s.masked e
    · exact .inr ⟨rfl, .inr ⟨rfl, by simp⟩⟩
    · exact .inr ⟨rfl, .inl ⟨rfl, by simp⟩⟩

/-- An observation delivered (R83, R84). -/
theorem deliver_cases (o : Observation) (s : State) :
    (s.inPlay = false ∧ deliver o s = s) ∨
      (s.inPlay = true ∧ s.gather.queue.length < 32 ∧ deliver o s = { s with gather.queue := s.gather.queue ++ [o] }) ∨
      (s.inPlay = true ∧ 32 ≤ s.gather.queue.length ∧ ∃ head rest, s.gather.queue = head :: rest ∧
        deliver o s =
          takeException .overrun (some (s.stationOf head.source, head.sequence)) { s with gather.queue := rest ++ [o] }) := by
  unfold deliver
  cases s.inPlay
  · exact .inl ⟨rfl, by simp⟩
  · refine .inr ?_
    cases q : s.gather.queue with
    | nil => exact .inl ⟨rfl, by simp, by simp⟩
    | cons head rest =>
      by_cases room : (head :: rest).length < Config.observationCapacity
      · exact .inl ⟨rfl, room, by simp only [if_true, if_pos room]⟩
      · exact .inr ⟨rfl, Nat.le_of_not_lt room, head, rest, rfl, by simp only [if_true, if_neg room]⟩

/-! ## Changes and the table -/

/-- A stage runs while a change is in hand (R107). -/
theorem stage_cases (f : State → State) (s : State) :
    (s.follow.change.isSome = true ∧ stage f s = f s) ∨ (s.follow.change = none ∧ stage f s = s) := by
  unfold stage
  cases h : s.follow.change <;> simp

/-- What a change of the ruling anchor does to the readers before it: the next insertion is in hand at most (R53, R54). -/
theorem keepInHand_cases (s : State) : keepInHand s = s ∨ keepInHand s = { s with store.notes.inHand := true } := by
  unfold keepInHand
  split
  · exact .inr rfl
  · exact .inl rfl

/-- What a change of the ruling anchor leaves standing of the position before it changes the note reader's two notes at most (R53 to R55). -/
theorem beforeChange_cases (s : State) :
    ∃ inHand passed, beforeChange s = { s with store.notes := { s.store.notes with inHand := inHand, endPassed := passed } } ∧
      (s.store.notes.inHand = true → inHand = true) ∧ (s.store.notes.endPassed = true → passed = true) := by
  unfold beforeChange noteEnd
  rcases keepInHand_cases s with h | h <;> rw [h] <;> split <;>
    exact ⟨_, _, rfl, by simp_all, by simp_all⟩

/-- The acceptance of a close: nothing when the close has been withdrawn meanwhile; else the unit free, the mark's SUNG flag served, the weights
changed (R95, R102). -/
theorem acceptClose_cases (mark : Nat) (weights : Vector Peer 16 → Vector Peer 16) (s : State) :
    acceptClose mark weights s = s ∨
      (∃ g, s.gather.taking = .close g) ∧
        acceptClose mark weights s =
          serveSung (fun m => m.position == mark)
            { s with gather := { s.gather with taking := .free, peers := weights s.gather.peers } } := by
  unfold acceptClose
  split
  · rename_i g h
    exact .inr ⟨⟨g, h⟩, rfl⟩
  · exact .inl rfl

/-- The line released: high when a frame of the station's own stood on it (R17). -/
theorem release_cases (l : LineInterface) :
    l.onLine = none ∧ l.release = l ∨ l.onLine.isSome = true ∧ l.release = { l with onLine := none, low := false } := by
  unfold LineInterface.release
  cases h : l.onLine <;> simp

/-- A bit time ages the front end's port by a tick at most (R36, log 46). -/
theorem frontAdvance_cases (f : FrontEnd) (ticks : Bool) :
    ticks = false ∧ f.advance ticks = f ∨ ticks = true ∧ f.advance ticks = { f with portTicks := f.portTicks + 1 } := by
  cases ticks <;> simp [FrontEnd.advance]

/-- The test for hymn end stops play or does nothing (R78). -/
theorem testHymnEnd_cases (s : State) :
    testHymnEnd s = s ∨
      s.moving = true ∧ s.store.notes.endReached = true ∧ tableEmpty s = true ∧ testHymnEnd s = stopPlay s := by
  unfold testHymnEnd
  split
  · rename_i h
    simp only [Bool.and_eq_true] at h
    exact .inr ⟨h.1.1, h.1.2, h.2, rfl⟩
  · exact .inl rfl

/-- The entry freed is empty afterwards, and the others are as they were (R147). -/
theorem freeEntry_table (e : EntryNo) (sc : Scheduler) : (freeEntry e sc).table = sc.table.set e none := by
  have freed (a : Action) : (freeChannelOf a sc).table = sc.table := by
    unfold freeChannelOf
    split <;> rfl
  unfold freeEntry
  split
  · simp [freed]
  · rename_i h
    symm
    rw [← h]
    exact Vector.set_getElem_self _

/-- A stop pulse at the output stage, in the terms of the statements (R156, R174). -/
theorem pulseCoil_eq (stop : StopNo) (coil : Coil) (ends : Time) (o : OutputStage) :
    pulseCoil stop coil ends o = o.withPulse stop coil ends := by
  cases coil <;> simp only [pulseCoil, OutputStage.withPulse, coilUntil, laterOf] <;> congr 2 <;> split <;> simp_all

/-- The bits of a line end in the run that is counted of them, after a low bit when there is one (R12). -/
theorem highRun_spec (bits : List Bool) (h : false ∈ bits) :
    ∃ before, bits = before ++ List.replicate (highRun bits) true ∧ before.getLast? = some false := by
  induction bits using List.reverseRecOn with
  | nil => simp at h
  | append_singleton bits b ih =>
    cases b with
    | false => exact ⟨bits ++ [false], by simp [highRun], by simp⟩
    | true =>
      obtain ⟨before, e, l⟩ := ih (by simpa using h)
      refine ⟨before, ?_, l⟩
      have run : highRun (bits ++ [true]) = highRun bits + 1 := by simp [highRun]
      rw [run, List.replicate_succ', ← List.append_assoc, ← e]

/-- Every command answers a next state (log 2): no command faults or is refused. -/
theorem exec_next (c : Instr) (s : State) : ∃ t, exec c s = .next t := by
  have reads (units : List FlashUnit) (bytes : List Byte) (use : State → State) := completeRead_next units bytes use s
  cases c
  case select b => exact receiveCue_next .select b s
  case start b => exact receiveCue_next .start b s
  case stop b => exact receiveCue_next .stop b s
  case restart b => exact receiveCue_next .restart b s
  all_goals first
    | exact ⟨_, rfl⟩
    | exact reads _ _ _
    | skip
  all_goals
    simp only [exec, execSampleTaken, execFrameClash, execFrameComplete, execInvalidFrame, execHeardReceived, execPulseReceived,
      execHaltReceived, execFaultReceived, execDuplicate, execOnsetTaken, execReleaseTaken, execGatherOpen, execGatherCloseExpiry,
      execGatherCloseTaken, execClusterTaken, execBeatEvent, execHoldPointReached, execHoldLimitExpiry, execHoldRelease,
      execRetimeVisit, execChannelExpiry, execStopPulseEnd, execValveFrameLatch, execBroadenMarkReached]
    repeat' split
    all_goals exact ⟨_, rfl⟩

end Sys2Proof.Machine
end

