-- ==== Sys2Proof/Tests/Slice0.lean ====
section
/-! SUPPORT. Tests/Slice0.lean: the manual's worked examples run on the model, the ill-formed commands refused, and for every statement of
Certificates/Slice0/Obligations.lean that has hypotheses a state and operands that meet them. -/

namespace Sys2Proof.Tests

open Sys2Proof.Machine

/-! One theorem is checked at a time: each kernel evaluation takes a thread of its own otherwise. -/
set_option Elab.async false

/-! ## Ill-formed commands -/

theorem test_wf_section_length : Instr.wellFormed (.configurationSectionRead (List.replicate 68 0)) = false := by decide
theorem test_wf_sample_edges : Instr.wellFormed (.sampleTaken (List.replicate 16 (.bit true)) 0) = false := by decide
theorem test_wf_mark_short : Instr.wellFormed (.frameMark 10) = false := by decide
theorem test_wf_mark_long : Instr.wellFormed (.frameMark 14) = false := by decide
theorem test_wf_clash_bit : Instr.wellFormed (.frameClash 173 true) = false := by decide
theorem test_wf_held_low : Instr.wellFormed (.lineHeldLow 200) = false := by decide
theorem test_wf_rejected_mark : Instr.wellFormed (.syncMarkRejected 13) = false := by decide
theorem test_wf_invalid_frame : Instr.wellFormed (.invalidFrame (List.replicate 17 0) []) = false := by decide
theorem test_wf_broken_byte :
    Instr.wellFormed (.invalidFrame [] [false]) = false ∧ Instr.wellFormed (.invalidFrame [] [true]) = true := by decide
theorem test_wf_heard : Instr.wellFormed (.heardReceived (List.replicate 8 0)) = false := by decide
theorem test_wf_pulse : Instr.wellFormed (.pulseReceived (List.replicate 15 0)) = false := by decide
theorem test_wf_halt : Instr.wellFormed (.haltReceived []) = false := by decide
theorem test_wf_fault : Instr.wellFormed (.faultReceived (List.replicate 9 0)) = false := by decide
theorem test_wf_duplicate : Instr.wellFormed (.duplicate (List.replicate 3 0)) = false := by decide
theorem test_wf_cues :
    Instr.wellFormed (.select []) = false ∧ Instr.wellFormed (.start []) = false ∧ Instr.wellFormed (.stop []) = false ∧
      Instr.wellFormed (.restart []) = false := by decide
theorem test_wf_directory : Instr.wellFormed (.directoryRead [0, 0, 0]) = false := by decide
theorem test_wf_header : Instr.wellFormed (.headerRead (List.replicate 58 0)) = false := by decide
theorem test_wf_plan : Instr.wellFormed (.versePlanRead (List.replicate 24 0)) = false := by decide
theorem test_wf_mark_block : Instr.wellFormed (.markBlockRead (List.replicate 7 0)) = false := by decide
theorem test_wf_note_block : Instr.wellFormed (.noteBlockRead (List.replicate 87 0)) = false := by decide
theorem test_wf_good : Instr.wellFormed (.frameMark 12) = true ∧ Instr.wellFormed (.markBlockRead (List.replicate 66 0)) = true := by decide

/-! ## Helpers -/

/-- The state after a command. -/
def after (c : Instr) (s : State) : State :=
  match exec c s with
  | .next t => t
  | _ => s

/-- The state after a run of commands. -/
def afterAll (cs : List Instr) (s : State) : State := cs.foldl (fun t c => after c t) s

/-- A state at another time. -/
def atTime (n : Nat) (s : State) : State := { s with clock.time := BitVec.ofNat 32 n }

/-- Bytes with their check. -/
def withCheck (bytes : List Byte) : List Byte := bytes ++ crcBytes (crc bytes)

/-- Station 12 of the manual's examples: it listens and plays division 1. -/
def config : Configuration :=
  { Configuration.defaults with play := true, division := some 1, chamberDelay := 550, zones := [⟨0, 700⟩, ⟨36, 280⟩] }

/-- The four-verse hymn of R42's example, with empty streams. -/
def header : Header := ⟨212, 6000, 32, 4, 24, 31, 2, ⟨145, 0⟩, Vector.replicate 8 ⟨145, 0⟩⟩

/-- A verse plan entry that draws stops 0 and 3 of division 1. -/
def planEntry (mode : SwellMode) (scale : Nat) : PlanEntry :=
  ⟨0b01111#5, (Vector.replicate 8 0).set 1 0b1001#16, mode, 60, 200, scale⟩

/-- The hymn loaded. -/
def hymn : Hymn := ⟨3000, header, [planEntry .quick 16, planEntry .steady 16, planEntry .fixed 16, planEntry .slow 18]⟩

/-- Station 12 in IDLE, on the line. -/
def idle : State :=
  { State.reset with
    clock := ⟨1000000, 0, 0⟩
    startup := { StartUp.initial with step := .done, strap := 12, config := config }
    line := { LineInterface.initial with transmitter := .active, quiet := some 100 }
    front := { FrontEnd.initial with lastSample := 1000000, portTicks := 50 }
    play := { PlayController.initial with state := .idle }
    out := { OutputStage.initial false with cutoff := ⟨false, false, 0, [], true, 1000000⟩, pwmStart := some 1000000, frameStart := 1000000 } }

/-- The same station with the hymn loaded, both readers at their ends. -/
def loaded : State :=
  { idle with
    play.state := .loaded
    store :=
      { ScoreStore.initial with
        hymn := some hymn
        marks := { MarkReader.initial with phase := .running, sect := 4, ended := true }
        notes := { NoteReader.initial with phase := .running, sect := 4, planned := 0b1001#16, finished := true } } }

/-- The same station in play under an anchor, in verse 1. -/
def playing (st : PlayState) (anchor : Anchor) : State :=
  { loaded with
    play := { loaded.play with state := st, sect := some 1 }
    follow :=
      { Follower.initial with
        slots := (Vector.replicate 4 none).set 0 (some ⟨.active, anchor, none⟩), nextBeat := some (anchor.position / 24 + 1) } }

/-- A mark that carries SUNG alone. -/
def sungAt (position : Nat) : Mark := ⟨position, .unserved, .absent, .absent, position, 0⟩

/-- A peer entry that is PRESENT with a weight. -/
def peer (weight : Nat) : Peer := ⟨true, 1000000, weight, none⟩

/-- The bytes of a frame. -/
def frame (sender : Station) (body : FrameBody) (age : Nat) : List Byte := encodeFrame ⟨sender, body, age⟩

/-- An ONSET of a peer. -/
def onset (p : Station) (time : Time) (weight : Nat) : Observation := ⟨.peer p, .onset, time, 7, weight⟩

/-! ## Formats (chapter 12) -/

/-- R204: the nine bytes of "123456789" give 0x29B1. -/
theorem test_crc_text : crc [0x31, 0x32, 0x33, 0x34, 0x35, 0x36, 0x37, 0x38, 0x39] = 0x29B1#16 := by decide +kernel

/-- R205: the HEARD frame of the clash example, before its check. -/
theorem test_heard_bytes :
    (frame 9 (.heard .onset 118 14) 260).take 7 = [0x19, 0x05, 0x00, 0x76, 0x04, 0x01, 0x0E] := by decide +kernel

/-- R3: the duration of each kind in bit times. -/
theorem test_frame_bits :
    (frameBits (frame 9 (.heard .onset 118 14) 260)).length = 103 ∧ (frameBits (frame 3 .halt 0)).length = 63 := by decide +kernel

/-- R4, R6: the quiet ends at the first low bit, and a station whose wait passes in another's sync mark begins no frame. -/
theorem test_quiet_ends :
    let s : State := { idle with line := { idle.line with queue := [⟨.cue .start 1, 0, 0, 0⟩], quiet := some 30 } }
    let t := after (.lineQuiet 0) s
    t.line.quiet = none ∧ t.line.high = 0 ∧ (after .syncMarkBegin (afterAll [.lineQuiet 0] t)).line.onLine = none ∧
      ((after .syncMarkBegin (after (.lineQuiet 47) t)).line.onLine).isSome = true := by decide +kernel

/-- R197: the zones of the example. -/
theorem test_zones :
    mergeZones [⟨0, 700⟩, ⟨24, 500⟩, ⟨36, 280⟩, ⟨36, 900⟩, ⟨30, 400⟩, ⟨48, 200⟩, ⟨60, 150⟩, ⟨60, 120⟩] =
      [⟨0, 700⟩, ⟨24, 500⟩, ⟨36, 280⟩, ⟨48, 200⟩, ⟨60, 150⟩] := by decide

/-- R42: the four-verse hymn. -/
theorem test_positions :
    header.verseStart 1 = 10 ∧ header.verseStart 4 = 112 ∧ header.endBeat = 144 ∧ header.place 0 27 12 = 84 ∧
      header.place 3 27 12 = 2532 ∧ header.sectionStart 2 = 42 ∧ header.sectionOf 43 = 2 := by decide

/-- R106: the period limits of two hymns. -/
theorem test_period_limits :
    header.minPeriod = 4500 ∧ header.maxPeriod = 9000 ∧ ({ header with period := 2100 } : Header).minPeriod = 2000 ∧
      ({ header with period := 2100 } : Header).maxPeriod = 3150 := by decide

/-! ## The line (chapter 1) -/

/-- Station 9 with its HEARD on the line, past the frame mark (R9's example). -/
def sending : State :=
  { idle with
    startup := { idle.startup with strap := 9 }
    clock.time := 500391
    line :=
      { idle.line with
        onLine := some ⟨⟨.heard .onset 118 14, 500140, 0, 0⟩, some 251⟩, framing := .receiving, markLatch := 500391, quiet := none } }

/-- R9: the clash at data bit 3 of the first byte returns the frame to the head with a count of 1. -/
theorem test_clash :
    (after (.frameClash 17 false) sending).line.queue = [⟨.heard .onset 118 14, 500140, 1, 0⟩] ∧
      (after (.frameClash 17 false) sending).line.onLine = none ∧ waitOf 9 1 = 47 ∧ waitOf 1 2 = 27 := by decide +kernel

/-- R8, R9: a low in the high bit time is a clash too once the frame mark is latched, and the station goes on as a receiver; before the mark the
line is still held low, and the receive framing waits for quiet. -/
theorem test_clash_in_high_bit :
    let before : State :=
      { sending with line := { sending.line with onLine := sending.line.onLine.map ({ · with age := none }), framing := .waitSync } }
    (after (.frameClash 12 false) sending).line.queue = [⟨.heard .onset 118 14, 500140, 1, 0⟩] ∧
      (after (.frameClash 12 false) sending).line.framing = .receiving ∧ (after (.frameClash 11 true) sending).line.onLine = none ∧
      (after (.frameClash 12 false) before).line.framing = .waitQuiet ∧ (after (.frameClash 13 true) before) = before := by decide +kernel

/-- R13: the second attempt writes the age 260. -/
theorem test_second_mark :
    ((after (.frameMark 12)
        (atTime 500400 { sending with
          line := { sending.line with framing := .waitSync, onLine := some ⟨⟨.heard .onset 118 14, 500140, 1, 0⟩, none⟩ } })).line.onLine).bind
      (·.age) = some 260#16 := by decide +kernel

/-- R14: station 4 places the event at 7,302,395. -/
theorem test_event_time :
    ((after (.heardReceived (frame 9 (.heard .onset 118 14) 260))
        { playing .following ⟨480, 1000000, 6000⟩ with
          line := { idle.line with framing := .receiving, markLatch := 7302655 } }).gather.queue.map (·.time)) = [7302395] := by
  decide +kernel

/-- A queued frame of the full-queue example. -/
def queued (body : FrameBody) : QueuedFrame := ⟨body, 0, 0, 0⟩

/-- R15, R16: the full queue of the example, after the HEARD, the PULSE and the HALT. -/
theorem test_full_queue :
    let h (n : BitVec 8) := queued (.heard .onset n 0)
    let p (b : Nat) := queued (.pulse ⟨1, b, 6000, 0, .leading, 0, false, false, false, false, false, none⟩)
    let start := queued (.cue .start 1)
    let late := queued (.fault 3 .report none 0)
    let q0 := [h 40, h 41, start, h 42, p 17, h 43, late, h 44]
    let q1 := (enqueue q0 (h 45)).1
    let q2 := (enqueue q1 (p 18)).1
    let q3 := (enqueue q2 (queued .halt)).1
    q1 = [h 41, start, h 42, p 17, h 43, late, h 44, h 45] ∧ q2 = [h 41, start, h 42, h 43, late, h 44, h 45, p 18] ∧
      q3 = [queued .halt, start, h 42, h 43, late, h 44, h 45, p 18] := by decide +kernel

/-- R16: the HALT that returns from a clash to the full queue displaces the oldest HEARD and stands at the head. -/
theorem test_halt_returns :
    let h (n : BitVec 8) := queued (.heard .onset n 0)
    let x := queued (.fault 7 .silence none 0)
    (requeue [x, h 42, h 43, x, h 44, h 45, x, x] ⟨.halt, 0, 1, 0⟩).1 = [⟨.halt, 0, 1, 0⟩, x, h 43, x, h 44, h 45, x, x] := by decide +kernel

/-! ## Sound (chapter 2) -/

/-- Station 6 of the example, before block 1 completes. -/
def choir : Configuration := { config with pickupDelay := 180 }

/-- The front end before block 1 of the example. -/
def hearing : FrontEnd := { FrontEnd.initial with history := [130, 110, 140, 150], sequence := 41 }

/-- R28: the onset of the example. -/
theorem test_onset :
    let a := blockDone choir 600080 1800 hearing
    let b := blockDone choir 600160 3100 a.1
    a.2 = none ∧ a.1.candidate = some (.onset 600080 1800 132 1 1800) ∧ b.2 = some ⟨.onset, 599900, 14⟩ ∧ b.1.peak = 3100 ∧
      b.1.refractory = some 601100 ∧ b.1.detector = .sounding ∧ b.1.history = [140, 150, 1800, 3100] := by decide +kernel

/-- R30, R26: the release of the example, and block 10 refused before the refractory expiry. -/
theorem test_release :
    let f := { hearing with detector := Detector.sounding, peak := 3400, history := [2900, 3400, 2500, 1200], refractory := some 601100 }
    let a := blockDone choir 600560 800 f
    let b := blockDone choir 600640 600 a.1
    let c := blockDone choir 600720 700 b.1
    let d := blockDone choir 600800 2400 c.1
    b.2 = some ⟨.release, 600380, 26⟩ ∧ b.1.detector = .quiet ∧ d.2 = none ∧ d.1.candidate = none := by decide +kernel

/-- The sixteen bits of a sample, the first the most significant. -/
def sampleBits (n : Nat) : List Bool := (List.range 16).map fun i => n.testBit (15 - i)

/-- R23: bits after the sixteenth and before the first word sync edge are ignored, a sample cut short is discarded, and the first bit is the most
significant. -/
theorem test_port :
    let bits := sampleBits 0xCFFE
    (readPort none (portEdges [true, false] [[true, true, true]] bits)).map sampleValue = some 0xCFFE#16 ∧
      portMagnitude bits = 12290 ∧ readPort none (portEdges [] [] (bits ++ [true])) = none ∧
      readPort none (portEdges [] [] (bits.drop 1)) = none ∧
      (after (.sampleTaken (portEdges [] [] bits) 7) idle).front.block = ⟨1, 12290, 999993⟩ := by decide +kernel

/-- R36: a RESTART out of HALTED has the pins read from that moment: a sample whose word sync edge came a tick before it is not taken, one whose
edge came with it is. R23: in IDLE they were read throughout, and a sample begun before the RESTART is taken. -/
theorem test_pins_read_from_restart :
    let edges := portEdges [] [] (sampleBits 3)
    let h := enterHalted idle
    let s := restarted h
    (after (.sampleTaken edges 1) s).front.block.count = 0 ∧ (after (.sampleTaken edges 0) s).front.block = ⟨1, 3, 1000000⟩ ∧
      (after (.sampleTaken edges 0) h).front.block.count = 0 ∧
      (after (.sampleTaken edges 50) (restarted idle)).front.block = ⟨1, 3, 999950⟩ := by decide +kernel

/-! ## The score (chapter 3) -/

/-- The note reader at the intro of the priming example, records 1 and 2 in its buffer. -/
def priming : State :=
  { loaded with
    store :=
      { loaded.store with
        hymn := some { hymn with header := { header with notes := Vector.replicate 8 ⟨145, 2⟩ } }
        notes :=
          { NoteReader.initial with
            phase := .running, block := 1, buffer := [⟨24, 0, 24, 40, 0⟩, ⟨24, 0, 48, 28, 3⟩] } } }

/-- R54: the two stop actions of the intro stand at 0 in the lowest entries, and the planned stop set takes them. -/
theorem test_stop_actions :
    (after .stopActionInsert priming).sched.table[0] = some ⟨.waiting, .stop 0 .on, 0, 1500, none, .absent⟩ ∧
      (after .stopActionInsert priming).sched.table[1] = some ⟨.waiting, .stop 3 .on, 0, 1500, none, .absent⟩ ∧
      (after .stopActionInsert priming).store.notes.planned = 0b1001#16 := by decide +kernel

/-- R53: records 1 and 2 of the example enter as pairs, with the releases at 22 and 46. -/
theorem test_note_pairs :
    let t := afterAll [.stopActionInsert, .notePairInsert, .notePairInsert] priming
    t.sched.table[2] = some ⟨.waiting, .noteOn 40, 0, 850, none, .entry 3⟩ ∧
      t.sched.table[3] = some ⟨.waiting, .noteOff 40, 22, 620, none, .entry 2⟩ ∧
      t.sched.table[5] = some ⟨.waiting, .noteOff 28, 46, 620, none, .entry 4⟩ := by decide +kernel

/-! ## Play (chapter 4) -/

/-- A CUE frame of station 5 about to end, its mark latched at 61,004. -/
def atCue (s : State) : State :=
  { s with clock.time := 61007, line := { s.line with framing := .receiving, markLatch := 61004 } }

/-- R67: START puts play beat 0 at 67,004. -/
theorem test_start :
    let t := after (.start (frame 5 (.cue .start 212) 0)) (atCue loaded)
    t.play.state = .leading ∧ t.ruling = some ⟨0, 67004, 6000⟩ ∧ t.follow.nextBeat = some 0 := by decide +kernel

/-- R66: SELECT begins a load, with the directory's count asked for. -/
theorem test_select :
    let t := after (.select (frame 5 (.cue .select 212) 0)) (atCue idle)
    t.play.state = .loading ∧ t.store.port.serving = some ⟨.directoryCount, 2048, 2⟩ := by decide +kernel

/-- R66: a load begun for a join bars its hymn when it fails, even after a STOP has cleared the join. -/
theorem test_join_load_barred :
    let s : State := { atCue idle with play.state := .loading, play.join := some ⟨212, none⟩, play.joinLoad := some 212, store.loader := .count 212 }
    (loadFailed (after (.stop (frame 5 (.cue .stop 0) 0)) s)).play.barred = some 212 := by decide +kernel

/-! ## Gathers and the line (chapters 5 and 6) -/

/-- Station 12 of the gather example, its gather of 504 about to open. -/
def gathering (st : PlayState) : State :=
  { playing st ⟨480, 1000000, 6000⟩ with
    clock.time := 1004500
    store.queue := [sungAt 504, sungAt 528]
    gather :=
      { GatherUnit.initial with
        previousSung := some 480
        closed := [⟨998500, 1001500⟩]
        peers := ((((GatherUnit.initial.peers.set 5 (peer 8)).set 3 (peer 8)).set 7 (peer 0)).set 9 (peer 4)).set 14 (peer 8) }
    follow := { (playing st ⟨480, 1000000, 6000⟩).follow with confidence := 9 } }

/-- R89, R90: the window and the close expiry of the gather of 504. -/
theorem test_gather_opens :
    let t := after .gatherOpen (gathering .following)
    t.gather.opens.map (·.window) = [⟨1004500, 1007500⟩] ∧ t.gather.opens.map (·.expiry) = [1007800] ∧
      t.gather.previousSung = some 504 := by decide +kernel

/-- The observations of the gather example taken, and the gather closed at its expiry. -/
def closed (st : PlayState) : State :=
  let t := after .gatherOpen (gathering st)
  let u :=
    { t with
      gather.queue := [onset 9 1003900 4, onset 5 1006180 8, onset 3 1006240 8, onset 7 1006250 0, onset 9 1006400 4] }
  after (.gatherCloseExpiry 0) (atTime 1007800 (afterAll (List.replicate 5 .onsetTaken) u))

/-- R91: the first ONSET is STALE; the others are members with a sum of 20. -/
theorem test_members :
    (closed .following).follow.sticky = 0b0001000#7 ∧
      (match (closed .following).gather.taking with
        | .close g => g.sum == 20 && g.members.length == 4
        | _ => false) = true := by decide +kernel

/-- R108 to R110: the close in FOLLOWING. -/
theorem test_close_following :
    let t := after .gatherCloseTaken (closed .following)
    t.ruling = some ⟨504, 1006093, 6016⟩ ∧ t.follow.confidence = 10 ∧ t.store.queue = [sungAt 528] ∧ t.gather.taking = .free := by
  decide +kernel

/-- R109: the same close in LEADING, and in FOLLOWING with overrun pending. -/
theorem test_close_leading :
    (after .gatherCloseTaken (closed .leading)).ruling = some ⟨504, 1006023, 6000⟩ ∧
      (after .gatherCloseTaken
          { closed .following with follow := { (closed .following).follow with overrunPending := true } }).ruling =
        some ⟨504, 1006093, 6000⟩ := by decide +kernel

/-- R96: the weights after the close. -/
theorem test_weights :
    let p := (after .gatherCloseTaken (closed .following)).gather.peers
    (p[5].weight, p[3].weight, p[7].weight, p[9].weight, p[14].weight) = (9, 9, 1, 5, 8) := by decide +kernel

/-- R112: the third VOID close in FOLLOWING raises DIVERGE. -/
theorem test_diverge :
    let s := { closed .following with
      gather.taking := .close ⟨504, some 24, some 24, ⟨1004500, 1007500⟩, 1007800, [], 0⟩
      follow := { (closed .following).follow with misses := 2, confidence := 1 } }
    let t := after .gatherCloseTaken s
    t.play.state = .leading ∧ t.follow.misses = 0 ∧ t.follow.confidence = 0 ∧ t.latched 2 = true := by decide +kernel

/-- A claim of the coupling example. -/
def claim (beat : Nat) (time heard : Time) (period confidence : Nat) (tempo : Tempo) : Claim :=
  ⟨⟨212, beat, period, confidence, tempo, 0, false, false, false, false, false, none⟩, time, heard⟩

/-- Station 12 of the coupling example, its beat 22 due. -/
def coupling : State :=
  { playing .following ⟨504, 1006093, 6016⟩ with
    clock.time := 1012109
    gather.peers :=
      (((GatherUnit.initial.peers.set 2 ⟨true, 1006162, 8, some (claim 21 1006140 1006162 6010 9 .following)⟩).set 7
          ⟨true, 1006074, 8, some (claim 21 1006050 1006074 6030 11 .following)⟩).set 10
        ⟨true, 1006141, 6, some (claim 21 1006120 1006141 6020 3 .leading)⟩).set 13
          ⟨true, 1004130, 5, some (claim 21 1004100 1004130 6000 7 .following)⟩
    follow := { (playing .following ⟨504, 1006093, 6016⟩).follow with confidence := 10 } }

/-- R116 to R118: the coupling example. -/
theorem test_coupling :
    let t := after .beatEvent coupling
    t.ruling = some ⟨528, 1012110, 6016⟩ ∧ t.follow.nextBeat = some 23 ∧
      t.line.queue.map (fun f => (f.eventTime, f.body.kind)) = [(1012109, 2)] := by decide +kernel

/-- R71: the boundary of verse 4 scales 5980 to 6728. -/
theorem test_section :
    let s := { playing .following ⟨2616, 1000000, 5980⟩ with
      clock.time := 1005980
      play := { (playing .following ⟨2616, 1000000, 5980⟩).play with sect := some 3, leadLock := true } }
    let t := after .beatEvent { s with follow := { s.follow with nextBeat := some 110 } }
    t.period = 6728 ∧ t.play.state = .leading ∧ t.play.sect = some 4 ∧ t.play.leadLock = false := by decide +kernel

/-- R115: the first two broadenings of the last-verse example. -/
theorem test_broaden :
    let s := { playing .leading ⟨3240, 893272, 6728⟩ with
      clock.time := 900000
      play := { (playing .leading ⟨3240, 893272, 6728⟩).play with sect := some 4 }
      store.queue := [⟨3264, .absent, .absent, .unserved, 3264, 0⟩] }
    let t := after .beatEvent s
    t.period = 6833 ∧ t.store.queue = [] ∧ (after .beatEvent (atTime 906833 t)).period = 6940 := by decide +kernel

/-! ## Early arrivals and holds (chapter 7) -/

/-- Station 12 of the early-arrival example. -/
def early : State :=
  { playing .following ⟨552, 1018125, 6016⟩ with
    clock.time := 1020230
    store.queue := [sungAt 576, sungAt 600]
    gather :=
      { GatherUnit.initial with
        previousSung := some 528
        closed := [⟨1004500, 1007500⟩, ⟨1010605, 1013613⟩]
        peers := (((GatherUnit.initial.peers.set 5 (peer 9)).set 3 (peer 9)).set 7 (peer 1)).set 9 (peer 5)
        queue := [onset 5 1020010 9, onset 3 1020090 9, onset 9 1020300 5, onset 7 1020160 1] }
    out.counts := (Vector.replicate 64 0).set 36 1
    sched.table :=
      ((((Vector.replicate 64 none).set 0 (some ⟨.waiting, .noteOff 36, 574, 620, some 1023020, .fired 1020383⟩)).set 1
            (some ⟨.waiting, .noteOn 38, 570, 850, some 1021787, .entry 2⟩)).set 2
          (some ⟨.waiting, .noteOff 38, 574, 620, some 1023020, .entry 1⟩)).set 3
        (some ⟨.waiting, .noteOn 40, 576, 850, some 1023291, .entry 4⟩) |>.set 4
        (some ⟨.waiting, .noteOff 40, 598, 620, some 1029036, .entry 3⟩) }

/-- The cluster of the example handed over. -/
def clustered : State := atTime 1020430 (afterAll (List.replicate 4 .onsetTaken) early)

/-- R98: the cluster's time is 1,020,107. -/
theorem test_cluster :
    (match clustered.gather.taking with
      | .cluster c => c.time == 1020107 && c.members.length == 4
      | _ => false) = true ∧ clustered.gather.pool = [] := by decide +kernel

/-- The push of the example. -/
def pushed : State := after .clusterTaken clustered

/-- R129, R136: the push writes slot 3 over the covered slot 0, and key 38 is suspended. -/
theorem test_push :
    pushed.follow.top = 3 ∧ pushed.follow.slots[3] = some ⟨.provisional, ⟨576, 1020107, 6016⟩, some 576⟩ ∧
      pushed.follow.slots[0] = some ⟨.fallback, ⟨552, 1018125, 6016⟩, none⟩ ∧ pushed.follow.nextBeat = some 24 ∧
      (pushed.sched.table[1]).map (·.state) = some (.held .slip) ∧ (pushed.sched.table[2]).map (·.state) = some (.held .slip) := by
  decide +kernel

/-- R158, R153: the pass of the push fires the release of key 36 and drops key 40 as late. -/
theorem test_slip_pass :
    let t := afterAll (List.replicate 4 .retimeVisit) pushed
    t.out.counts[36] = 0 ∧ t.sched.table[0] = none ∧ t.sched.table[3] = none ∧ t.sched.table[4] = none ∧ t.latched 3 = true ∧
      t.sched.pass = none := by decide +kernel

/-- R131, R99: the cluster's own close counts one toward confirmation and raises the weights. -/
theorem test_first_close :
    let t := after .gatherCloseTaken (after .beatEvent pushed)
    t.follow.confirmCount = 1 ∧ t.ruling = some ⟨576, 1020107, 6016⟩ ∧
      (t.gather.peers[5].weight, t.gather.peers[9].weight, t.gather.peers[7].weight) = (10, 6, 2) := by decide +kernel

/-- The gather of mark 600 handed over with members whose mean error is 40, after the first close. -/
def nextClose (members : List Observation) : State :=
  let t := after .gatherCloseTaken (after .beatEvent pushed)
  { t with
    clock.time := 1027927
    gather.taking := .close ⟨600, some 24, none, ⟨1024619, 1027627⟩, 1027927, members, (members.map (·.weight)).sum⟩ }

/-- R131, R137: the second matched close confirms and frees the held pair. -/
theorem test_confirm :
    let t := after .gatherCloseTaken (nextClose [onset 5 1026163 10])
    t.follow.slots[3] = some ⟨.active, ⟨600, 1026138, 6019⟩, some 576⟩ ∧ t.follow.slots[0] = none ∧
      t.sched.table[1] = none ∧ t.sched.table[2] = none := by decide +kernel

/-- R132, R137: a VOID close rolls back to the covered line and resumes the held pair. -/
theorem test_rollback :
    let t := after .gatherCloseTaken (nextClose [])
    t.follow.top = 0 ∧ t.follow.slots[0] = some ⟨.active, ⟨552, 1018125, 6016⟩, none⟩ ∧ t.follow.slots[3] = none ∧
      (t.sched.table[1]).map (·.state) = some .waiting ∧ t.position = 591 ∧ t.follow.misses = 1 := by decide +kernel

/-- Station 12 of the fermata example, its hold point due. -/
def fermata : State :=
  { playing .following ⟨744, 1994000, 6000⟩ with
    clock.time := 2000000
    store.queue := [⟨744, .served, .unserved, .absent, 768, 3⟩, sungAt 792]
    follow :=
      { (playing .following ⟨744, 1994000, 6000⟩).follow with nextBeat := some 32, watch := some ⟨744, 768⟩ }
    out.counts := (Vector.replicate 64 0).set 40 1
    sched :=
      { Scheduler.initial with
        barrier := some 768
        table :=
          (((Vector.replicate 64 none).set 0 (some ⟨.waiting, .noteOff 40, 768, 620, some 1999380, .fired 1993250⟩)).set 1
              (some ⟨.waiting, .noteOn 41, 792, 850, some 2005150, .entry 2⟩)).set 2
            (some ⟨.waiting, .noteOff 41, 814, 620, some 2010880, .entry 1⟩) } }

/-- R139: the hold of the example. -/
theorem test_hold :
    let t := after .holdPointReached fermata
    t.play.state = .holding ∧ t.follow.hold = some ⟨744, 768, 1994000, 2018000, 0, [], false⟩ ∧
      (t.sched.table[0]).map (·.state) = some (.held .hold) ∧ t.play.returnState = some .following ∧ t.position = 768 := by
  decide +kernel

/-- The hold with the RELEASEs of the example taken. -/
def released : State :=
  let r (p : Station) (time : Time) (w : Nat) : Observation := ⟨.peer p, .release, time, 3, w⟩
  let t := after .holdPointReached fermata
  atTime 2009700
    (afterAll (List.replicate 5 .releaseTaken)
      { t with
        gather.queue := [r 7 1993620 2, r 5 2009160 10, r 5 2009300 10, r 3 2009240 10, r 9 2009390 6] })

/-- R141: the release falls due at a sum of 26. -/
theorem test_release_sum :
    (released.follow.hold).map (fun h => (h.sum, h.sources, h.due)) = some (26, [.peer 5, .peer 3, .peer 9], true) := by decide +kernel

/-- R143: the release re-anchors at H, and the pass fires the fermata's NOTE_OFF. -/
theorem test_hold_release :
    let t := after .holdRelease released
    t.ruling = some ⟨768, 2009700, 6000⟩ ∧ t.play.state = .following ∧ t.gather.playStart = 2009700 ∧
      (after .retimeVisit t).out.counts[40] = 0 ∧
      ((afterAll [.retimeVisit, .retimeVisit] t).sched.table[1]).map (·.due) = some (some 2014850) := by decide +kernel

/-! ## The action table (chapter 8) -/

/-- Station 12 of the chord example: the NOTE_ONs of keys 40 and 44 ARMED, those of 47 and the stop WAITING. -/
def chord : State :=
  { playing .following ⟨984, 2005700, 5950⟩ with
    clock.time := 2005060
    sched :=
      { table :=
          (((((Vector.replicate 64 none).set 2 (some ⟨.armed 0, .noteOn 40, 984, 850, some 2005150, .entry 3⟩)).set 3
                  (some ⟨.waiting, .noteOff 40, 1006, 620, some 2010880, .entry 2⟩)).set 6
                (some ⟨.waiting, .noteOn 47, 996, 850, some 2008150, .entry 7⟩)).set 7
              (some ⟨.waiting, .noteOff 47, 1006, 620, some 2010880, .entry 6⟩)).set 8
            (some ⟨.waiting, .stop 5 .on, 996, 1500, some 2007500, .absent⟩)
        channels := (Vector.replicate 8 .free).set 0 (.waiting 2 2005150)
        pass := some .start
        barrier := none } }

/-- R159, R155: the first visit fires the chord's NOTE_ON at once and records the floor. -/
theorem test_retime_fires :
    let t := after .retimeVisit chord
    t.out.counts[40] = 1 ∧ t.sched.table[2] = none ∧ (t.sched.table[3]).map (·.pair) = some (.fired 2004950) ∧
      t.sched.channels[0] = .free := by decide +kernel

/-- R158: the rest of the pass. -/
theorem test_retime_pass :
    let t := afterAll (List.replicate 5 .retimeVisit) chord
    ((t.sched.table[6]).bind (·.due), (t.sched.table[8]).bind (·.due), (t.sched.table[3]).bind (·.due)) =
        (some 2007825, some 2007175, some 2010534) ∧ t.sched.pass = none := by decide +kernel

/-- R152, R156: the stop arms within its horizon and pulses at its expiry. -/
theorem test_stop_pulse :
    let t := after (.actionArm 8) (atTime 2006975 (afterAll (List.replicate 5 .retimeVisit) chord))
    let u := after (.channelExpiry 0) (atTime 2007175 t)
    t.sched.channels[0] = .waiting 8 2007175 ∧ u.sched.channels[0] = .pulsing 2008175 ∧ u.sched.table[8] = none ∧
      u.out.onCoils[5] = some 2008175 ∧ u.out.stopImage = 0x20#16 ∧
      (after (.stopPulseEnd 0) (atTime 2008175 u)).sched.channels[0] = .free := by decide +kernel

/-! ## Outputs (chapter 9) -/

/-- R177, R178: the swell across the section boundary. -/
theorem test_swell :
    stepLevel [(8, 125), (10, 110), (6, 140)] = some 123 ∧ swellTarget (planEntry .steady 16) (some 123) 100 = 128 ∧
      slewTo (SwellMode.steady.slew) 100 128 = 112 ∧ pwmHighTicks 112 = 88 ∧ pwmHighTicks 124 = 97 := by decide +kernel

/-- R173: the third asserted sample silences the station and puts a HALT at the head of the queue. -/
theorem test_cutoff :
    let s := { playing .following ⟨480, 1000000, 6000⟩ with
      clock.time := 1000010
      line.queue := [queued (.fault 3 .report none 0)]
      out := { idle.out with cutoff := ⟨true, false, 2, [], true, 1000000⟩, counts := (Vector.replicate 64 0).set 28 1 } }
    let t := after .assertionEdge s
    t.play.state = .silenced ∧ t.line.queue.map (·.body) = [.halt, .fault 3 .report none 0] ∧ t.valveImage = 0 := by decide +kernel

/-- A running station whose mismatch report is set and whose next mismatch is the third in a row. -/
def broken : State :=
  { idle with out := { idle.out with frame := some 0, sent := some 0, mismatchRun := 2, mismatchReported := true } }

/-- R171: under a set report a third mismatch raises nothing, a match clears the report, and the third mismatch after it raises again. -/
theorem test_valve_after_match :
    let t := after (.valveFrameLatch 0) broken
    (after (.valveFrameLatch 1) broken).fault.latches = 0 ∧ t.out.mismatchReported = false ∧
      (after (.valveFrameLatch 1) { t with out := { t.out with frame := some 0, mismatchRun := 2 } }).latched 7 = true := by decide +kernel

/-- R171, R181, R203: a RESTART keeps the report, so a third mismatch after it raises nothing; once the all-off image has matched, a chain that is
still broken raises VALVE again. -/
theorem test_valve_after_restart :
    let s := restarted { broken with fault.latches := 128#8 }
    let t := after (.valveFrameLatch 0) s
    s.fault.latches = 0 ∧ s.out.mismatchReported = true ∧ (after (.valveFrameLatch 1) s).fault.latches = 0 ∧
      (after (.valveFrameLatch 1) { t with out := { t.out with frame := some 0, mismatchRun := 2 } }).latched 7 = true := by decide +kernel

/-- R171: a third mismatch in a row raises VALVE, which silences the station and names its FAULT frame. -/
theorem test_valve_fault :
    let s := { idle with out := { idle.out with frame := some 0, sent := some 0, mismatchRun := 2 } }
    let t := after (.valveFrameLatch 1) s
    t.play.state = .silenced ∧ t.latched 7 = true ∧ t.fault.silencing = some 0 ∧ t.out.mismatchReported = true ∧
      t.out.mismatchRun = 0 := by decide +kernel

/-- R189: a second SILENCE raise before the first frame has left halts the station. -/
theorem test_double_fault :
    let t := raiseFault 7 (raiseFault 7 idle)
    t.play.state = .halted ∧ t.line.queue = [] ∧ t.line.transmitter = .off ∧ t.attn = true ∧ t.logicEnable = false := by decide +kernel

/-! ## Start-up (chapter 11) -/

/-- R196: a damaged section gives the defaults and raises CONFIG; the check of the station goes on. -/
theorem test_damaged_section :
    let t := after (.configurationSectionRead (List.replicate 69 0)) (after (.fullStart 11) State.reset)
    t.cfg = Configuration.defaults ∧ t.latched 5 = true ∧ t.startup.step = .checks ∧ t.startup.strap = 11 := by decide +kernel

/-- R201: the off-pulses end, the line is joined, and the station comes up IDLE. -/
theorem test_full_start_ends :
    let s := { after (.fullStart 11) State.reset with
      clock.time := 1082
      startup := { StartUp.initial with step := .pulses, strap := 11, config := config, pulsesEnd := 1082 } }
    let t := after .offPulsesEnd s
    let u := after .joinCountComplete { t with line.joinTime := some 500, line.high := 500 }
    t.startup.step = .joining ∧ t.line.joinTime = some 0 ∧ u.startup.step = .done ∧ u.play.state = .idle ∧
      u.line.transmitter = .active := by decide +kernel

/-- R1: the counter ticks after 25 bit times, and not before. -/
theorem test_tick :
    (bitTime { idle with clock := ⟨7, 23, 0⟩ }).clock = ⟨7, 24, 0⟩ ∧ (bitTime { idle with clock := ⟨7, 24, 0⟩ }).clock = ⟨8, 0, 0⟩ := by
  decide +kernel

/-! ## Witnesses: the machine as a whole -/

/-- A HALTED station. -/
def halted : State := enterHalted idle

/-- A following station whose table, channels and counts are in use. -/
def busy : State := { chord with pending := [.retimeVisit], out.counts := Vector.replicate 64 0 }

theorem witness_IdleStepIsOneBitTime :
    (State.reset.pending = [] ∧ State.reset.running = false) ∧ (idle.pending = [] ∧ idle.running = true ∧ since 1000000 1000000 < 10) ∧
      (let s := { atTime 1000010 idle with out.cutoff.differing := 2 };
        s.running = true ∧ 10 ≤ since s.now s.out.cutoff.sampledAt ∧ s.out.cutoff.pin = s.out.cutoff.asserted) ∧
      (let s := { atTime 1000010 idle with out.cutoff := ⟨true, false, 1, [], true, 1000000⟩ };
        s.running = true ∧ 10 ≤ since s.now s.out.cutoff.sampledAt ∧ s.out.cutoff.pin ≠ s.out.cutoff.asserted ∧
          s.out.cutoff.differing < 2) ∧
      (let s := { atTime 1000010 idle with out.cutoff := ⟨true, false, 0, [false], false, 1000000⟩ };
        s.running = true ∧ 10 ≤ since s.now s.out.cutoff.sampledAt ∧ s.out.cutoff.settled = false ∧ s.out.cutoff.early.length < 2) ∧
      (let s := { atTime 1000010 idle with out.cutoff := ⟨true, false, 0, [true, true], false, 1000000⟩ };
        s.running = true ∧ 10 ≤ since s.now s.out.cutoff.sampledAt ∧ s.out.cutoff.settled = false ∧
          s.out.cutoff.early = [s.out.cutoff.pin, s.out.cutoff.pin]) := by decide +kernel

theorem witness_ExecKeepsPending : ∃ t, exec .retimeVisit busy = .next t := ⟨_, rfl⟩

theorem witness_IdentityAndTimeKept : ∃ t, exec .resetAsserted busy = .next t ∧ ∀ n, Instr.resetAsserted ≠ .fullStart n :=
  ⟨_, rfl, fun _ h => by cases h⟩

theorem witness_QueueStaysLegal :
    ({ sending with pending := [.frameClash 17 false] } : State).line.queueLegal = true ∧
      ∃ t, step { sending with pending := [.frameClash 17 false] } = .next t := ⟨by decide +kernel, _, rfl⟩

theorem witness_HaltedStaysQuiet :
    (halted.haltedQuiet = true ∧ halted.isHalted = true ∧ halted.mutedEmpty = true) ∧ ∃ t, exec .bothHeldRestart halted = .next t :=
  ⟨by decide +kernel, _, rfl⟩

theorem witness_StackStaysLegal :
    (({ pushed with pending := [.gatherCloseTaken] } : State).stackLegal && pushed.startLegal && pushed.loaderLegal) = true ∧
      ∃ t, step { pushed with pending := [.gatherCloseTaken] } = .next t := ⟨by decide +kernel, _, rfl⟩

theorem witness_MutedStaysEmpty :
    ({ enterSilenced busy with pending := [.retimeVisit] } : State).mutedEmpty = true ∧
      ∃ t, step { enterSilenced busy with pending := [.retimeVisit] } = .next t := ⟨by decide +kernel, _, rfl⟩

theorem witness_TableStaysLegal : (busy.sched.legal && busy.countsMatch) = true ∧ ∃ t, step busy = .next t := ⟨by decide +kernel, _, rfl⟩

theorem witness_PeriodStaysInLimits :
    (busy.periodsLegal && busy.stackLegal && busy.startLegal && busy.loaderLegal) = true ∧ ∃ t, step busy = .next t :=
  ⟨by decide +kernel, _, rfl⟩

theorem witness_CountsAndWeightsStayInRange :
    ((closed .following).countsInRange && (closed .following).weightsInRange) = true ∧
      ∃ t, step { closed .following with pending := [.gatherCloseTaken] } = .next t := ⟨by decide +kernel, _, rfl⟩

/-! ## Witnesses: formats -/

theorem witness_FrameRoundTrip :
    (⟨15, .heard .release 255 255, 65535⟩ : WireFrame).inRange = true ∧
      (⟨0, .pulse ⟨1023, 65535, 24000, 15, .following, 255, true, true, true, true, true, none⟩, 65535⟩ : WireFrame).inRange = true ∧
      (⟨0, .pulse ⟨0, 0, 2000, 0, .leading, 0, false, false, false, false, false, some 15⟩, 0⟩ : WireFrame).inRange = true ∧
      (⟨3, .cue .restart 1023, 0⟩ : WireFrame).inRange = true ∧ (⟨3, .halt, 0⟩ : WireFrame).inRange = true ∧
      (⟨3, .fault 7 .silence (some 15) 255, 0⟩ : WireFrame).inRange = true := by decide +kernel

theorem witness_SectionItems :
    let zs : List Zone := [⟨10, 700⟩, ⟨36, 280⟩, ⟨30, 400⟩]
    (0 < zs.length ∧ zs[0].lower < zs[1].lower) ∧
      (⟨36, 280⟩ ∈ mergeZones zs ∧ 36 ≤ 36 ∧ ∀ y ∈ mergeZones zs, y.lower ≤ 36 → y.lower ≤ 36) ∧
      (zs.head? = some ⟨10, 700⟩ ∧ ∀ y ∈ mergeZones zs, 9 < y.lower) := by decide +kernel

theorem witness_RecordFields :
    (511 < 2 ^ 9 ∧ 31 < 2 ^ 5 ∧ 255 < 2 ^ 8 ∧ 15 < 2 ^ 4 ∧ 7 < 2 ^ 3) ∧ 4095 < 2 ^ 12 ∧ parseMark (2 ^ 32 - 1) = ⟨511, 31, true, true, true, 255, 15⟩ ∧
      parseNote (2 ^ 40 - 1) = ⟨511, 31, 4095, 63, 7⟩ := by decide +kernel

theorem witness_PredictedTime : (⟨480, 1000000, 6000⟩ : Anchor).position % 24 = 0 := by decide

/-! ## Witnesses: start-up -/

/-- A station reading its configuration section. -/
def reading : State := after (.fullStart 11) State.reset

/-- A section of one byte repeated, with its check, the first byte the division given. -/
def sectionBytes (division : Byte) : List Byte := withCheck (division :: List.replicate 66 0)

theorem witness_ConfigurationTaken :
    (reading.startup.step = .read ∧ reading.play.state = .starting ∧
        reading.store.port = { FlashPort.initial with serving := some ⟨.configuration, 1408, 69⟩ } ∧ (sectionBytes 7).length = 69) ∧
      (checked (sectionBytes 7) = true ∧ field (sectionBytes 7) 0 1 < 8) ∧
      (checked (sectionBytes 255) = true ∧ field (sectionBytes 255) 0 1 = 255) ∧
      (checked (List.replicate 69 0) = false ∧ reading.latched 5 = false) ∧
      (checked (sectionBytes 8) = true ∧ 8 ≤ field (sectionBytes 8) 0 1 ∧ field (sectionBytes 8) 0 1 ≠ 255) := by decide +kernel

/-- A station in its self-checks, 1000 ticks after the configuration read. -/
def checking (lossReported : Bool) (valve : Option Nat) (play : Bool) : State :=
  { State.reset with
    clock.time := 1000
    startup := { StartUp.initial with step := .checks, soundCheck := true, valveCheck := valve, config := { config with play := play } }
    front.lossReported := lossReported }

/-- A station whose count of the high line is complete. -/
def joining (step : StartStep) (recorded : Bool) : State :=
  { State.reset with
    startup := { StartUp.initial with step := step, silencingRecorded := recorded }
    line.joinTime := some 500, line.high := 500 }

theorem witness_StartUpSteps :
    (let s := checking true none true;
      s.startup.step = .checks ∧ s.startup.soundCheck = true ∧ 1000 ≤ since s.now s.startup.configEnd) ∧
      (checking true (some 3) true).startup.valveCheck.isSome = true ∧ (checking true none false).cfg.play = false ∧
      (let s := checking false none true;
        s.front.lossReported = false ∧ s.play.state = .starting ∧ s.cfg.reactions[(6 : FaultNo)] = .report ∧ s.latched 6 = false) ∧
      (let s : State := { checking true none true with front := { FrontEnd.initial with block := ⟨63, 900, 900⟩ } };
        s.listening = true ∧ s.front.block.count = 63 ∧ s.front.history = [] ∧ s.front.detector = .quiet ∧ s.front.candidate = none ∧
          since s.now s.startup.configEnd ≤ 1000 ∧ s.startup.valveCheck = none ∧ s.cfg.play = true) ∧
      (let s : State := { State.reset with startup := { StartUp.initial with step := .pulses } };
        s.startup.step = .pulses ∧ reached s.startup.pulsesEnd s.now = true) ∧
      (let s := joining .joining false;
        s.line.transmitter = .joining ∧ s.line.joinTime = some 500 ∧ s.line.high = 500 ∧ s.startup.silencingRecorded = false) ∧
      idle.line.joinTime = none ∧
      (joining .done false).startup.step ≠ .joining ∧ (joining .joining true).startup.silencingRecorded = true := by decide +kernel

/-! ## Witnesses: the station line -/

theorem witness_LineLevels :
    idle.running = true ∧ (idle.line.onLine = none ∧ idle.line.lowReported = false ∧ 11 ≤ 11) ∧
      (idle.line.framing ≠ .receiving ∧ 10 < 11) ∧ sending.line.onLine.isSome = true ∧ idle.line.framing = .waitSync ∧
      (11 ≤ 11 ∧ 11 ≤ 13) ∧ 13 < 14 ∧ 10 < 11 ∧ sending.line.framing ≠ .waitSync ∧ idle.line.transmitter ≠ .off ∧ 200 < 201 ∧
      ({ idle with line.lowReported := true } : State).line.lowReported = true ∧
      (idle.isHalted = false ∧ idle.cfg.reactions[(0 : FaultNo)] = .report ∧ idle.latched 0 = false) := by decide +kernel

/-- Station 12 with frames in its queue, its wait done. -/
def waiting (queue : List QueuedFrame) : State := { idle with line.queue := queue, line.quiet := some 36 }

theorem witness_SyncMarkBegins :
    let old : QueuedFrame := ⟨.heard .onset 1 0, 999200, 0, 0⟩
    let fresh : QueuedFrame := ⟨.heard .onset 2 0, 999201, 0, 0⟩
    let s := waiting [old, fresh]
    (s.line.transmitter = .active ∧ s.line.onLine = none ∧ s.line.framing ≠ .receiving ∧ s.line.quiet = some 36) ∧
      (800 < since (s.now + 1) old.eventTime ∧ ¬800 < since (s.now + 1) fresh.eventTime) ∧ 3 * s.startup.strap.val ≤ 36 ∧
      (waiting [old]).line.queue = old :: [] ∧
      (let s : State := { waiting [fresh] with line.quiet := some 35 };
        s.line.quiet = some 35 ∧ 35 < 3 * s.startup.strap.val) ∧
      ({ waiting [fresh] with line.quiet := none } : State).line.quiet = none := by decide +kernel

/-- A frame of station 12 on the line with a clash count, the queue given. -/
def clashing (body : FrameBody) (clashes : Nat) (queue : List QueuedFrame) : State :=
  { idle with
    line := { idle.line with onLine := some ⟨⟨body, 0, clashes, 4⟩, some 0⟩, framing := .receiving, queue := queue } }

/-- A PULSE, a HEARD and a CUE as frames of a queue. -/
def pulseFrame : QueuedFrame := queued (.pulse ⟨1, 17, 6000, 0, .leading, 0, false, false, false, false, false, none⟩)
def heardFrame : QueuedFrame := queued (.heard .onset 1 0)
def cueFrame : QueuedFrame := queued (.cue .start 1)

/-- Queues that an entering frame finds: with room, full with HEARD frames behind a PULSE, full without a HEARD, and full of neither; a queued
PULSE that a new one replaces, in a full queue; a queued HALT. -/
theorem witness_ClashedFrame_entry :
    (cueFrame.body ≠ .halt ∧ [heardFrame].length < 8) ∧
      (let q := cueFrame :: pulseFrame :: heardFrame :: List.replicate 5 heardFrame;
        q = [cueFrame, pulseFrame] ++ heardFrame :: List.replicate 5 heardFrame ∧ 8 ≤ q.length ∧
          (∀ x ∈ [cueFrame, pulseFrame], x.isHeard = false) ∧
          q = [cueFrame] ++ pulseFrame :: List.replicate 6 heardFrame ∧ q.length ≤ 8 ∧
          ∀ x ∈ [cueFrame] ++ List.replicate 6 heardFrame, x.isPulse = false) ∧
      (let q := cueFrame :: pulseFrame :: List.replicate 6 cueFrame;
        q = [cueFrame] ++ pulseFrame :: List.replicate 6 cueFrame ∧ 8 ≤ q.length ∧ ∀ x ∈ q, x.isHeard = false) ∧
      (∀ x ∈ List.replicate 8 cueFrame, x.isHeard = false ∧ x.isPulse = false ∧ x.isHalt = false) ∧
      ((queued .halt).body = .halt ∧ queued .halt ∈ [queued .halt, cueFrame]) := by decide +kernel

theorem witness_ClashedFrame :
    (let s := clashing (.cue .start 1) 6 [heardFrame];
      s.line.onLine = some ⟨⟨.cue .start 1, 0, 6, 4⟩, some 0⟩ ∧ s.sentBits[13]? = some false ∧ true ≠ false ∧ 6 < 7 ∧
        s.line.queue.length < 8) ∧
      (let s := clashing (.cue .start 1) 6 (cueFrame :: pulseFrame :: heardFrame :: List.replicate 5 heardFrame);
        s.line.queue = [cueFrame, pulseFrame] ++ heardFrame :: List.replicate 5 heardFrame ∧ 8 ≤ s.line.queue.length) ∧
      (let s := clashing (.heard .onset 3 0) 0 (cueFrame :: pulseFrame :: List.replicate 6 cueFrame);
        s.sentBits[13]? = some false ∧ s.line.queue = [cueFrame] ++ pulseFrame :: List.replicate 6 cueFrame ∧ 8 ≤ s.line.queue.length) ∧
      (let s := clashing (.fault 7 .silence none 0) 0 (List.replicate 8 cueFrame);
        s.sentBits[13]? = some false ∧ s.line.queue = List.replicate 8 cueFrame ∧ 8 ≤ s.line.queue.length) ∧
      (let s := clashing pulseFrame.body 0 [pulseFrame];
        s.sentBits[13]? = some false ∧ pulseFrame ∈ s.line.queue) ∧
      (let s := clashing .halt 0 [queued .halt];
        s.sentBits[13]? = some false ∧ queued .halt ∈ s.line.queue) ∧
      (let s := clashing (.fault 3 .report none 0) 7 [];
        s.sentBits[13]? = some false ∧ 7 ≤ 7 ∧ s.isHalted = false ∧ s.running = true ∧ s.cfg.reactions[(0 : FaultNo)] = .report ∧
          s.latched 0 = false) := by decide +kernel

theorem witness_OwnFrameCompletes :
    (let s := clashing (.heard .onset 1 0) 0 [];
      s.line.onLine = some ⟨⟨.heard .onset 1 0, 0, 0, 4⟩, some 0⟩ ∧ (⟨.heard .onset 1 0, 0, 0, 4⟩ : QueuedFrame).isHeard = true) ∧
      (let f : QueuedFrame := ⟨.fault 7 .silence none 0, 0, 0, 4⟩;
        f.isFault = true ∧ ({ clashing f.body 0 [] with fault.silencing := some 4 } : State).fault.silencing = some f.tag ∧
          (clashing f.body 0 []).fault.silencing ≠ some f.tag) ∧
      (⟨.cue .stop 5, 0, 0, 4⟩ : QueuedFrame).body = .cue .stop 5 := by decide +kernel

/-- A station that is receiving a frame marked at 1,000,000. -/
def receivingFrame (s : State) : State := { s with line := { s.line with framing := .receiving, markLatch := 1000000 } }

theorem witness_FramesNotDelivered :
    let s := receivingFrame idle
    let h := receivingFrame halted
    (s.running = true ∧ s.line.onLine = none ∧ s.line.framing = .receiving) ∧ judgeFrame [] = .malformed ∧
      (List.replicate 8 true).length = 8 ∧
      judgeFrame (withCheck [0x45, 0x01, 0x01]) = .invalid ∧
      (judgeFrame (frame 12 .halt 0) = .valid ⟨12, .halt, 0⟩ ∧ s.startup.strap = 12 ∧ s.isHalted = false ∧
        s.cfg.reactions[(1 : FaultNo)] = .report ∧ s.latched 1 = false) ∧
      (h.isHalted = true ∧ h.running = true ∧ h.line.onLine = none ∧ h.line.framing = .receiving ∧ h.startup.strap = 12 ∧
        judgeFrame (frame 5 .halt 0) = .valid ⟨5, .halt, 0⟩ ∧
        judgeFrame (frame 5 (.cue .select 7) 0) = .valid ⟨5, .cue .select 7, 0⟩) := by decide +kernel

/-- R12: the high bits in which a discarded frame ends count on through the wait for quiet, and stand when the quiet is told. -/
theorem test_discarded_frame_run :
    let s : State := { receivingFrame idle with line.quiet := none }
    let t := after (.invalidFrame [0x45, 0xFF] []) s
    let u := (List.range 11).foldl (fun u _ => bitTime u) t
    t.line.high = 9 ∧ t.line.framing = .waitQuiet ∧ u.line.high = 20 ∧ (after (.lineQuiet 11) u).line.high = 20 ∧
      (after (.invalidFrame [] [true]) s).line.high = 2 ∧
      (after (.invalidFrame [] (false :: List.replicate 8 true ++ [false])) s).line.low = true := by decide +kernel

/-- The following station receiving a frame. -/
def receivingInPlay : State := receivingFrame (gathering .following)

theorem witness_HeardFrameTaken :
    let s := receivingInPlay
    let full : State := { s with gather.queue := List.replicate 32 (onset 5 1000000 8) }
    (s.running = true ∧ s.line.onLine = none ∧ s.line.framing = .receiving ∧ s.isHalted = false ∧ s.startup.strap = 12) ∧
      (judgeFrame (frame 5 (.heard .onset 1 9) 800) = .valid ⟨5, .heard .onset 1 9, 800⟩ ∧ s.inPlay = true ∧
        s.gather.queue.length < 32) ∧
      (full.gather.queue.length = 32 ∧
        ({ full with startup.config.masks := 0x7F#7 } : State).masked .overrun = true) ∧
      (judgeFrame (frame 5 (.heard .onset 1 9) 801) = .valid ⟨5, .heard .onset 1 9, 801⟩ ∧ s.masked .stale = true) ∧
      (let u : State := { s with startup.config.masks := 0#7 };
        u.inPlay = true ∧ u.cfg.reactions[(2 : FaultNo)] = .report ∧ u.latched 2 = false ∧ (latch 2 u).latched 2 = true ∧
          u.masked .stale = false ∧ u.masked .overrun = false ∧ full.gather.queue = onset 5 1000000 8 :: List.replicate 31 (onset 5 1000000 8)) ∧
      (receivingFrame loaded).inPlay = false := by decide +kernel

/-- The claim that comes in the frames of the joining example, and its frame from station 5. -/
def joinFields (beat confidence : Nat) : PulseFields := ⟨212, beat, 6000, confidence, .following, 0, false, false, false, false, false, none⟩

/-- A station about to receive the second claim for hymn 212, the first one station 7's of confidence 4 at beat 21. -/
def beforeJoin (s : State) : State :=
  { receivingFrame s with gather.peers := GatherUnit.initial.peers.set 7 ⟨true, 999000, 8, some (claim 21 0 999000 6000 4 .leading)⟩ }

/-- The hymn with a mark stream of 40 records, loaded. -/
def loadedLong : State :=
  { loaded with store.hymn := some { hymn with header := { header with marks := ⟨145, 40⟩ } } }

/-- A station without a division whose mark reader reads the last block of the last verse for a join. -/
def joinSeeks : State :=
  { loadedLong with
    startup.config.division := none
    play.join := some ⟨212, some ⟨128, 990000, 6000, 130⟩⟩
    store :=
      { loadedLong.store with
        port := .only ⟨.markBlock, 3277, 10⟩, seek := some 130
        marks := { MarkReader.initial with phase := .running, sect := 4, block := 2, discardBelow := 3120 }
        notes := { NoteReader.initial with phase := .running, sect := 4, start := 3120, finished := true } } }

/-- A block of two mark records, SUNG at beats 1 and 2 of a verse, and one with a record that carries no flag. -/
def markBytes : List Byte := withCheck (leBytes 4 (1 + 2 ^ 14) ++ leBytes 4 (2 + 2 ^ 14))
def flaglessBytes : List Byte := withCheck (leBytes 4 1)

theorem witness_PulseClaimStored :
    let s := beforeJoin idle
    (judgeFrame (frame 5 (.pulse (joinFields 21 4)) 2000) = .valid ⟨5, .pulse (joinFields 21 4), 2000⟩ ∧
        judgeFrame (frame 5 (.pulse (joinFields 21 4)) 2001) = .valid ⟨5, .pulse (joinFields 21 4), 2001⟩) ∧
      (s.running = true ∧ s.line.onLine = none ∧ s.line.framing = .receiving ∧ s.isHalted = false ∧ s.startup.strap = 12) ∧
      (receivingInPlay.play.state ≠ .idle ∧ receivingInPlay.play.state ≠ .loaded) ∧
      ((s.gather.peers[(7 : Station)]).present = true ∧ (s.gather.peers[(7 : Station)]).claim = some (claim 21 0 999000 6000 4 .leading) ∧
        (∀ r : Station, r ≠ 7 → r ≠ 5 → (s.gather.peers[r]).claim = none) ∧ s.play.state = .idle ∧ s.play.join = none ∧
        s.play.barred ≠ some 212 ∧ since s.now s.line.markLatch ≤ 2 * 6000 ∧ since s.now 999000 ≤ 2 * 6000 ∧ s.loadedNumber = none) ∧
      (let s := beforeJoin loadedLong;
        s.play.state = .loaded ∧ s.loadedNumber = some 212 ∧ s.play.join = none ∧
          s.header = some { header with marks := ⟨145, 40⟩ } ∧ (∀ r : Station, r ≠ 7 → r ≠ 5 → (s.gather.peers[r]).claim = none)) ∧
      (let s : State := { beforeJoin loaded with startup.config.division := none };
        s.play.state = .loaded ∧ s.loadedNumber = some 212 ∧ s.header = some header ∧ header.marks.count = 0 ∧ s.readDivision = none) ∧
      (header.verseStart header.verses + header.length - 2 ≤ 140 + 2 ∧ 21 + 2 < header.verseStart header.verses + header.length - 2) := by
  decide +kernel

theorem witness_PulseClaimStored_completion :
    let s := joinSeeks
    let h : Header := { header with marks := ⟨145, 40⟩ }
    let records := (blockWords 4 markBytes).map parseMark
    (s.store.port = .only ⟨.markBlock, 3277, 10⟩ ∧ markBytes.length = 10 ∧ s.play.state = .loaded ∧
        s.play.join = some ⟨212, some ⟨128, 990000, 6000, 130⟩⟩ ∧ s.store.seek = some 130 ∧ s.store.loader = .idle ∧ s.readDivision = none ∧
        s.header = some h ∧ s.store.marks.phase = .running ∧ s.store.marks.sect = h.verses ∧
        s.store.marks.buffer = [] ∧ s.store.marks.ended = false ∧ h.marks.count ≤ 16 * (s.store.marks.block + 1)) ∧
      (checked markBytes = true ∧ (∀ x ∈ records, 24 * (h.verseStart h.verses + x.beat) + x.sub < s.store.marks.discardBelow) ∧
        (∀ x ∈ records, x.passes h.length) ∧ s.store.marks.lastValid = none ∧
        records.Pairwise (fun x y => 24 * x.beat + x.sub < 24 * y.beat + y.sub) ∧ records.length ≤ 16 ∧ s.store.queue = []) := by
  decide +kernel

theorem witness_PeerEntriesAndHalt :
    (let s := atTime 1050000 (gathering .following);
      (s.gather.peers[(5 : Station)]).present = true ∧ (5 : Station) ≠ s.startup.strap ∧
        50000 ≤ since s.now (s.gather.peers[(5 : Station)]).lastHeard) ∧
      (judgeFrame (frame 5 (.fault 3 .report none 0) 0) = .valid ⟨5, .fault 3 .report none 0, 0⟩ ∧
        judgeFrame (frame 5 .halt 0) = .valid ⟨5, .halt, 0⟩) ∧
      receivingInPlay.play.state ≠ .starting ∧
      (let s := receivingFrame (joining .joining false);
        s.running = true ∧ s.line.onLine = none ∧ s.line.framing = .receiving ∧ s.isHalted = false ∧ s.play.state = .starting) := by
  decide +kernel

/-! ## Witnesses: sound -/

/-- A listening station in play or out of it, its block one sample short. -/
def sounding (s : State) (front : FrontEnd) : State :=
  { s with front := { front with block := ⟨63, 64000, 999900⟩, lastSample := 999999 } }

theorem witness_WithoutListenNothingHeard :
    ({ idle with startup.config.listen := false } : State).cfg.listen = false ∧ idle.front.detector = .quiet ∧ idle.front.history = [] := by
  decide +kernel

theorem witness_SamplesFormBlocks :
    ((∀ short ∈ [List.replicate 15 true], short.length < 16) ∧ (sampleBits 0x8000).length = 16 ∧ 50 ≤ idle.front.portTicks) ∧
      (halted.listening = false ∧ idle.front.portTicks < 51) ∧ (idle.listening = true ∧ idle.front.block.count < 63) ∧
      (let s := sounding idle { FrontEnd.initial with history := [1, 2, 3, 4] };
        s.listening = true ∧ s.front.block.count = 63 ∧ s.startup.soundCheck = false ∧ s.front.detector = .quiet ∧
          s.front.candidate = none ∧
          (({ s with front.block.sum := 0 } : State).front.block.sum + portMagnitude (sampleBits 5)) / 64 < s.cfg.onsetFloor) := by
  decide +kernel

theorem witness_ObservationsMade :
    let play := playing .following ⟨480, 1000000, 6000⟩
    ((sampleBits 0).length = 16 ∧ portMagnitude (sampleBits 0) = 0 ∧ 0 ≤ FrontEnd.initial.portTicks) ∧
      (let s := sounding play { FrontEnd.initial with history := [100, 100, 100, 100], refractory := some 999900 };
      s.listening = true ∧ s.front.block.count = 63 ∧ s.startup.soundCheck = false ∧ s.front.detector = .quiet ∧ s.front.candidate = none ∧
        s.front.history.length = 4 ∧ s.cfg.onsetFloor ≤ s.front.block.sum / 64 ∧
        s.cfg.onsetRatio * (s.front.history.sum / 4) ≤ 16 * (s.front.block.sum / 64) ∧ 0 ≤ since s.front.block.start 999900 ∧
        s.cfg.pickupDelay = 0 ∧ 2 ≤ s.cfg.persistence) ∧
      since 999900 999901 < 0 ∧
      (let s := sounding play { FrontEnd.initial with candidate := some (.onset 999820 900 132 1 900) };
        s.front.candidate = some (.onset 999820 900 132 1 900) ∧ s.cfg.onsetRatio * 132 ≤ 16 * (s.front.block.sum / 64) ∧
          s.cfg.persistence ≤ 1 + 1 ∧ s.inPlay = true ∧ s.gather.queue.length < 32) ∧
      (let s := sounding play { FrontEnd.initial with candidate := some (.onset 999820 900 600 1 900), history := [100, 100, 100, 100] };
        ¬s.cfg.onsetRatio * 600 ≤ 16 * (s.front.block.sum / 64) ∧ s.cfg.onsetRatio * (s.front.history.sum / 4) ≤ 16 * (s.front.block.sum / 64)) ∧
      (sounding idle { FrontEnd.initial with candidate := some (.onset 999820 900 132 1 900) }).inPlay = false ∧
      (let s := sounding play { FrontEnd.initial with detector := .sounding, peak := 5000, candidate := some (.release 999820 4000 1) };
        s.front.detector = .sounding ∧ s.cfg.releaseRatio * (s.front.block.sum / 64) ≤ 4000) ∧
      (let s := sounding play { FrontEnd.initial with detector := .sounding, peak := 900, candidate := some (.release 999820 3999 1) };
        3999 < s.cfg.releaseRatio * (s.front.block.sum / 64) ∧ max 900 (s.front.block.sum / 64) = 1000) ∧
      (let s := sounding play { FrontEnd.initial with detector := .sounding, peak := 4000 };
        s.front.candidate = none ∧ s.cfg.releaseRatio * (s.front.block.sum / 64) ≤ max 4000 (s.front.block.sum / 64)) := by decide +kernel

theorem witness_SoundInputLost :
    let s := atTime 1000500 idle
    (s.listening = true ∧ 500 ≤ since s.now s.front.lastSample) ∧ ({ s with front.lossReported := true } : State).front.lossReported = true ∧
      (s.front.lossReported = false ∧ s.cfg.reactions[(6 : FaultNo)] = .report ∧ s.latched 6 = false) ∧ (latch 6 s).latched 6 = true ∧
      since (atTime 1000499 idle).now idle.front.lastSample < 500 ∧
      (List.replicate 15 (SoundEdge.bit true)).countP (fun e => match e with | .bit _ => true | .wordSync => false) < 16 := by
  decide +kernel

/-! ## Witnesses: cues -/

/-- A station whose panel stands at a number, the buttons as given. -/
def panel (s : State) (levels : BitVec 12) : State :=
  atTime 1020000 { s with cue := { CuePort.initial with settled := true, levels := levels, changedAt := 1017500, sampledAt := some 1019990 } }

theorem witness_CuePortOffers :
    (let s := panel idle 0x0D4;
      s.configured = true ∧ s.isHalted = false ∧ s.cue.settled = true ∧ (s.cue.levels.extractLsb' 0 10).toNat = 212 ∧
        212 ≠ s.cue.lastSent ∧ 2500 ≤ since s.now s.cue.changedAt) ∧
      ((panel idle 0).cue.levels.extractLsb' 0 10).toNat = 0 ∧
      (let s : State := { panel idle 0x400 with cue.startEdge := true };
        s.configured = true ∧ s.isHalted = false ∧ s.cue.startEdge = true ∧ s.cue.levels.getLsbD 11 = false) ∧
      (let s : State := { panel idle 0x800 with cue.stopEdge := true };
        s.cue.stopEdge = true ∧ s.cue.levels.getLsbD 10 = false) ∧
      (let s : State := { panel halted 0x400 with cue.startEdge := true };
        s.configured = true ∧ s.isHalted = true ∧ s.cue.startEdge = true ∧ s.cue.levels.getLsbD 11 = false) ∧
      (let s : State := { panel idle 0xC00 with cue.startEdge := true, cue.stopEdge := true };
        s.cue.levels.getLsbD 10 = true ∧ s.cue.levels.getLsbD 11 = true ∧ s.cue.bothHeld = none) ∧
      (let s : State := { panel idle 0xC00 with cue.bothHeld := some 1000000 };
        s.cue.bothHeld = some 1000000 ∧ 20000 ≤ since s.now 1000000 ∧ s.cue.bothSent = false) ∧
      (let s : State := { panel halted 0xC00 with cue.bothHeld := some 1000000, cue.bothSent := false };
        s.configured = true ∧ s.isHalted = true ∧ s.cue.bothHeld = some 1000000 ∧ s.cue.bothSent = false) := by decide +kernel

theorem witness_CueSampleDebounces :
    let s : State := { panel idle 0x0D4 with cue.runs := ((Vector.replicate 12 0).set 0 2).set 1 1 }
    (s.configured = true ∧ s.cue.sampledAt = some 1019990 ∧ 10 ≤ since s.now 1019990 ∧ s.cue.settled = true) ∧
      ((0x0D7#12).getLsbD 2 = s.cue.levels.getLsbD 2 ∧ (0x0D7#12).getLsbD 1 ≠ s.cue.levels.getLsbD 1 ∧ s.cue.runs[(1 : Fin 12)] < 2 ∧
        (0x0D7#12).getLsbD 0 ≠ s.cue.levels.getLsbD 0 ∧ 2 ≤ s.cue.runs[(0 : Fin 12)]) ∧
      (let t : State := { s with cue := { CuePort.initial with early := [5] } };
        t.cue.settled = false ∧ t.cue.early.length < 2 ∧ t.cue.sampledAt = none) ∧
      (let t : State := { s with cue := { CuePort.initial with early := [5, 5] } };
        t.cue.settled = false ∧ t.cue.early = [5, 5]) := by decide +kernel

theorem witness_SelectBeginsLoad :
    let bytes := frame 5 (.cue .select 212) 0
    ((atCue loaded).hearsCue bytes 5 .select 212 ∧ (atCue loaded).play.state = .loaded ∧ (atCue loaded).store.port.serving = none ∧
        (atCue loaded).store.port.granting = true) ∧
      (receivingInPlay.hearsCue bytes 5 .select 212 ∧ receivingInPlay.inPlay = true) := by decide +kernel

theorem witness_StartBeginsPlay :
    let bytes := frame 5 (.cue .start 212) 0
    let loading : State := { atCue idle with play.state := .loading, store.loader := .count 212 }
    ((atCue loaded).hearsCue bytes 5 .start 212 ∧ (atCue loaded).play.state = .loaded ∧ (atCue loaded).loadedNumber = some 212 ∧
        (atCue loaded).header = some header ∧ (atCue loaded).store.seek = none) ∧
      (loading.hearsCue bytes 5 .start 212 ∧ loading.play.state = .loading ∧ loading.loadingNumber = some 212) ∧
      (let other := frame 5 (.cue .start 213) 0;
        loading.hearsCue other 5 .start 213 ∧ loading.loadingNumber ≠ some 213 ∧ (atCue loaded).hearsCue other 5 .start 213 ∧
          (atCue loaded).loadedNumber ≠ some 213) ∧
      (receivingInPlay.hearsCue bytes 5 .start 212 ∧ receivingInPlay.inPlay = true) := by decide +kernel

theorem witness_StopTaken :
    let bytes := frame 5 (.cue .stop 0) 0
    let loading : State := { atCue idle with play.state := .loading, store.loader := .count 212 }
    let silenced := atCue (enterSilenced loaded)
    (receivingInPlay.hearsCue bytes 5 .stop 0 ∧ receivingInPlay.inPlay = true ∧ receivingInPlay.store.hymn.isSome = true) ∧
      (loading.hearsCue bytes 5 .stop 0 ∧ loading.play.state = .loading) ∧
      ((atCue loaded).hearsCue bytes 5 .stop 0 ∧ (atCue loaded).play.state = .loaded ∧ (atCue loaded).store.seek = none) ∧
      (silenced.hearsCue bytes 5 .stop 0 ∧ silenced.play.state = .silenced ∧ silenced.out.cutoff.asserted = false ∧
        silenced.store.hymn.isSome = true ∧ silenced.play.join = none) ∧
      (({ silenced with out.cutoff.asserted := true } : State).out.cutoff.asserted = true ∧ (enterSilenced idle).store.hymn = none) ∧
      ((atCue idle).hearsCue bytes 5 .stop 0 ∧ (atCue idle).play.state = .idle) ∧
      (let s := atCue joinSeeks;
        s.hearsCue bytes 5 .stop 0 ∧ s.play.state = .loaded ∧ s.store.seek = some 130 ∧
          s.play.join = some ⟨212, some ⟨128, 990000, 6000, 130⟩⟩ ∧ s.store.hymn.isSome = true) ∧
      (let s : State := { atCue loaded with store.seek := some 4 };
        s.hearsCue bytes 5 .stop 0 ∧ s.play.state = .loaded ∧ s.play.join = none) := by decide +kernel

theorem witness_RestartReturnsToIdle :
    let bytes := frame 5 (.cue .restart 0) 0
    (receivingInPlay.hearsCue bytes 5 .restart 0 ∧ receivingInPlay.play.state ≠ .starting) ∧
      ((receivingFrame halted).hearsCue bytes 5 .restart 0 ∧ halted.isHalted = true) ∧
      ((receivingFrame (joining .joining false)).hearsCue bytes 5 .restart 0 ∧
        (receivingFrame (joining .joining false)).play.state = .starting) := by decide +kernel

/-! ## Witnesses: the score store -/

/-- A station loading, at a step of the loader with its read in flight. -/
def loadingAt (loader : Loader) (r : FlashRead) : State :=
  { idle with play.state := .loading, store := { ScoreStore.initial with loader := loader, port := .only r } }

/-- The bytes of a directory entry. -/
def entryBytes (n : Nat) : List Byte := leBytes 2 n ++ leBytes 3 4096 ++ leBytes 3 5000

theorem witness_DirectorySearch :
    let count := loadingAt (.count 212) ⟨.directoryCount, 2048, 2⟩
    let search := loadingAt (.search 212 0 3 1) ⟨.directoryEntry, 2058, 8⟩
    (count.store.port = .only ⟨.directoryCount, 2048, 2⟩ ∧ (leBytes 2 1023).length = 2 ∧ count.wouldReport 4) ∧
      (1 ≤ leNat (leBytes 2 1023) ∧ leNat (leBytes 2 1023) ≤ 1023 ∧ leNat (leBytes 2 0) = 0 ∧ 1023 < leNat (leBytes 2 1024)) ∧
      (search.store.port = .only ⟨.directoryEntry, 2058, 8⟩ ∧ (entryBytes 212).length = 8 ∧ search.wouldReport 4) ∧
      ((parseEntry (entryBytes 212)).hymn = 212 ∧ 212 < (parseEntry (entryBytes 1023)).hymn ∧ 0 < 1 ∧
        (parseEntry (entryBytes 1)).hymn < 212 ∧ 1 + 1 < 3 ∧ (parseEntry (entryBytes 0)).hymn = 0 ∧
        1023 < (parseEntry (entryBytes 1024)).hymn) := by decide +kernel

/-- The bytes of the header of hymn 212 with empty streams at the end of a record of 145 bytes, the period given. -/
def headerBytes (period : Nat) : List Byte :=
  withCheck
    (leBytes 2 212 ++ leBytes 2 period ++ leBytes 2 32 ++ leBytes 1 4 ++ leBytes 2 24 ++ leBytes 2 31 ++ leBytes 1 2 ++
      (List.replicate 9 (leBytes 3 145 ++ leBytes 2 0)).flatten)

/-- A verse plan of one entry, its period scale given. -/
def planBytes (scale : Nat) : List Byte := withCheck (List.replicate 20 0 ++ leBytes 1 scale)

theorem witness_HeaderAndPlan :
    let s := loadingAt (.header 212 4096 145) ⟨.header, 4096, 59⟩
    let h : Header := { header with verses := 1, marks := ⟨145, 1⟩ }
    let p := loadingAt (.plan 4096 h) ⟨.plan, 4155, 23⟩
    (s.store.port = .only ⟨.header, 4096, 59⟩ ∧ (headerBytes 24000).length = 59 ∧ s.wouldReport 4) ∧
      (checked (headerBytes 24000) = true ∧ (parseHeader (headerBytes 24000)).inRange 212 145 = true ∧
        (parseHeader (headerBytes 24001)).inRange 212 145 = false) ∧
      (p.store.port = .only ⟨.plan, 4155, 23⟩ ∧ (planBytes 24).length = 23 ∧ p.wouldReport 4) ∧
      ((parsePlan h.verses (planBytes 24)).isSome = true ∧ 0 < h.marks.count ∧ p.store.queue = [] ∧
        parsePlan h.verses (planBytes 25) = none) ∧
      (let q : State := { loadingAt (.plan 4096 { h with marks := ⟨145, 0⟩ }) ⟨.plan, 4155, 23⟩ with startup.config.division := none };
        q.store.loader = .plan 4096 { h with marks := ⟨145, 0⟩ } ∧ q.readDivision = none ∧ q.play.pendingStart = none ∧ q.play.join = none ∧
          ({ q with play.pendingStart := some 999000 } : State).play.pendingStart = some 999000) := by decide +kernel

/-- The hymn with mark and note streams of 40 records. -/
def longHymn : Hymn :=
  { hymn with header := { header with marks := ⟨145, 40⟩, notes := Vector.replicate 8 ⟨400, 40⟩ } }

/-- A station priming, a block of the mark stream in flight. -/
def primingMarks (r : FlashRead) : State :=
  { idle with
    play.state := .loading
    store :=
      { ScoreStore.initial with
        loader := .priming, hymn := some longHymn, port := .only r
        marks := { MarkReader.initial with phase := .running, sect := 1 } } }

/-- A playing station whose mark reader waits at a full queue that has just lost a mark. -/
def markWaiting : State :=
  { playing .following ⟨480, 1000000, 6000⟩ with
    store :=
      { loaded.store with
        hymn := some longHymn
        queue := (List.range 23).map fun i => sungAt (504 + 24 * i)
        marks :=
          { MarkReader.initial with
            phase := .running, sect := 3, buffer := [⟨20, 0, true, false, false, 0, 0⟩, ⟨21, 0, true, false, false, 0, 0⟩] } } }

theorem witness_MarksAppended :
    let r : FlashRead := ⟨.markBlock, 3145, 10⟩
    let s := primingMarks r
    let records := (blockWords 4 markBytes).map parseMark
    (s.store.hymn = some longHymn ∧ s.store.marks.phase = .running ∧ 1 ≤ s.store.marks.sect ∧ s.store.port = .only r ∧
        markBytes.length = 10 ∧ s.store.marks.buffer = [] ∧ s.store.marks.ended = false ∧ s.store.marks.discardBelow = 0 ∧
        s.play.state = .loading ∧ s.store.loader = .priming ∧ s.store.queue.length < 24 ∧
        16 * (s.store.marks.block + 1) < longHymn.header.marks.count) ∧
      (checked markBytes = true ∧ (∀ x ∈ records, x.passes 32) ∧ s.store.marks.lastValid = none ∧
        records.Pairwise (fun x y => 24 * x.beat + x.sub < 24 * y.beat + y.sub) ∧ s.store.queue.length + records.length < 24) ∧
      (checked (List.replicate 10 0) = false ∧ s.wouldReport 4) ∧
      (checked flaglessBytes = true ∧ (blockWords 4 flaglessBytes).map parseMark = [⟨1, 0, false, false, false, 0, 0⟩] ∧
        ¬(⟨1, 0, false, false, false, 0, 0⟩ : MarkRecord).passes 32) := by decide +kernel

/-- A SUNG mark record at a beat of its verse. -/
def sungRecord (beat : Nat) : MarkRecord := ⟨beat, 0, true, false, false, 0, 0⟩

/-- Blocks of three mark records whose second is damaged: it carries no flag, or stands before the first. -/
def damagedMarks : List Byte := withCheck (leBytes 4 (1 + 2 ^ 14) ++ leBytes 4 2 ++ leBytes 4 (3 + 2 ^ 14))
def disorderedMarks : List Byte := withCheck (leBytes 4 (3 + 2 ^ 14) ++ leBytes 4 (2 + 2 ^ 14) ++ leBytes 4 (4 + 2 ^ 14))

theorem witness_MarksAppended_damaged :
    let s := primingMarks ⟨.markBlock, 3145, 14⟩
    (s.store.port = .only ⟨.markBlock, 3145, 14⟩ ∧ damagedMarks.length = 14 ∧ disorderedMarks.length = 14 ∧ s.wouldReport 4) ∧
      (checked damagedMarks = true ∧
        (blockWords 4 damagedMarks).map parseMark = [sungRecord 1] ++ ⟨2, 0, false, false, false, 0, 0⟩ :: [sungRecord 3] ∧
        ¬(⟨2, 0, false, false, false, 0, 0⟩ : MarkRecord).passes 32 ∧ (sungRecord 1).passes 32 ∧ (sungRecord 3).passes 32) ∧
      (checked disorderedMarks = true ∧
        (blockWords 4 disorderedMarks).map parseMark = [sungRecord 3] ++ sungRecord 2 :: [sungRecord 4] ∧ 24 * 2 + 0 ≤ 24 * 3 + 0) := by
  decide +kernel

/-- A station without a division priming at the last block of the last verse, `n` marks in its queue. -/
def primingEnd (n : Nat) : State :=
  let s := primingMarks ⟨.markBlock, 3277, 10⟩
  { s with
    startup.config.division := none
    store :=
      { s.store with
        queue := (List.range n).map fun i => sungAt (504 + 24 * i), marks := { s.store.marks with sect := header.verses, block := 2 } } }

theorem witness_MarksAppended_primed :
    let s := primingEnd 0
    let records := (blockWords 4 markBytes).map parseMark
    let joining : State :=
      { s with
        play.join := some ⟨212, none⟩
        gather.peers := s.gather.peers.set 7 { s.gather.peers[(7 : Station)] with present := true, claim := some (claim 21 0 999000 6000 4 .leading) } }
    (s.store.hymn = some longHymn ∧ s.store.port = .only ⟨.markBlock, 3277, 10⟩ ∧ 0 < longHymn.header.marks.count ∧
        longHymn.header.marks.count ≤ 16 * (s.store.marks.block + 1) ∧ longHymn.header.verses ≤ s.store.marks.sect ∧
        s.readDivision = none ∧ s.store.seek = none ∧ s.play.pendingStart = none ∧ s.play.join = none ∧ s.wouldReport 4) ∧
      (checked markBytes = true ∧ records = [sungRecord 1] ++ sungRecord 2 :: [] ∧ (primingEnd 22).store.queue.length + records.length = 24 ∧
        (primingEnd 23).store.queue.length + [sungRecord 1].length = 24) ∧
      ({ s with play.pendingStart := some 999000 } : State).play.pendingStart = some 999000 ∧
      (joining.play.join = some ⟨212, none⟩ ∧ joining.play.barred ≠ some 212 ∧ (joining.gather.peers[(7 : Station)]).present = true ∧
        (joining.gather.peers[(7 : Station)]).claim = some (claim 21 0 999000 6000 4 .leading) ∧
        (∀ p : Station, p ≠ 7 → (joining.gather.peers[p]).claim = none) ∧ since joining.now 999000 ≤ 2 * 6000) := by decide +kernel

theorem witness_MarksAppended_in_play :
    let t := markWaiting
    t.store.hymn = some longHymn ∧ t.store.marks.phase = .running ∧ 1 ≤ t.store.marks.sect ∧ t.store.queue.length = 23 ∧ t.inPlay = true ∧
      t.store.loader = .idle ∧ t.store.seek = none ∧ t.store.marks.ended = false ∧
      t.follow.watch = none ∧ t.sched.barrier = none ∧ (∀ k ∈ t.store.queue, k.hold ≠ .unserved) ∧
      (⟨20, 0, true, false, false, 0, 0⟩ : MarkRecord).passes 32 ∧ t.store.marks.lastValid = none ∧ t.store.marks.discardBelow = 0 := by decide +kernel

/-- The long hymn with an intro of beats 24 to 28, and a station priming in it. -/
def introHymn : Hymn := { longHymn with header := { longHymn.header with introLast := 28 } }
def primingIntro : State :=
  { primingMarks ⟨.markBlock, 3145, 14⟩ with
    store :=
      { (primingMarks ⟨.markBlock, 3145, 14⟩).store with
        hymn := some introHymn
        marks := { MarkReader.initial with phase := .running }
        notes := { NoteReader.initial with phase := .running, planned := 0b1001#16 } } }

/-- Blocks of mark records that are all before the intro, and that have records before, in and after it. -/
def beforeIntroBytes : List Byte := withCheck (leBytes 4 (3 + 2 ^ 14) ++ leBytes 4 (4 + 2 ^ 14) ++ leBytes 4 (5 + 2 ^ 14))
def introBytes : List Byte := withCheck (leBytes 4 (20 + 2 ^ 14) ++ leBytes 4 (25 + 2 ^ 14) ++ leBytes 4 (30 + 2 ^ 14))

theorem witness_MarksAppended_intro :
    let s := primingIntro
    let mark (beat : Nat) : MarkRecord := ⟨beat, 0, true, false, false, 0, 0⟩
    (s.store.hymn = some introHymn ∧ s.store.marks.sect = 0 ∧ s.store.port = .only ⟨.markBlock, 3145, 14⟩ ∧
        introBytes.length = 14 ∧ beforeIntroBytes.length = 14) ∧
      (checked (List.replicate 14 0) = false ∧ s.wouldReport 4 ∧ checked beforeIntroBytes = true ∧
        (∀ x ∈ (blockWords 4 beforeIntroBytes).map parseMark, x.beat < introHymn.header.introFirst)) ∧
      (checked introBytes = true ∧ (blockWords 4 introBytes).map parseMark = [mark 20] ++ [mark 25] ++ [mark 30] ∧ (mark 20).beat < 24 ∧
        (24 ≤ (mark 25).beat ∧ (mark 25).beat ≤ 28 ∧ (mark 25).passes 32) ∧ 28 < (mark 30).beat ∧ introHymn.header.introLast < 32) := by
  decide +kernel

/-- R58: a damaged block in the pass of the intro raises SCORE at its read. -/
theorem test_damaged_intro_block :
    (after (.markBlockRead (List.replicate 14 0)) primingIntro).latched 4 = true ∧
      (after (.markBlockRead beforeIntroBytes) primingIntro).latched 4 = false := by decide +kernel

/-- A playing station with hymn and note stream long, a note block in flight or its records in hand, in LOADED. -/
def noteReading (buffer : List NoteRecord) (r : FlashRead) : State :=
  { loaded with
    store :=
      { loaded.store with
        hymn := some longHymn, port := .only r
        notes := { NoteReader.initial with phase := .running, sect := 1, planned := 0b1001#16, buffer := buffer } } }

/-- A block of one note record: beat 1, 24 su, key 40, voice 3. -/
def noteBytes : List Byte := withCheck (leBytes 5 (1 + 2 ^ 14 * 24 + 2 ^ 26 * 40 + 2 ^ 32 * 3))

theorem witness_NotesInserted :
    let r : FlashRead := ⟨.noteBlock, 3400, 7⟩
    let s := noteReading [] r
    (s.store.hymn = some longHymn ∧ s.readDivision = some 1 ∧ s.store.notes.phase = .running ∧ 1 ≤ s.store.notes.sect ∧
        s.store.loader = .idle ∧ s.store.seek = none ∧ s.wouldReport 4 ∧ s.store.port = .only r ∧ noteBytes.length = 7) ∧
      (checked noteBytes = true ∧ (blockWords 5 noteBytes).map parseNote = [⟨1, 0, 24, 40, 3⟩] ∧
        longHymn.planOf 1 = some (planEntry .quick 16) ∧ (planEntry .quick 16).voices.getLsbD 3 = true ∧
        s.store.notes.lastValid = none) ∧
      (checked (List.replicate 7 0) = false ∧ s.store.notes.finished = false ∧
        16 * (s.store.notes.block + 1) < (longHymn.header.notes[(1 : Fin 8)]).count) ∧
      (let t : State :=
          { noteReading [⟨1, 0, 24, 40, 3⟩] r with
            sched.table := (Vector.replicate 64 none).set 0 (some ⟨.waiting, .stop 0 .on, 0, 1500, none, .absent⟩), store.notes.start := 190 };
        t.play.state = .loaded ∧ nextStop t = none ∧ 24 * (longHymn.header.verseStart 1 + 1) + 0 < t.store.notes.start + 96 ∧
          (1 : EntryNo) < 2 ∧ t.sched.table[(1 : EntryNo)] = none ∧ t.sched.table[(2 : EntryNo)] = none ∧
          (∀ g : EntryNo, g < 1 → t.sched.table[g] ≠ none) ∧ ∀ g : EntryNo, 1 < g → g < 2 → t.sched.table[g] ≠ none) := by decide +kernel

/-- With one record in hand the stream has more blocks; with two the second one is to be inserted too. -/
theorem witness_NotesInserted_handed :
    let s := noteReading [⟨1, 0, 24, 40, 3⟩, ⟨2, 0, 24, 41, 3⟩] ⟨.noteBlock, 3400, 7⟩
    16 * s.store.notes.block < (longHymn.header.notes[(1 : Fin 8)]).count ∧ 2 < longHymn.header.length ∧
      s.store.notes.start ≤ 24 * (longHymn.header.verseStart 1 + 2) ∧
      (longHymn.planOf 1).any (fun plan => plan.voices.getLsbD 3) = true := by decide +kernel

/-- A station in LOADED whose note reader is in the intro. -/
def noteIntro (buffer : List NoteRecord) : State :=
  { loaded with
    store :=
      { loaded.store with
        hymn := some introHymn, port := .only ⟨.noteBlock, 3400, 12⟩
        notes := { NoteReader.initial with phase := .running, planned := 0b1001#16, buffer := buffer } } }

/-- A block of two note records, at beats 20 and 25, and one of two before the intro. -/
def introNotes : List Byte := withCheck (leBytes 5 (20 + 2 ^ 14 * 24) ++ leBytes 5 (25 + 2 ^ 14 * 24 + 2 ^ 26 * 40 + 2 ^ 32 * 3))
def earlyNotes : List Byte := withCheck (leBytes 5 (20 + 2 ^ 14 * 24) ++ leBytes 5 (21 + 2 ^ 14 * 24))

theorem witness_NotesInserted_intro :
    let s := noteIntro []
    (s.store.hymn = some introHymn ∧ s.readDivision = some 1 ∧ s.store.notes.phase = .running ∧ s.store.notes.sect = 0 ∧
        nextStop s = none ∧ s.store.port = .only ⟨.noteBlock, 3400, 12⟩ ∧ introNotes.length = 12 ∧
        s.wouldReport 4 ∧ s.store.loader = .idle ∧ s.store.seek = none) ∧
      (checked introNotes = true ∧ (blockWords 5 introNotes).map parseNote = [⟨20, 0, 24, 0, 0⟩] ++ ⟨25, 0, 24, 40, 3⟩ :: [] ∧
        introHymn.planOf 0 = some (planEntry .quick 16)) ∧
      (checked (List.replicate 12 0) = false ∧ checked earlyNotes = true ∧
        ∀ y ∈ (blockWords 5 earlyNotes).map parseNote, y.beat < introHymn.header.introFirst) ∧
      (let s : State := { noteIntro [⟨25, 0, 24, 40, 3⟩] with store.notes.inHand := true };
        s.play.state = .loaded ∧ s.store.notes.inHand = true ∧ nextStop s = none) := by decide +kernel

/-- Blocks of two note records: the first in voice X, which the section does not draw; and the first of length 0. -/
def undrawnNotes : List Byte := withCheck (leBytes 5 (0 + 2 ^ 14 * 24 + 2 ^ 32 * 4) ++ leBytes 5 (1 + 2 ^ 14 * 24 + 2 ^ 26 * 40 + 2 ^ 32 * 3))
def damagedNotes : List Byte := withCheck (leBytes 5 0 ++ leBytes 5 (1 + 2 ^ 14 * 24 + 2 ^ 26 * 40 + 2 ^ 32 * 3))

theorem witness_NotesInserted_skipped :
    let s := noteReading [] ⟨.noteBlock, 3400, 12⟩
    let x : NoteRecord := ⟨1, 0, 24, 40, 3⟩
    (s.store.hymn = some longHymn ∧ s.store.port = .only ⟨.noteBlock, 3400, 12⟩ ∧ nextStop s = none ∧ s.store.notes.lastValid = none ∧
        longHymn.planOf 1 = some (planEntry .quick 16)) ∧
      (checked undrawnNotes = true ∧ (blockWords 5 undrawnNotes).map parseNote = ⟨0, 0, 24, 0, 4⟩ :: x :: [] ∧
        (planEntry .quick 16).voices.getLsbD 4 = false ∧ (planEntry .quick 16).voices.getLsbD 3 = true ∧ s.store.notes.start = 0) ∧
      checked damagedNotes = true ∧ (blockWords 5 damagedNotes).map parseNote = ⟨0, 0, 0, 0, 0⟩ :: x :: [] := by decide +kernel

/-- A station in play under an anchor at 480 and 1000000, the note of play position 528 in its reader's hand: its NOTE_ON falls due at 1011150. -/
def noteInPlay (st : PlayState) (now length : Nat) : State :=
  { playing st ⟨480, 1000000, 6000⟩ with
    clock.time := BitVec.ofNat 32 now, store := (noteReading [⟨12, 0, length, 40, 3⟩] ⟨.noteBlock, 3400, 7⟩).store
    startup.config.offTrim := 500 }

theorem witness_NotesInserted_in_play :
    (let s := noteInPlay .following 1000000 24;
      s.store.hymn = some longHymn ∧ s.readDivision = some 1 ∧ s.store.loader = .idle ∧ s.store.seek = none ∧ s.wouldReport 4 ∧
        nextStop s = none ∧ s.inPlay = true ∧ 24 * (longHymn.header.verseStart 1 + 12) = 528 ∧ (528 : Int) < s.position + 96 ∧
        s.store.notes.endReached = false ∧ (∀ g : EntryNo, waitsForChannel s g = false) ∧ s.sched.table[(0 : EntryNo)] = none ∧
        s.sched.table[(1 : EntryNo)] = none ∧ s.slipPosition = none ∧ s.sched.barrier = none ∧ s.timeOf 528 - 850 = 1011150 ∧
        200 < since 1011150 s.now) ∧
      (let s : State := { noteInPlay .holding 1000000 24 with follow.hold := some ⟨504, 528, 0, 0, 0, [], false⟩ };
        s.play.state = .holding ∧ s.holdPoint = some 528 ∧ 528 < s.position + 96) ∧
      (let s := noteInPlay .following 1000000 24;
        let u : State :=
          { s with follow.slots := (Vector.replicate 4 none).set 0 (some ⟨.provisional, ⟨480, 1000000, 6000⟩, some 529⟩) };
        u.play.state ≠ .holding ∧ u.slipPosition = some 529) ∧
      (0 < since 1011150 (noteInPlay .following 1010950 24).now ∧ since 1011150 (noteInPlay .following 1010950 24).now ≤ 200) ∧
      (let s := noteInPlay .following 1011300 1;
        0 ≤ since s.now 1011150 ∧ since s.now 1011150 ≤ s.cfg.lateLimit ∧ s.out.counts[(40 : Key)] < 15 ∧ s.timeOf 529 - 1070 = 1011180 ∧
          0 ≤ since s.now (1011150 + 100)) ∧
      (0 < since 1011250 (noteInPlay .following 1011249 1).now) ∧
      (let s := noteInPlay .following 1011451 24;
        s.cfg.lateLimit < since s.now 1011150 ∧ s.wouldReport 3) := by decide +kernel

/-- R149, R153: a note inserted when its due time has passed sounds at once, its NOTE_OFF waiting with the floor; one beyond the late limit is
dropped. -/
theorem test_note_inserted_late :
    let t := after .notePairInsert (noteInPlay .following 1011300 24)
    let u := after .notePairInsert (noteInPlay .following 1011451 24)
    t.out.counts[40] = 1 ∧ t.sched.table[0] = none ∧ (t.sched.table[1]).map (·.pair) = some (.fired 1011250) ∧
      u.out.counts[40] = 0 ∧ u.sched.table[1] = none ∧ u.latched 3 = true := by decide +kernel

/-- A station in play at 984, whose note reader has one stop to draw for verse 2, whose stop action falls due at 2001500. -/
def stopInPlay (st : PlayState) (now : Nat) : State :=
  { playing st ⟨984, 2000000, 6000⟩ with
    clock.time := BitVec.ofNat 32 now
    store := { loaded.store with notes := { NoteReader.initial with phase := .running, sect := 2, planned := 0b1000#16 } } }

/-- A playing station at the hymn's end position, its note reader finished. -/
def ending (st : PlayState) : State := playing st ⟨3456, 1000000, 6000⟩

/-- A station at the beat event that reaches the hymn's end, a peer's claim a little behind its own line. -/
def lastBeat : State :=
  { playing .leading ⟨3432, 1000000, 6000⟩ with
    clock.time := 1006000
    gather.peers := GatherUnit.initial.peers.set 2 ⟨true, 1000120, 8, some (claim 143 1000100 1000120 6000 9 .following)⟩ }

/-- R55, R78: end of score waits for the beat event that reaches it and stands through a coupling that moves the line back; the hymn ends. -/
theorem test_ends_with_last_beat :
    let t := after .beatEvent lastBeat
    after .endOfScore lastBeat = lastBeat ∧ t.position < 3456 ∧ (after .endOfScore t).play.state = .loaded := by decide +kernel

theorem witness_StopsInsertedAndScoreEnds :
    (let s := priming;
      let h : Hymn := { hymn with header := { header with notes := Vector.replicate 8 ⟨145, 2⟩ } };
      s.store.hymn = some h ∧
        s.play.state = .loaded ∧ s.store.loader = .idle ∧ s.store.seek = none ∧ s.readDivision = some 1 ∧ s.store.notes.phase = .running ∧
        h.planOf s.store.notes.sect = some (planEntry .quick 16) ∧ s.wouldReport 4 ∧ s.sched.table = Vector.replicate 64 none ∧
        (planEntry .quick 16).stops[(1 : Fin 8)] ≠ s.store.notes.planned ∧ stopPosition h.header s.store.notes < s.store.notes.start + 96) ∧
      (let s := ending .leading;
        s.store.hymn = some hymn ∧ s.inPlay = true ∧ s.store.notes.finished = true ∧ s.store.notes.endReached = false ∧
          ((24 * (header.verseStart header.verses + header.length) : Nat) : Int) ≤ s.position ∧ s.play.state ≠ .holding ∧
          s.sched.table = Vector.replicate 64 none ∧ s.follow.nextBeat = some 145) ∧
      (ending .holding).inPlay = true ∧ (after .beatEvent lastBeat).store.notes.endPassed = true ∧
      (lastBeat.follow.nextBeat = some 144 ∧ 24 * 144 ≤ 3456 ∧ 0 ≤ since lastBeat.now (lastBeat.timeOf (24 * 144))) ∧
      (playing .leading ⟨3455, 1000000, 6000⟩).position < ((24 * (header.verseStart header.verses + header.length) : Nat) : Int) := by
  decide +kernel

theorem witness_StopsInserted_in_play :
    let moves (s : State) (i : StopNo) : Bool := ((0b1001#16).getLsbD i.val) != s.store.notes.planned.getLsbD i.val
    (let s := stopInPlay .following 2000000;
      s.store.hymn = some hymn ∧ s.store.loader = .idle ∧ s.store.seek = none ∧ s.readDivision = some 1 ∧ s.wouldReport 4 ∧
        hymn.planOf 2 = some (planEntry .steady 16) ∧ moves s 0 = true ∧ (∀ j, moves s j = true → j = 0) ∧ s.inPlay = true ∧
        24 * header.sectionStart 2 - 12 = 996 ∧ (996 : Int) < s.position + 96 ∧ s.store.notes.endReached = false ∧
        (∀ g : EntryNo, waitsForChannel s g = false) ∧ s.sched.table[(0 : EntryNo)] = none ∧ s.timeOf 996 - 1500 = 2001500 ∧
        200 < since 2001500 s.now ∧ s.sched.barrier = none) ∧
      (let s : State := { stopInPlay .holding 2000000 with follow.hold := some ⟨960, 984, 0, 0, 0, [], false⟩ };
        s.holdPoint = some 984 ∧ 996 < s.position + 96 ∧ s.sched.table = Vector.replicate 64 none) ∧
      (0 < since 2001500 (stopInPlay .following 2001300).now ∧ since 2001500 (stopInPlay .following 2001300).now ≤ 200) ∧
      since 2001500 (stopInPlay .following 2001500).now ≤ 0 ∧ (stopInPlay .following 2001500).sched.channels[(0 : ChannelNo)] = .free := by
  decide +kernel

/-! ## Witnesses: observations and gathers -/

/-- A station taking an ONSET of station 5 at a time, its gathers, closed windows and pool given. -/
def taking (time : Time) (opens : List Gather) (closed : List Window) (pool : List Observation) : State :=
  { playing .following ⟨480, 1000000, 6000⟩ with
    gather := { GatherUnit.initial with queue := [onset 5 time 8], opens := opens, closed := closed, pool := pool, playStart := 900000 } }

/-- The gather of 504 with a weight already reached, and members. -/
def openGather504 (sum : Nat) (members : List Observation) : Gather :=
  ⟨504, some 24, some 24, ⟨1004500, 1007500⟩, 1007800, members, sum⟩

/-- Eight pool members of stations 6 to 13, station 6's the earliest. -/
def fullPool : List Observation :=
  (List.range 8).map fun i => ⟨.peer (Fin.ofNat 16 (6 + i)), .onset, BitVec.ofNat 32 (950000 + 1000 * i), 1, 1⟩

/-- A pool of stations 6, 7 and 8: two within P/8 of an ONSET at 960500, and one long before. -/
def threePool : List Observation := [onset 8 940000 1, onset 7 960550 9, onset 6 960400 10]

/-- R98: the ONSET of weight 8 brings the span from 960400 on to 27; the offsets 0, 100 and 150 have the weighted mean 2150 / 27, near 80. -/
theorem test_cluster_of_three :
    let t := after .onsetTaken (taking 960500 [] [] threePool)
    t.gather.pool = [onset 8 940000 1] ∧
      t.gather.taking = .cluster ⟨[onset 7 960550 9, onset 6 960400 10, onset 5 960500 8], 960480⟩ := by decide +kernel

theorem witness_OnsetTaken_cluster :
    let pool := threePool ++ [onset 5 960500 8]
    let s := taking 960500 [] [] threePool
    (threePool.filter fun m => m.source != .peer 5) = threePool ∧ threePool.length < 8 ∧
      threePool.Pairwise (fun x y => x.source ≠ y.source) ∧ onset 6 960400 10 ∈ pool ∧
      (∀ x ∈ pool, ∀ y ∈ pool, (since x.time y.time).natAbs < 2 ^ 30) ∧ s.period ≤ 24000 ∧ 1 ≤ s.cfg.quorum ∧
      s.cfg.quorum ≤ 8 + 9 + 10 ∧ s.period / 8 = 750 ∧ 0 ≤ since 960500 s.gather.playStart ∧
      (∀ m ∈ pool, since m.time 960400 < 0 → m = onset 8 940000 1) ∧ 1 < s.cfg.quorum := by decide +kernel

theorem witness_OnsetTaken :
    (let s := taking 1004500 [openGather504 15 []] [] [];
      s.inPlay = true ∧ s.gather.taking = .free ∧ s.gather.queue = onset 5 1004500 8 :: [] ∧ 0 ≤ since 1004500 1004500 ∧
        0 ≤ since 1007500 1004500 ∧ 15 + 8 < s.cfg.quorum ∧ s.cfg.quorum ≤ 16 + 8 ∧ s.gather.pool = []) ∧
      (∃ m ∈ [onset 5 1004600 8], m.source = (onset 5 1004500 8).source) ∧
      (let s := taking 999500 [] [⟨998500, 1001500⟩] [];
        0 ≤ since 999500 998500 ∧ 0 ≤ since 1001500 999500 ∧ s.gather.opens = []) ∧
      (let s := taking 998499 [] [⟨998500, 1001500⟩] [];
        since 998499 998500 < 0 ∧ since 998499 1001500 < 0 ∧ s.masked .stale = true) ∧
      (let s := taking 1001501 [] [⟨998500, 1001500⟩] [];
        since 1001500 1001501 < 0 ∧ 0 ≤ since 1001501 1001500 ∧ 8 < s.cfg.quorum) ∧
      (let s := taking 960500 [] [] fullPool;
        (s.gather.pool.filter fun m => m.source != .peer 5).length = 8 ∧ fullPool.Pairwise (fun x y => x.source ≠ y.source) ∧
          (∀ m ∈ fullPool, m ≠ ⟨.peer 6, .onset, 950000, 1, 1⟩ → 0 < since m.time 950000) ∧ 0 < since 960500 950000 ∧
          ((fullPool ++ [onset 5 960500 8]).map (·.weight)).sum < s.cfg.quorum ∧ 0 ≤ since 960500 s.gather.playStart) ∧
      (let s : State := { taking 960500 [] [] [] with startup.config.quorum := 8 };
        1 ≤ (onset 5 960500 8).weight ∧ s.cfg.quorum ≤ (onset 5 960500 8).weight ∧ s.period ≤ 24000) := by decide +kernel

/-- The fermata's station in HOLDING, a RELEASE of a source at a time at the head of its queue. -/
def holdingWith (p : Station) (time : Time) : State :=
  let t := after .holdPointReached fermata
  { t with
    gather.queue := [⟨.peer p, .release, time, 3, 10⟩]
    follow.hold := some ⟨744, 768, 1994000, 2018000, 14, [.peer 5], false⟩ }

theorem witness_ReleasesCounted :
    (let s : State := { gathering .following with gather.queue := [⟨.peer 5, .release, 1000000, 3, 8⟩] };
      s.gather.taking = .free ∧ s.gather.queue = ⟨.peer 5, .release, 1000000, 3, 8⟩ :: [] ∧ s.moving = true) ∧
      (let s := holdingWith 3 1994000;
        s.gather.taking = .free ∧ s.play.state = .holding ∧ s.follow.hold = some ⟨744, 768, 1994000, 2018000, 14, [.peer 5], false⟩ ∧
          0 ≤ since 1994000 1994000 ∧ Source.peer 3 ∉ [Source.peer 5]) ∧
      (since 1993999 1994000 < 0 ∧ Source.peer 5 ∈ [Source.peer 5]) ∧ 0 ≤ since (atTime 2018000 (holdingWith 3 0)).now 2018000 := by
  decide +kernel

theorem witness_GathersOpenAndClose :
    (let s := gathering .following;
      s.gather.taking = .free ∧ s.inPlay = true ∧ s.gather.opens.length < 2 ∧ s.store.queue = [] ++ sungAt 504 :: [sungAt 528] ∧
        s.gather.previousSung = some 480 ∧ (504 : Nat) < 528 ∧ s.timeOf 504 = 1006000 ∧ 0 ≤ since s.now 1004500 ∧ since s.now 1007800 < 0) ∧
      (let s : State := { gathering .following with gather.previousSung := none };
        s.gather.previousSung = none ∧ s.period * s.cfg.windowFactor / 16 = 1500) ∧
      (let s : State := atTime 1010500 { gathering .following with gather.opens := [openGather504 0 []] };
        s.gather.opens.length < 2 ∧ s.store.queue = [sungAt 504] ++ sungAt 528 :: [] ∧ (∀ g ∈ s.gather.opens, g.mark ≠ 528) ∧
          (∀ x ∈ [sungAt 504], x.position ≤ 528 ∧ (x.sung = .unserved → ∃ g ∈ s.gather.opens, g.mark = x.position)) ∧
          s.timeOf 528 = 1012000 ∧ 0 ≤ since s.now 1010500) ∧
      (let s : State := { gathering .holding with follow.hold := some ⟨480, 504, 0, 0, 0, [], false⟩ };
        s.inPlay = true ∧ s.play.state = .holding ∧ s.holdPoint = some 504 ∧ (504 : Nat) ≤ 504 ∧ (504 : Nat) < 528) ∧
      0 ≤ since (atTime 1007800 (gathering .following)).now 1007800 ∧
      (let s : State := atTime 1007800 { gathering .following with gather.opens := [openGather504 0 [], ⟨528, some 24, none, ⟨0, 0⟩, 0, [], 0⟩] };
        s.inPlay = true ∧ s.gather.opens[(0 : Fin 2).val]? = some (openGather504 0 []) ∧ 2 ≤ s.gather.opens.length ∧
          s.gather.opens.Pairwise (fun a b => a.mark ≠ b.mark) ∧ 0 ≤ since s.now 1007800) := by decide +kernel

/-- R90: an opening removes the pool members at or before its window end, and one beside an open gather leaves that open. -/
theorem test_second_gather :
    let s : State :=
      atTime 1010500 { gathering .following with gather.opens := [openGather504 0 []], gather.pool := [onset 3 1013500 8, onset 5 1013501 8] }
    let t := after .gatherOpen s
    t.gather.opens.map (·.mark) = [504, 528] ∧ t.gather.pool = [onset 5 1013501 8] ∧ t.gather.previousSung = some 528 := by decide +kernel

/-! ## Witnesses: the beat -/

theorem witness_MatchedCloseCorrects :
    let g : Gather := { openGather504 20 [onset 5 1006180 8, onset 3 1006240 8, onset 7 1006250 0, onset 9 1006400 4] with sum := 20 }
    let s : State :=
      { gathering .following with
        gather := { (gathering .following).gather with taking := .close g }
        startup.config.masks := 0x7F#7 }
    (s.gather.taking = .close g ∧ 0 < g.sum ∧ (g.members.map (·.weight)).sum = g.sum ∧ g.members.Pairwise (fun x y => x.source ≠ y.source) ∧
        s.follow.slots[s.follow.top] = some ⟨.active, ⟨480, 1000000, 6000⟩, none⟩ ∧ s.header = some header ∧ s.moving = true ∧
        s.follow.culprit = none ∧ s.masked .slew = true ∧ s.masked .range = true ∧ s.play.state = .following) ∧
      ((gathering .leading).play.state = .leading ∧ (gathering .leading).play.run = 0) ∧ (gathering .holding).play.state = .holding := by
  decide +kernel

/-- The station of the early arrival with its PROVISIONAL TOP and the close of mark 576 or 600 handed over, SLEW and RANGE masked. -/
def provisionalClose (g : Gather) (confirmCount : Nat) : State :=
  { after .beatEvent pushed with
    store := { pushed.store with marks := { pushed.store.marks with ended := false } }
    follow := { (after .beatEvent pushed).follow with confirmCount := confirmCount }
    gather := { pushed.gather with taking := .close g }
    startup.config.masks := 0x7F#7 }

/-- The gather of mark 600 with one member, at the time the PROVISIONAL line or the line below it predicts. -/
def close600 (time : Time) : Gather := ⟨600, some 24, none, ⟨1024619, 1027627⟩, 1027927, [onset 5 time 10], 10⟩

theorem witness_MatchedCloseCorrects_provisional :
    (let g := close600 1026163
     let s := provisionalClose g 0;
      s.gather.taking = .close g ∧ 0 < g.sum ∧ (g.members.map (·.weight)).sum = g.sum ∧ s.moving = true ∧ s.header = some header ∧
        s.follow.slots[s.follow.top] = some ⟨.provisional, ⟨576, 1020107, 6016⟩, some 576⟩ ∧ s.store.marks.ended = false ∧
        s.store.notes.endReached = false ∧ s.follow.slots[s.follow.top + 1] = some ⟨.fallback, ⟨552, 1018125, 6016⟩, none⟩ ∧
        s.follow.slots[s.follow.top + 2] = none ∧ s.follow.slots[s.follow.top + 3] = none ∧ s.masked .slew = true ∧
        s.masked .range = true ∧ s.follow.confirmCount = 0 ∧ (s.sched.table[(1 : EntryNo)]).any (Action.heldFor .slip) = true ∧
        (since 1026163 ((⟨576, 1020107, 6016⟩ : Anchor).timeOf 600)).natAbs < (since 1026163 ((⟨552, 1018125, 6016⟩ : Anchor).timeOf 600)).natAbs) ∧
      (since 1030100 ((⟨552, 1018125, 6016⟩ : Anchor).timeOf 600)).natAbs <
        (since 1030100 ((⟨576, 1020107, 6016⟩ : Anchor).timeOf 600)).natAbs ∧
      (since 1030100 ((⟨552, 1018125, 6016⟩ : Anchor).timeOf 600)).natAbs ≤ 6016 * config.windowFactor / 16 ∧
      (provisionalClose (close600 1026163) 1).follow.confirmCount ≠ 0 ∧
      (let s : State := { gathering .following with follow.culprit := some (5, 3) };
        s.follow.culprit = some (5, 3) ∧ (s.gather.peers[(5 : Station)]).present = true) := by decide +kernel

/-- The close of an unsung mark 504 handed over, the masks given. -/
def voidClose (s : State) (masks : BitVec 7) : State :=
  { s with gather := { s.gather with taking := .close (openGather504 0 []) }, startup.config.masks := masks }

theorem witness_VoidCloseTaken :
    (let s := voidClose (gathering .following) 0x0F;
      s.gather.taking = .close (openGather504 0 []) ∧ (openGather504 0 []).sum = 0 ∧ s.masked .void = true ∧ s.provisional = false ∧
        s.play.state = .following ∧ s.follow.misses < 2) ∧
      (let s : State := { voidClose (gathering .following) 0x0F with follow.misses := 2 };
        s.follow.misses = 2 ∧ s.masked .diverge = false ∧ s.wouldReport 2 ∧ s.follow.culprit = none) ∧
      (gathering .leading).play.state = .leading ∧ (gathering .holding).play.state = .holding ∧
      (let s : State := { voidClose pushed 0x0F with play.state := .leading };
        s.follow.slots[s.follow.top] = some ⟨.provisional, ⟨576, 1020107, 6016⟩, some 576⟩ ∧
          s.follow.slots[s.follow.top + 1] = some ⟨.fallback, ⟨552, 1018125, 6016⟩, none⟩ ∧ s.follow.slots[s.follow.top + 2] = none ∧
          s.follow.slots[s.follow.top + 3] = none ∧ (s.sched.table[(1 : EntryNo)]).any (Action.heldFor .slip) = true) := by decide +kernel

/-- The gather of a mark as it opens, its window not yet computed. -/
def openAt (mark : Nat) (gapPrev : Nat) : Gather := ⟨mark, some gapPrev, none, ⟨0, 0⟩, 0, [], 0⟩

/-- The line after the close has reached no BROADEN mark, since the queue holds none; two gathers stand open. -/
theorem witness_MatchedCloseCorrects_opens :
    let s : State := { gathering .following with gather := { (gathering .following).gather with opens := [openAt 528 24, openAt 540 12] } }
    s.gather.opens.length = 2 ∧ ∀ x ∈ s.store.queue, x.broaden ≠ .unserved := by decide +kernel

theorem witness_BeatEventTaken :
    let s : State := { coupling with startup.config.masks := 0x7F#7 }
    s.moving = true ∧ s.follow.nextBeat = some 22 ∧ s.follow.slots[s.follow.top] = some ⟨.active, ⟨504, 1006093, 6016⟩, none⟩ ∧
      s.header = some header ∧ s.plan = some (planEntry .quick 16) ∧ 0 ≤ since s.now (s.timeOf (24 * 22)) ∧ boundaryAt s 22 = none ∧
      s.follow.broaden = false ∧ (∀ m ∈ s.store.queue, m.broaden ≠ .unserved) ∧ s.masked .slew = true ∧ s.masked .range = true ∧
      ((s.gather.peers[(2 : Station)]).claim.any fun c =>
          s.loadedNumber == some c.fields.hymn && decide (4 ≤ c.fields.confidence) && decide (since s.now c.heard ≤ 2 * s.period)) =
        true ∧
      0 < ((coupledClaims s 22).map (·.weight)).sum := by decide +kernel

theorem witness_SectionsAndBroadening :
    let at_ (sect : Nat) : State :=
      let p := playing .following ⟨2616, 1000000, 5980⟩
      { p with
        clock.time := 1005980, play := { p.play with sect := some sect }, follow := { p.follow with nextBeat := some 110 }
        startup.config.masks := 0x7F#7 }
    (let s := at_ 3;
      s.moving = true ∧ s.follow.nextBeat = some 110 ∧ s.follow.slots[s.follow.top] = some ⟨.active, ⟨2616, 1000000, 5980⟩, none⟩ ∧
        s.header = some header ∧ s.masked .range = true ∧ 0 ≤ since s.now (s.timeOf (24 * 110)) ∧ s.store.hymn = some hymn ∧
        s.play.sect = some 3 ∧ 3 < header.verses ∧ header.sectionStart (3 + 1) ≤ 110 ∧ hymn.planOf (3 + 1) = some (planEntry .slow 18) ∧
        (∀ m ∈ s.store.queue, m.broaden ≠ .unserved) ∧ ∀ q : Station, (s.gather.peers[q]).claim = none) ∧
      (boundaryAt (at_ 4) 110 = none ∧ ({ at_ 4 with follow.broaden := true } : State).follow.broaden = true) ∧
      (let s : State := { at_ 4 with store.queue := [sungAt 2600, ⟨2616, .absent, .absent, .unserved, 2616, 0⟩, sungAt 2640] };
        (∀ x ∈ [sungAt 2600], x.broaden ≠ .unserved) ∧ (∀ x ∈ [sungAt 2640], (2616 : Nat) < x.position) ∧ ((2616 : Nat) : Int) ≤ s.position ∧
          2616 < 24 * 110 ∧
          let u : State := { s with follow.nextBeat := some 109 };
          24 * 109 ≤ 2616 ∧ 0 ≤ since u.now (u.timeOf (24 * 109))) := by
  decide +kernel

theorem witness_ClusterTaken :
    let c : Cluster := ⟨[onset 5 1020010 24], 1020107⟩
    let s : State := { early with gather := { early.gather with taking := .cluster c } }
    (s.gather.taking = .cluster c ∧ s.moving = true ∧ slipTarget s c = some (sungAt 576) ∧
        s.follow.slots[s.follow.top] = some ⟨.active, ⟨552, 1018125, 6016⟩, none⟩ ∧ (3 : Fin 4) + 1 = s.follow.top ∧
        s.follow.slots[(3 : Fin 4)] = none ∧ s.store.notes.endReached = false ∧ (∀ x ∈ s.store.queue, x.hold ≠ .unserved) ∧
        s.follow.watch = none ∧ s.sched.barrier = none) ∧
      ((s.sched.table[(1 : EntryNo)]).any (fun a => a.live && a.kind == .noteOn 38 && decide (a.position < 576)) = true) ∧
      slipTarget ({ s with store.queue := [] } : State) c = none ∧ (3 : Fin 4) + 1 = s.follow.top := by decide +kernel

/-- A cluster of three members out of order, two of one event time, and its members as they join a gather. -/
def threeCluster (weight : Nat) : Cluster := ⟨[onset 9 1020300 weight, onset 7 1020160 1, onset 3 1020160 weight], 1020107⟩
def joining3 (weight : Nat) : List Observation := [onset 3 1020160 weight, onset 7 1020160 1, onset 9 1020300 weight]

/-- The cluster handed over with no gather open, and with one open for a mark before the pushed one and one after. -/
def clusterAt (weight : Nat) (opens : List Gather) : State :=
  { early with gather := { early.gather with queue := [], taking := .cluster (threeCluster weight), opens := opens } }

theorem witness_ClusterTaken_adopted :
    let before (x y : Observation) : Bool :=
      x.source != y.source && (decide (0 < since y.time x.time) || x.time == y.time && decide (early.stationOf x.source < early.stationOf y.source))
    let s := clusterAt 3 []
    (s.gather.opens = [] ∧ (joining3 3).isPerm (threeCluster 3).members = true ∧ (joining3 3).Pairwise (fun x y => before x y = true)) ∧
      (((joining3 3).map (·.weight)).sum < s.cfg.quorum ∧ s.cfg.quorum ≤ ((joining3 12).map (·.weight)).sum) ∧
      (∀ o ∈ (clusterAt 12 [openAt 564 36]).gather.opens, o.mark < 576) ∧ 576 < (openAt 600 24).mark := by decide +kernel

/-- The fermata's station in HOLDING with a cluster handed over. -/
def holdCluster : State :=
  { released with gather := { released.gather with taking := .cluster ⟨[onset 5 2009600 24], 2009600⟩ } }

theorem witness_ClusterTaken_holding :
    let s := holdCluster
    let h : HoldRecord := ⟨744, 768, 1994000, 2018000, 26, [.peer 5, .peer 3, .peer 9], true⟩
    s.gather.taking = .cluster ⟨[onset 5 2009600 24], 2009600⟩ ∧ s.play.state = .holding ∧ s.follow.hold = some h ∧
      s.follow.slots[s.follow.top] = some ⟨.active, ⟨768, 2000000, 6000⟩, none⟩ ∧ (3 : Fin 4) + 1 = s.follow.top ∧
      s.follow.slots[(3 : Fin 4)] = none ∧ s.store.notes.endReached = false ∧ (∀ x ∈ s.store.queue, x.hold ≠ .unserved) ∧
      s.sched.barrier = some h.point ∧
      (∀ e : EntryNo, (s.sched.table[e]).all fun x => x.state != .waiting || decide (x.position < 768) || x.due.isNone) ∧
      (s.store.queue = [] ++ sungAt 792 :: [] ∧ (sungAt 792).sung = .unserved ∧ h.point < (sungAt 792).position) ∧
      (∀ x ∈ ({ s with store.queue := [] } : State).store.queue, x.sung = .unserved → x.position ≤ h.point) ∧
      (s.sched.table[(1 : EntryNo)]).any (Action.heldFor .hold) = true := by decide +kernel

theorem witness_HoldTakenAndReleased :
    (let s := fermata;
      s.follow.slots[s.follow.top] = some ⟨.active, ⟨744, 1994000, 6000⟩, none⟩ ∧ s.store.notes.endReached = false ∧ s.moving = true ∧
        s.follow.watch = some ⟨744, 768⟩ ∧ 0 ≤ since s.now (s.timeOf 768) ∧
        s.store.queue = [] ++ ⟨744, .served, .unserved, .absent, 768, 3⟩ :: [sungAt 792] ∧
        (∀ x ∈ s.store.queue, x.broaden ≠ .unserved) ∧ (s.sched.table[(0 : EntryNo)]).any (fun x => x.live && decide (768 ≤ x.position)) = true) ∧
      (let s := released;
        s.follow.slots[s.follow.top] = some ⟨.active, ⟨768, 2000000, 6000⟩, none⟩ ∧ s.play.state = .holding ∧
          (s.follow.hold.map fun h => (h.due, h.point)) = some (true, 768) ∧ s.sched.barrier = some 768 ∧
          (∀ e : EntryNo, (s.sched.table[e]).all fun x => x.state != .waiting || decide (x.position < 768) || x.due.isNone) ∧
          (∀ x ∈ s.store.queue, x.hold ≠ .unserved) ∧ s.play.returnState = some .following ∧
          (s.sched.table[(0 : EntryNo)]).any (Action.heldFor .hold) = true) := by decide +kernel

/-- The fermata's station with a gather open before the hold point and one after it. -/
def fermataOpen : State :=
  { fermata with gather := { fermata.gather with opens := [openAt 760 16, openAt 792 32], previousSung := some 792 } }

theorem witness_HoldTakenAndReleased_opens :
    fermataOpen.gather.opens = [openAt 760 16] ++ [openAt 792 32] ∧ (∀ o ∈ [openAt 760 16], o.mark ≤ 768) ∧
      (∀ o ∈ [openAt 792 32], 768 < o.mark) ∧ sungAt 792 ∈ fermataOpen.store.queue ∧ (sungAt 792).sung = .unserved := by decide +kernel

/-- R101: the gather after the hold point is withdrawn, its mark unserved, and the previous SUNG position goes back to the one before it; the
other stays open under the line of the hold. -/
theorem test_hold_withdraws :
    let t := after .holdPointReached fermataOpen
    t.gather.opens.map (·.mark) = [760] ∧ t.gather.previousSung = some 760 ∧ t.gather.closed = [] ∧ t.store.queue = [sungAt 792] := by
  decide +kernel

/-! ## Witnesses: the action table -/

/-- A station in play with a table of a NOTE_ON of key 40 in entry 2, its NOTE_OFF in entry 3, and channels. -/
def pairTable (on off : Action) (channels : Vector Channel 8) (pass : Option Cursor) : State :=
  { playing .following ⟨984, 2005700, 5950⟩ with
    clock.time := 2005150
    sched :=
      { Scheduler.initial with
        table := ((Vector.replicate 64 none).set 2 (some on)).set 3 (some off), channels := channels, pass := pass } }

/-- A NOTE_OFF of key 40 whose NOTE_ON is in entry 2. -/
def offAction : Action := ⟨.waiting, .noteOff 40, 1006, 620, some 2010880, .entry 2⟩

/-- A NOTE_ON of key 40 in a state, at a position, with a due time. -/
def onAction (st : ActionState) (position : Nat) (due : Time) : Action := ⟨st, .noteOn 40, position, 850, some due, .entry 3⟩

theorem witness_PassAndArming :
    (let s := pairTable (onAction .waiting 1008 2010800) offAction (Vector.replicate 8 .free) (some (.after 1007 0));
      s.store.notes.endReached = false ∧ s.sched.pass = some (.after 1007 0) ∧ nextVisit s.sched (.after 1007 0) = some 2 ∧
        addTicks (s.timeOf 1008) (-850) = 2010800 ∧ 200 < since 2010800 s.now) ∧
      (let s := pairTable (onAction (.armed 0) 1008 2005300) offAction ((Vector.replicate 8 .free).set 0 (.waiting 2 2005300)) (some .start);
        nextVisit s.sched .start = some 3 ∧ nextVisit s.sched (.after 1006 3) = some 2 ∧
          s.sched.channels[(0 : ChannelNo)] = .waiting 2 2005300) ∧
      (let s := { pairTable (onAction (.armed 0) 986 2005300) offAction ((Vector.replicate 8 .free).set 0 (.waiting 2 2005300)) (some .start) with
          clock.time := 2005146 };
        nextVisit s.sched .start = some 2 ∧ addTicks (s.timeOf 986) (-850) = 2005346 ∧ 0 < since 2005346 s.now ∧ since 2005346 s.now ≤ 200) ∧
      nextVisit Scheduler.initial .start = none ∧
      (let s := pairTable (onAction .waiting 988 2005350) offAction (Vector.replicate 8 .free) none;
        (0 : Int) < since 2005350 s.now ∧ since 2005350 s.now ≤ 200 ∧ s.sched.barrier = none ∧ s.sched.channels[(0 : ChannelNo)] = .free ∧
          ∀ f : EntryNo, f ≠ 2 → waitsForChannel s f = false) := by decide +kernel

theorem witness_PassAndArming_at_the_visit :
    let free : Vector Channel 8 := Vector.replicate 8 .free
    (let s := { pairTable (onAction .waiting 986 2005300) offAction free (some .start) with clock.time := 2005146 };
      nextVisit s.sched .start = some 2 ∧ addTicks (s.timeOf 986) (-850) = 2005346 ∧ 0 < since 2005346 s.now ∧ since 2005346 s.now ≤ 200 ∧
        s.sched.channels[(0 : ChannelNo)] = .free ∧ s.sched.barrier = none ∧ ∀ f : EntryNo, f ≠ 2 → waitsForChannel s f = false) ∧
      (let s := pairTable (onAction .waiting 984 2005300) offAction free (some .start);
        addTicks (s.timeOf 984) (-850) = 2004850 ∧ 0 ≤ since s.now 2004850 ∧ since s.now 2004850 ≤ s.cfg.lateLimit ∧
          s.out.counts[(40 : Key)] < 15 ∧ offAction.state = .waiting ∧ 200 < since 2010880 s.now) ∧
      (let s := { pairTable (onAction (.armed 0) 984 2005300) offAction (free.set 0 (.waiting 2 2005300)) (some .start) with
          clock.time := 2005151 };
        s.cfg.lateLimit < since s.now 2004850 ∧ s.wouldReport 3 ∧ s.sched.channels[(0 : ChannelNo)] = .waiting 2 2005300 ∧
          ∀ f : EntryNo, f ≠ 2 → waitsForChannel s f = false) ∧
      (let off : Action := ⟨.waiting, .noteOff 40, 986, 620, some 2010880, .fired 2005100⟩
       let s := { pairTable (onAction (.held .slip) 984 0) off free (some .start) with clock.time := 2005576 };
        nextVisit s.sched .start = some 3 ∧ addTicks (s.timeOf 986) (-620) = 2005576 ∧ 0 ≤ since 2005576 2005100 ∧
          0 ≤ since s.now 2005576 ∧ ∀ f : EntryNo, f ≠ 3 → waitsForChannel s f = false) ∧
      (let stop : Action := ⟨.waiting, .stop 5 .on, 996, 1500, some 2009000, .absent⟩
       let s := { pairTable stop offAction free (some .start) with clock.time := 2007175 };
        nextVisit s.sched .start = some 2 ∧ addTicks (s.timeOf 996) (-1500) = 2007175 ∧ 0 ≤ since s.now 2007175 ∧
          ∀ f : EntryNo, f ≠ 2 → waitsForChannel s f = false) := by decide +kernel

/-- The due times of the rule, by the kind of action (R150): a NOTE_OFF whose NOTE_ON is in the table comes no earlier than 100 ticks after it. -/
theorem witness_rulesDue :
    (coupling.rulesDue ⟨.waiting, .noteOn 40, 504, 850, none, .entry 3⟩ 1005243) ∧
      (coupling.rulesDue ⟨.waiting, .noteOff 40, 504, 620, none, .fired 1006000⟩ 1006000) ∧
      ((pairTable (onAction .waiting 984 2010800) offAction (Vector.replicate 8 .free) none).rulesDue offAction 2010900) := by
  refine ⟨?_, ?_, onAction .waiting 984 2010800, 2010800, by decide +kernel, rfl, by decide +kernel⟩
  · show (1005243 : Time) = addTicks (coupling.timeOf 504) (-850)
    decide +kernel
  · show (1006000 : Time) = if 0 ≤ since (addTicks (coupling.timeOf 504) (-620)) 1006000 then addTicks (coupling.timeOf 504) (-620) else 1006000
    decide +kernel

theorem witness_ChannelsFire :
    let channels (e : EntryNo) : Vector Channel 8 := (Vector.replicate 8 .free).set 0 (.waiting e 2005150)
    (let s := pairTable (onAction (.armed 0) 984 2005150) offAction (channels 2) none;
      s.store.notes.endReached = false ∧ s.sched.channels[(0 : ChannelNo)] = .waiting 2 2005150 ∧ 0 ≤ since s.now 2005150 ∧
        s.sched.table[(2 : EntryNo)] = some (onAction (.armed 0) 984 2005150) ∧ s.sched.table[(3 : EntryNo)] = some offAction ∧
        s.out.counts[(40 : Key)] < 15 ∧ 200 < since 2010880 s.now ∧ s.wouldReport 4) ∧
      ((Vector.replicate 64 0).set 40 15)[(40 : Key)] = 15 ∧
      (let off : Action := ⟨.armed 0, .noteOff 40, 1006, 620, some 2005150, .fired 2004950⟩
       let s := pairTable (onAction .waiting 984 2005150) off (channels 3) none;
        s.sched.channels[(0 : ChannelNo)] = .waiting 3 2005150 ∧ s.sched.table[(3 : EntryNo)] = some off) ∧
      (let s : State :=
          { playing .following ⟨984, 2005700, 5950⟩ with
            clock.time := 2005150
            sched :=
              { Scheduler.initial with
                table := (Vector.replicate 64 none).set 8 (some ⟨.armed 0, .stop 5 .on, 996, 1500, some 2005150, .absent⟩)
                channels := channels 8 } };
        s.sched.channels[(0 : ChannelNo)] = .waiting 8 2005150 ∧ ∀ f : EntryNo, f ≠ 8 → waitsForChannel s f = false) ∧
      (let s : State := { idle with sched.channels := (Vector.replicate 8 .free).set 7 (.pulsing 1000000) };
        s.sched.channels[(7 : ChannelNo)] = .pulsing 1000000 ∧ 0 ≤ since s.now 1000000 ∧ ∀ f : EntryNo, waitsForChannel s f = false) := by
  decide +kernel

theorem witness_LateActions :
    (let s := pairTable (onAction .waiting 984 2004850) offAction (Vector.replicate 8 .free) none;
      s.store.notes.endReached = false ∧ s.sched.table[(2 : EntryNo)] = some (onAction .waiting 984 2004850) ∧ 0 ≤ since s.now 2004850 ∧
        since s.now 2004850 ≤ s.cfg.lateLimit ∧ s.out.counts[(40 : Key)] < 15 ∧ s.sched.barrier = none ∧ 200 < since 2010880 s.now) ∧
      ((300 : Int) < since 2005150 2004849 ∧ idle.cfg.lateLimit = 300 ∧ idle.wouldReport 3) ∧ (984 : Nat) ≤ 984 ∧
      offAction.pair = .entry 2 ∧ (⟨.waiting, .noteOff 40, 1006, 620, some 2005150, .fired 2004950⟩ : Action).pair = .fired 2004950 := by
  decide +kernel

/-! ## Witnesses: the outputs and the faults -/

theorem witness_ValveFrames_check :
    (∀ sound, (checking sound (some 3) true).isHalted = false ∧ (checking sound (some 3) true).startup.valveCheck = some 3 ∧
        (checking sound (some 3) true).startup.soundCheck = true) ∧
      (let s : State := { checking true (some 1) true with startup.soundCheck := false, out.frame := some 5, out.sent := some 3 };
        s.startup.soundCheck = false ∧ s.startup.step = .checks ∧ s.cfg.play = true ∧ s.startup.valveCheck = some 1 ∧ s.out.sent = some 3) ∧
      (let s : State := { checking true (some 3) true with out.frame := some 5, out.sent := some 3 };
        (5#96) ≠ 3 ∧ s.startup.soundCheck = true ∧ s.out.mismatchRun < 2 ∧ s.out.mismatchReported = false ∧
          s.cfg.reactions[(7 : FaultNo)] = .silence ∧ s.latched 7 = false ∧ s.fault.silencing = none ∧ s.play.state = .starting ∧
          s.running = true ∧ s.line.queue.length < 8 ∧ ({ s with out.mismatchReported := true } : State).out.mismatchReported = true) := by
  refine ⟨fun _ => ⟨rfl, rfl, rfl⟩, ?_, ?_⟩ <;> decide +kernel

theorem witness_ValveFrames :
    (let s := atTime 1000010 idle;
      s.configured = true ∧ s.cfg.play = true ∧ s.out.frame = none ∧ 10 ≤ since s.now s.out.frameStart) ∧
      (let s : State := { idle with out := { idle.out with frame := some 5, sent := some 3, mismatchRun := 2 } };
        s.out.frame = some 5 ∧ s.out.sent = some 3 ∧ s.isHalted = false ∧ s.startup.step = .done ∧ s.startup.valveCheck = none ∧
          (5#96) ≠ 3 ∧ s.out.mismatchRun = 2 ∧ s.out.mismatchReported = false ∧ s.cfg.reactions[(7 : FaultNo)] = .silence ∧
          s.latched 7 = false ∧ s.fault.silencing = none ∧ s.play.state ≠ .starting ∧ s.line.queue.length < 8) ∧
      (broken.out.mismatchRun = 2 ∧ broken.out.sent = some 0 ∧ broken.isHalted = false ∧ broken.startup.step = .done ∧
        broken.startup.valveCheck = none ∧ broken.out.mismatchReported = true) ∧ (1 : Nat) < 2 ∧ halted.isHalted = true ∧
      idle.out.sent = none := by decide +kernel

theorem witness_CoilsAndCutoff :
    (let s : State := { idle with out := { idle.out with onCoils := (Vector.replicate 16 none).set 5 (some 1000000), offCoils := (Vector.replicate 16 none).set 6 (some 999999) } };
      s.out.onCoils[(5 : StopNo)] = some 1000000 ∧ 0 ≤ since s.now 1000000 ∧ s.out.offCoils[(6 : StopNo)] = some 999999 ∧
        0 ≤ since s.now 999999) ∧
      (let s : State := atTime 1000010 { idle with out.cutoff := ⟨true, false, 2, [], true, 1000000⟩ };
        s.running = true ∧ s.out.cutoff.settled = true ∧ s.out.cutoff.differing = 2 ∧ 10 ≤ since s.now s.out.cutoff.sampledAt ∧
          s.out.cutoff.asserted = false ∧ s.out.cutoff.pin = true ∧ s.play.state ≠ .starting ∧ s.play.state ≠ .halted ∧
          s.line.queue.length < 8 ∧ ∀ f ∈ s.line.queue, f.body ≠ .halt) ∧
      (let s : State := atTime 1000010 { halted with out.cutoff := ⟨false, true, 2, [], true, 1000000⟩ };
        s.running = true ∧ s.out.cutoff.settled = true ∧ s.out.cutoff.differing = 2 ∧ s.out.cutoff.asserted = true ∧
          s.out.cutoff.pin = false ∧ s.play.state = .halted) := by decide +kernel

theorem witness_SwellOutput :
    (let s := atTime 1000200 idle;
      s.configured = true ∧ s.out.pwmStart = some 1000000 ∧ 200 ≤ since s.now 1000000 ∧ s.isHalted = false) ∧
      255 ≤ 255 ∧ halted.isHalted = true ∧ reading.configured = false := by decide +kernel

theorem witness_FaultsRaised :
    (idle.running = true ∧ idle.wouldReport 1 ∧ idle.wouldReport 5 ∧ (5 : FaultNo) ≠ 1 ∧ (5 : FaultNo) ≠ 2) ∧
      (halted.running = true ∧ halted.isHalted = true) ∧
      (let s : State := { gathering .leading with startup.config.reactions := Vector.replicate 8 .lead, fault.latches := 0xFF#8 };
        s.running = true ∧ s.cfg.reactions[(2 : FaultNo)] = .lead ∧ s.latched 2 = true ∧ s.play.state = .leading ∧
          s.configured = true ∧ s.cfg.attnEnables.getLsbD 2 = true) ∧
      (idle.cfg.reactions[(7 : FaultNo)] = .silence ∧ idle.isHalted = false ∧ idle.play.state ≠ .starting ∧ idle.fault.silencing = none ∧
        idle.latched 7 = false ∧ idle.line.queue.length < 8) ∧ (raiseFault 7 idle).fault.silencing.isSome = true := by decide +kernel

end Sys2Proof.Tests
end

section
/-! What no ordinary command moves: the rule of each shared operation and of each command, said once. -/

namespace Sys2Proof.Machine

/-- The part of the state that belongs to no event: the queue of commands, the counter (R1), the station number (R203), the configuration
record (R195) and the mark latch (R5). -/
structure Standing where
  pending : List Instr
  time : Time
  strap : Station
  config : Configuration
  markLatch : Time

/-- The standing part of a state. -/
def State.standing (s : State) : Standing := ⟨s.pending, s.clock.time, s.startup.strap, s.startup.config, s.line.markLatch⟩

/-- The standing part of a state written out block by block. -/
@[simp] theorem standing_mk (pending : List Instr) (clock : Clock) (startup : StartUp) (line : LineInterface) (front : FrontEnd)
    (store : ScoreStore) (play : PlayController) (cue : CuePort) (gather : GatherUnit) (follow : Follower) (sched : Scheduler)
    (out : OutputStage) (fault : FaultUnit) :
    (State.mk pending clock startup line front store play cue gather follow sched out fault).standing =
      ⟨pending, clock.time, startup.strap, startup.config, line.markLatch⟩ := rfl

/-- The standing part put together again from its fields. -/
@[simp] theorem standing_fold (s : State) :
    Standing.mk s.pending s.clock.time s.startup.strap s.startup.config s.line.markLatch = s.standing := rfl

/-! ## Repetition -/

/-- What one turn of a step leaves as it was, the iterated step leaves as it was. -/
theorem iterate_keeps {α β : Type} (p : α → β) {step : α → Option α} (h : ∀ a b, step a = some b → p b = p a) (n : Nat) (a : α) :
    p (iterate step n a) = p a := by
  induction n generalizing a with
  | zero => rfl
  | succ n ih =>
    unfold iterate
    split
    · rfl
    · rename_i b turn
      exact (ih b).trans (h a b turn)

/-- What one turn of a fold leaves as it was, the whole fold leaves as it was. -/
theorem foldl_keeps {α β γ : Type} (p : α → β) {f : α → γ → α} (h : ∀ a c, p (f a c) = p a) (cs : List γ) (a : α) :
    p (cs.foldl f a) = p a := by
  induction cs generalizing a with
  | nil => rfl
  | cons c cs ih => exact (ih (f a c)).trans (h a c)

/-! ## Faults, exceptions and observations (R15, R83, R120, R184 to R190) -/

@[simp] theorem offerFrame_standing (body : FrameBody) (t : Time) (s : State) : (offerFrame body t s).standing = s.standing := by
  rcases offerFrame_cases body t s with ⟨-, h⟩ | ⟨-, h⟩ <;> rw [h]
  rfl

@[simp] theorem faultFrameLeft_standing (f : QueuedFrame) (s : State) : (faultFrameLeft f s).standing = s.standing := by
  rcases faultFrameLeft_cases f s with h | ⟨-, -, h⟩ <;> rw [h]
  rfl

@[simp] theorem enterSilenced_standing (s : State) : (enterSilenced s).standing = s.standing := rfl

/-- A frame given up on the line takes no mark with it (R5, R17). -/
@[simp] theorem release_markLatch (l : LineInterface) : l.release.markLatch = l.markLatch := by
  rcases release_cases l with ⟨-, h⟩ | ⟨-, h⟩ <;> rw [h]

@[simp] theorem enterHalted_standing (s : State) : (enterHalted s).standing = s.standing := by
  simp [enterHalted]

@[simp] theorem silence_standing (s : State) : (silence s).standing = s.standing := by
  rcases silence_cases s with ⟨-, h⟩ | ⟨-, h⟩ | ⟨-, -, h⟩ <;> rw [h] <;> rfl

@[simp] theorem leadReaction_standing (s : State) : (leadReaction s).standing = s.standing := by
  rcases leadReaction_cases s with h | ⟨p, h, -⟩ <;> rw [h]
  rfl

@[simp] theorem latch_standing (ch : FaultNo) (s : State) : (latch ch s).standing = s.standing := rfl

@[simp] theorem offerFault_standing (ch : FaultNo) (s : State) : (offerFault ch s).standing = s.standing := rfl

@[simp] theorem latchAndReport_standing (ch : FaultNo) (s : State) : (latchAndReport ch s).standing = s.standing := by
  rcases latchAndReport_cases ch s with ⟨-, h⟩ | ⟨-, h⟩ <;> rw [h]
  rfl

@[simp] theorem nameSilencing_standing (ch : FaultNo) (b s : State) : (nameSilencing ch b s).standing = s.standing := by
  rcases nameSilencing_cases ch b s with h | h <;> rw [h]
  rfl

@[simp] theorem raiseFault_standing (ch : FaultNo) (s : State) : (raiseFault ch s).standing = s.standing := by
  rcases raiseFault_cases ch s with ⟨-, h⟩ | ⟨-, -, ⟨-, h⟩ | ⟨-, h⟩ | ⟨-, -, h⟩ | ⟨-, -, h⟩⟩ <;> rw [h] <;> simp

@[simp] theorem exceptionDefault_standing (e : FollowerException) (s : State) : (exceptionDefault e s).standing = s.standing := by
  unfold exceptionDefault
  split
  · rfl
  · dsimp only
    split <;> rfl
  · rfl

@[simp] theorem takeException_standing (e : FollowerException) (c : Option (Station × BitVec 8)) (s : State) :
    (takeException e c s).standing = s.standing := by
  rcases takeException_cases e c s with ⟨-, h⟩ | ⟨-, ⟨-, h⟩ | ⟨-, h⟩⟩ <;> rw [h]
  · simp
  · cases c <;> simp

@[simp] theorem takeExceptionIf_standing (b : Bool) (e : FollowerException) (c : Option (Station × BitVec 8)) (s : State) :
    (takeExceptionIf b e c s).standing = s.standing := by
  unfold takeExceptionIf
  split <;> simp

@[simp] theorem hearPeer_standing (p : Station) (s : State) : (hearPeer p s).standing = s.standing := rfl

@[simp] theorem deliver_standing (o : Observation) (s : State) : (deliver o s).standing = s.standing := by
  rcases deliver_cases o s with ⟨-, h⟩ | ⟨-, -, h⟩ | ⟨-, -, _, _, -, h⟩ <;> rw [h] <;> simp

/-! ## Marks, windows and readers (R40, R50 to R56, R103, R138) -/

@[simp] theorem requestLoad_standing (u : FlashUnit) (a n : Nat) (s : State) : (requestLoad u a n s).standing = s.standing := rfl

@[simp] theorem serveSung_standing (test : Mark → Bool) (s : State) : (serveSung test s).standing = s.standing := rfl

@[simp] theorem serveHold_standing (p : Nat) (s : State) : (serveHold p s).standing = s.standing := rfl

@[simp] theorem reachBroaden_standing (limit : Int) (s : State) : (reachBroaden limit s).standing = s.standing := by
  unfold reachBroaden
  dsimp only
  split <;> rfl

@[simp] theorem reportAnchor_standing (s : State) : (reportAnchor s).standing = s.standing := by
  simp [reportAnchor]

theorem stage_standing {f : State → State} (h : ∀ s, (f s).standing = s.standing) (s : State) : (stage f s).standing = s.standing := by
  rcases stage_cases f s with ⟨-, e⟩ | ⟨-, e⟩ <;> rw [e]
  exact h s

@[simp] theorem watchNext_standing (fuel : Nat) (s : State) : (watchNext fuel s).standing = s.standing := by
  induction fuel generalizing s with
  | zero => rfl
  | succ fuel ih =>
    unfold watchNext
    split
    · rfl
    · split
      · rfl
      · split
        · exact ih _
        · rfl

@[simp] theorem settleWatch_standing (s : State) : (settleWatch s).standing = s.standing := watchNext_standing _ s

@[simp] theorem startWatch_standing (s : State) : (startWatch s).standing = s.standing := by
  simp [startWatch]

@[simp] theorem settleMarks_standing (s : State) : (settleMarks s).standing = s.standing := by
  unfold settleMarks
  split
  · dsimp only
    split
    · split
      · rfl
      · split <;> rfl
    · rfl
  · rfl

theorem settleNotesStep_standing (s t : State) (h : settleNotesStep s = some t) : t.standing = s.standing := by
  unfold settleNotesStep at h
  split at h
  · dsimp only at h
    repeat' split at h
    all_goals cases h <;> rfl
  · cases h

@[simp] theorem settleNotes_standing (s : State) : (settleNotes s).standing = s.standing :=
  iterate_keeps State.standing settleNotesStep_standing 20 s

@[simp] theorem beforeChange_standing (s : State) : (beforeChange s).standing = s.standing := by
  obtain ⟨_, _, h, -⟩ := beforeChange_cases s
  rw [h]
  rfl

@[simp] theorem noteEnd_standing (s : State) : (noteEnd s).standing = s.standing := by
  unfold noteEnd
  split <;> rfl

@[simp] theorem startReaders_standing (beat : Nat) (s : State) : (startReaders beat s).standing = s.standing := by
  unfold startReaders
  split <;> simp

/-! ## Play, seeks, joins and loads (R43, R46, R56, R67, R75 to R78) -/

@[simp] theorem enterPlay_standing (sect : Nat) (a : Anchor) (b : Nat) (c : Change) (s : State) :
    (enterPlay sect a b c s).standing = s.standing := by
  simp [enterPlay]

@[simp] theorem joinComplete_standing (j : JoinAnchor) (s : State) : (joinComplete j s).standing = s.standing := by
  unfold joinComplete
  split <;> simp

@[simp] theorem completeSeek_standing (s : State) : (completeSeek s).standing = s.standing := by
  unfold completeSeek
  split
  · split
    · dsimp only
      split <;> simp
    · rfl
  · rfl

@[simp] theorem beginSeek_standing (beat : Nat) (s : State) : (beginSeek beat s).standing = s.standing := by
  simp [beginSeek]

@[simp] theorem playBegin_standing (mark : Time) (s : State) : (playBegin mark s).standing = s.standing := by
  unfold playBegin
  dsimp only
  split <;> split <;> simp

@[simp] theorem joinStart_standing (hymn : Nat) (s : State) : (joinStart hymn s).standing = s.standing := by
  unfold joinStart
  split
  · dsimp only
    split <;> simp
  · rfl

@[simp] theorem stopPlay_standing (s : State) : (stopPlay s).standing = s.standing := by
  simp [stopPlay]

@[simp] theorem testHymnEnd_standing (s : State) : (testHymnEnd s).standing = s.standing := by
  rcases testHymnEnd_cases s with h | ⟨-, -, -, h⟩ <;> rw [h]
  exact stopPlay_standing s

@[simp] theorem beginLoad_standing (hymn : Nat) (s : State) : (beginLoad hymn s).standing = s.standing := rfl

@[simp] theorem loadFailed_standing (s : State) : (loadFailed s).standing = s.standing := raiseFault_standing 4 _

@[simp] theorem loadComplete_standing (s : State) : (loadComplete s).standing = s.standing := by
  unfold loadComplete
  dsimp only
  split <;> simp

@[simp] theorem testPrimed_standing (s : State) : (testPrimed s).standing = s.standing := by
  unfold testPrimed
  split
  · split <;> simp
  · simp

@[simp] theorem takeFree_standing (s : State) : s.takeFree.2.standing = s.standing := rfl

@[simp] theorem takeFree_time (s : State) : s.takeFree.2.clock.time = s.clock.time := rfl

@[simp] theorem testJoin_standing (s : State) : (testJoin s).standing = s.standing := by
  have form (n : Nat) (t : State) :
      (if t.loadedNumber = some n then joinStart n { t with play.join := some ⟨n, none⟩ }
        else beginLoad n { t with play.join := some ⟨n, none⟩ }).standing = t.standing := by
    split <;> simp
  unfold testJoin
  split
  · dsimp only
    split
    · rfl
    · exact form _ s
    · exact (form _ _).trans (takeFree_standing s)
  · rfl

/-! ## The action table (R149 to R161) -/

@[simp] theorem applyNoteOff_standing (e : EntryNo) (key : Key) (s : State) : (applyNoteOff e key s).standing = s.standing := rfl

@[simp] theorem startPulse_standing (e : EntryNo) (stop : StopNo) (coil : Coil) (c : ChannelNo) (s : State) :
    (startPulse e stop coil c s).standing = s.standing := rfl

@[simp] theorem testReleased_standing (e : EntryNo) (s : State) : (testReleased e s).standing = s.standing := by
  unfold testReleased
  split
  · split
    · split <;> simp
    · rfl
  · rfl

@[simp] theorem applyNoteOn_standing (e : EntryNo) (key : Key) (a : Action) (due : Time) (s : State) :
    (applyNoteOn e key a due s).standing = s.standing := by
  unfold applyNoteOn
  split
  · simp
  · dsimp only
    split <;> simp

@[simp] theorem fireAtOnce_standing (e : EntryNo) (a : Action) (due : Time) (s : State) :
    (fireAtOnce e a due s).standing = s.standing := by
  unfold fireAtOnce
  dsimp only
  split
  · split <;> simp
  · simp
  · split <;> simp

@[simp] theorem testEntry_standing (e : EntryNo) (s : State) : (testEntry e s).standing = s.standing := by
  unfold testEntry
  split
  · split <;> simp
  · rfl

theorem serveStep_standing (s t : State) (h : serveStep s = some t) : t.standing = s.standing := by
  unfold serveStep at h
  repeat' split at h
  all_goals cases h <;> rfl

@[simp] theorem serveWaiters_standing (s : State) : (serveWaiters s).standing = s.standing :=
  iterate_keeps State.standing serveStep_standing 8 s

@[simp] theorem settleTable_standing (s : State) : (settleTable s).standing = s.standing := by
  simp [settleTable]

@[simp] theorem setBarrier_standing (new : Option Nat) (s : State) : (setBarrier new s).standing = s.standing := by
  unfold setBarrier
  dsimp only
  split
  · rfl
  · rw [settleTable_standing]
    split
    · exact foldl_keeps State.standing (fun u e => testEntry_standing e u) _ _
    · rfl

@[simp] theorem rewatch_standing (s : State) : (rewatch s).standing = s.standing := by
  unfold rewatch
  dsimp only
  split <;> simp

@[simp] theorem timeEntry_standing (e : EntryNo) (s : State) : (timeEntry e s).standing = s.standing := by
  unfold timeEntry
  split <;> rfl

@[simp] theorem insertPair_standing (key : Key) (p q : Nat) (s : State) : (insertPair key p q s).standing = s.standing := by
  unfold insertPair
  split
  · rfl
  · dsimp only
    split
    · rfl
    · split <;> simp

@[simp] theorem insertStop_standing (stop : StopNo) (coil : Coil) (p : Nat) (s : State) :
    (insertStop stop coil p s).standing = s.standing := by
  unfold insertStop
  split
  · rfl
  · dsimp only
    split <;> simp

/-! ## The hypothesis stack, gathers and holds (R99, R129 to R136, R143) -/

@[simp] theorem setAnchor_standing (a : Anchor) (s : State) : (setAnchor a s).standing = s.standing := rfl

@[simp] theorem writePeriod_standing (p : Int) (c : Option (Station × BitVec 8)) (s : State) :
    (writePeriod p c s).standing = s.standing := by
  simp [writePeriod]

@[simp] theorem confirmTop_standing (s : State) : (confirmTop s).standing = s.standing := by
  simp [confirmTop]

@[simp] theorem push_standing (p : Nat) (t : Time) (s : State) : (push p t s).standing = s.standing := by
  simp [push]

@[simp] theorem pop_standing (s : State) : (pop s).standing = s.standing := by
  simp [pop]

@[simp] theorem testExhausted_standing (s : State) : (testExhausted s).standing = s.standing := by
  unfold testExhausted
  split <;> simp

@[simp] theorem openGather_standing (p : Nat) (s : State) : (openGather p s).standing = s.standing := rfl

@[simp] theorem abandonBefore_standing (p : Nat) (s : State) : (abandonBefore p s).standing = s.standing := rfl

@[simp] theorem adoptCluster_standing (p : Nat) (c : Cluster) (s : State) : (adoptCluster p c s).standing = s.standing := by
  unfold adoptCluster
  dsimp only
  split <;> split <;> simp

@[simp] theorem slip_standing (p : Nat) (t : Time) (s : State) : (slip p t s).standing = s.standing := by
  unfold slip
  dsimp only
  rw [stage_standing]
  · rw [stage_standing (by simp), push_standing]
  · intro u
    split
    · split <;> simp
    · simp

@[simp] theorem acceptCluster_standing (p : Option Nat) (c : Cluster) (s : State) : (acceptCluster p c s).standing = s.standing := by
  unfold acceptCluster
  split <;> simp

@[simp] theorem releaseSteps_standing (s : State) : (releaseSteps s).standing = s.standing := by
  unfold releaseSteps
  split
  · rfl
  · dsimp only
    rw [stage_standing (by simp), testHymnEnd_standing]
    split <;> simp

/-! ## Observations taken (R91 to R98) -/

@[simp] theorem poolOnset_standing (o : Observation) (s : State) : (poolOnset o s).standing = s.standing := by
  unfold poolOnset
  dsimp only
  split
  · rfl
  · split <;> rfl

@[simp] theorem judgeOnset_standing (o : Observation) (s : State) : (judgeOnset o s).standing = s.standing := by
  unfold judgeOnset
  split
  · split <;> rfl
  · split
    · rfl
    · split <;> simp

/-! ## Closes, clusters, beats and holds (R107 to R118, R131 to R144) -/

@[simp] theorem writeClose_standing (g : Gather) (st : PlayState) (mean : Int) (s : State) :
    (writeClose g st mean s).standing = s.standing := by
  unfold writeClose
  dsimp only
  rw [stage_standing (by simp)]
  simp

@[simp] theorem clearCulprit_standing (period : Nat) (t : Time) (mean : Int) (ms : List Observation) (s : State) :
    (clearCulprit period t mean ms s).standing = s.standing := by
  unfold clearCulprit
  split
  · split <;> rfl
  · rfl

@[simp] theorem acceptClose_standing (mark : Nat) (w : Vector Peer 16 → Vector Peer 16) (s : State) :
    (acceptClose mark w s).standing = s.standing := by
  rcases acceptClose_cases mark w s with h | ⟨-, h⟩ <;> rw [h]
  rfl

@[simp] theorem judgeMatched_standing (g : Gather) (mean : Int) (s : State) : (judgeMatched g mean s).standing = s.standing := by
  unfold judgeMatched
  split
  · rfl
  · split
    · simp
    · split <;> simp

@[simp] theorem endChange_standing (s : State) : (endChange s).standing = s.standing := rfl

/-- The end of a close, with a report or without (R111). -/
theorem closeEnd_standing (moved : Prop) [Decidable moved] (s : State) :
    ((if moved then reportAnchor else endChange) s).standing = s.standing := by
  split <;> simp

@[simp] theorem applyMatched_standing (g : Gather) (st : PlayState) (s : State) : (applyMatched g st s).standing = s.standing := by
  unfold applyMatched
  dsimp only
  rw [testExhausted_standing, acceptClose_standing, stage_standing (closeEnd_standing _),
    stage_standing (clearCulprit_standing _ _ _ _), apply_ite State.standing, stage_standing (judgeMatched_standing _ _), ite_self,
    apply_ite State.standing, writeClose_standing, ite_self]
  rfl

@[simp] theorem applyVoid_standing (g : Gather) (st : PlayState) (s : State) : (applyVoid g st s).standing = s.standing := by
  unfold applyVoid
  dsimp only
  rw [testExhausted_standing, acceptClose_standing, stage_standing (closeEnd_standing _), apply_ite State.standing,
    stage_standing pop_standing, ite_self, stage_standing (by simp), takeException_standing]
  rfl

@[simp] theorem clusterAhead_standing (c : Cluster) (s : State) : (clusterAhead c s).standing = s.standing := by
  unfold clusterAhead
  split
  · rw [acceptCluster_standing, stage_standing reportAnchor_standing, slip_standing]
    rfl
  · exact acceptCluster_standing _ _ _

@[simp] theorem clusterInHold_standing (c : Cluster) (s : State) : (clusterInHold c s).standing = s.standing := by
  unfold clusterInHold
  split
  · rfl
  · dsimp only
    split
    · rw [acceptCluster_standing, stage_standing reportAnchor_standing, stage_standing (slip_standing _ _), releaseSteps_standing]
    · rw [acceptCluster_standing, stage_standing reportAnchor_standing, releaseSteps_standing]

@[simp] theorem rebase_standing (b : Nat) (s : State) : (rebase b s).standing = s.standing := by
  simp [rebase]

@[simp] theorem sectionStage_standing (b : Nat) (s : State) : (sectionStage b s).standing = s.standing := by
  unfold sectionStage
  split
  · rfl
  · dsimp only
    split <;> simp

@[simp] theorem broadenStage_standing (b : Nat) (s : State) : (broadenStage b s).standing = s.standing := by
  unfold broadenStage
  dsimp only
  split <;> simp

@[simp] theorem couplingStage_standing (b : Nat) (s : State) : (couplingStage b s).standing = s.standing := by
  unfold couplingStage
  dsimp only
  split
  · rfl
  · rw [stage_standing (writePeriod_standing _ _)]
    simp

@[simp] theorem pulseStage_standing (b : Nat) (t : Time) (code : Tempo) (s : State) : (pulseStage b t code s).standing = s.standing := by
  simp [pulseStage]

@[simp] theorem swellStage_standing (s : State) : (swellStage s).standing = s.standing := by
  unfold swellStage
  split <;> rfl

@[simp] theorem beatStages_standing (b : Nat) (s : State) : (beatStages b s).standing = s.standing := by
  unfold beatStages
  dsimp only
  rw [stage_standing reportAnchor_standing, stage_standing swellStage_standing, stage_standing (pulseStage_standing _ _ _),
    stage_standing (couplingStage_standing _), stage_standing (broadenStage_standing _), stage_standing (sectionStage_standing _),
    rebase_standing]

@[simp] theorem takeHold_standing (w : Watch) (s : State) : (takeHold w s).standing = s.standing := by
  simp [takeHold]

/-! ## Start-up and cues (R62 to R70, R80, R198 to R202) -/

@[simp] theorem beginJoining_standing (s : State) : (beginJoining s).standing = s.standing := rfl

@[simp] theorem beginOffPulses_standing (s : State) : (beginOffPulses s).standing = s.standing := rfl

@[simp] theorem endChecks_standing (s : State) : (endChecks s).standing = s.standing := by
  unfold endChecks
  split
  · split <;> rfl
  · rfl

@[simp] theorem endFullStart_standing (s : State) : (endFullStart s).standing = s.standing := by
  unfold endFullStart
  dsimp only
  split <;> rfl

@[simp] theorem offerCue_standing (c : Cue) (s : State) : (offerCue c s).standing = s.standing := offerFrame_standing _ _ s

@[simp] theorem offerSelect_standing (s : State) : (offerSelect s).standing = s.standing := by
  simp [offerSelect]

@[simp] theorem takeSelect_standing (n : Nat) (s : State) : (takeSelect n s).standing = s.standing := by
  unfold takeSelect
  split <;> simp

@[simp] theorem takeStart_standing (n : Nat) (s : State) : (takeStart n s).standing = s.standing := by
  unfold takeStart
  split
  · split <;> rfl
  · split <;> simp
  · rfl

@[simp] theorem leaveSilenced_standing (s : State) : (leaveSilenced s).standing = s.standing := by
  unfold leaveSilenced
  dsimp only
  split <;> simp

@[simp] theorem takeStop_standing (s : State) : (takeStop s).standing = s.standing := by
  unfold takeStop
  dsimp only
  repeat' split
  all_goals simp

@[simp] theorem restartLine_markLatch (halted : Bool) (l : LineInterface) : (restartLine halted l).markLatch = l.markLatch := by
  cases halted <;> rfl

@[simp] theorem restarted_standing (s : State) : (restarted s).standing = s.standing := by
  simp [restarted]

@[simp] theorem restartStation_standing (s : State) : (restartStation s).standing = s.standing := by
  unfold restartStation
  dsimp only
  split <;> simp

@[simp] theorem takeCue_standing (c : Cue) (n : Nat) (s : State) : (takeCue c n s).standing = s.standing := by
  cases c <;> simp only [takeCue, takeSelect_standing, takeStart_standing, takeStop_standing]
  split <;> simp

/-! ## The re-time pass and the channels (R154, R158, R159) -/

@[simp] theorem endPass_standing (s : State) : (endPass s).standing = s.standing := by
  unfold endPass
  split
  · split <;> rfl
  · rfl

@[simp] theorem visitWaiting_standing (e : EntryNo) (a : Action) (s : State) : (visitWaiting e a s).standing = s.standing := by
  simp [visitWaiting]

@[simp] theorem visitArmed_standing (e : EntryNo) (c : ChannelNo) (a : Action) (s : State) :
    (visitArmed e c a s).standing = s.standing := by
  unfold visitArmed
  dsimp only
  split
  · simp
  · split <;> simp

@[simp] theorem visit_standing (e : EntryNo) (s : State) : (visit e s).standing = s.standing := by
  unfold visit
  split
  · rfl
  · dsimp only
    split <;> simp

@[simp] theorem applyExpired_standing (c : ChannelNo) (e : EntryNo) (t : Time) (s : State) :
    (applyExpired c e t s).standing = s.standing := by
  unfold applyExpired
  split
  · rfl
  · split <;> simp

/-! ## Frames sent and received (R8 to R10, R17 to R20) -/

@[simp] theorem returnClashed_standing (f : QueuedFrame) (s : State) : (returnClashed f s).standing = s.standing := by
  unfold returnClashed
  dsimp only
  split
  · simp
  · split <;> simp

@[simp] theorem completeOwn_standing (f : QueuedFrame) (s : State) : (completeOwn f s).standing = s.standing := by
  unfold completeOwn
  split <;> simp

@[simp] theorem endOfFrame_standing (bytes : List Byte) (s : State) : (endOfFrame bytes s).standing = s.standing := rfl

@[simp] theorem discardFrame_standing (bits : List Bool) (s : State) : (discardFrame bits s).standing = s.standing := rfl

@[simp] theorem levelSeen_markLatch (n : Nat) (l : LineInterface) : (levelSeen n l).markLatch = l.markLatch := by
  unfold levelSeen
  split <;> rfl

@[simp] theorem heardFrom_standing (w : WireFrame) (k : ObsKind) (n : BitVec 8) (s : State) :
    (heardFrom w k n s).standing = s.standing := by
  unfold heardFrom
  dsimp only
  split <;> simp

@[simp] theorem storeClaim_standing (p : Station) (c : Claim) (s : State) : (storeClaim p c s).standing = s.standing := rfl

@[simp] theorem pulseFrom_standing (w : WireFrame) (f : PulseFields) (s : State) : (pulseFrom w f s).standing = s.standing := by
  unfold pulseFrom
  dsimp only
  split <;> simp

@[simp] theorem takeHalt_standing (s : State) : (takeHalt s).standing = s.standing := by
  unfold takeHalt
  split <;> simp

@[simp] theorem cueFrom_standing (w : WireFrame) (c : Cue) (n : Nat) (s : State) : (cueFrom w c n s).standing = s.standing := by
  unfold cueFrom
  split
  · split <;> simp
  · simp

/-! ## The output stage (R171 to R173) -/

@[simp] theorem returnMatched_standing (s : State) : (returnMatched s).standing = s.standing := by
  simp [returnMatched]

@[simp] theorem returnMismatched_standing (s : State) : (returnMismatched s).standing = s.standing := by
  unfold returnMismatched
  dsimp only
  rw [endChecks_standing]
  split <;> simp

@[simp] theorem returnCheck_standing (returned : BitVec 96) (s : State) : (returnCheck returned s).standing = s.standing := by
  unfold returnCheck
  split
  · split
    · rfl
    · split <;> simp
  · rfl

@[simp] theorem latchFrame_standing (frame returned : BitVec 96) (s : State) : (latchFrame frame returned s).standing = s.standing := by
  simp [latchFrame]

@[simp] theorem setCutoff_standing (level : Bool) (s : State) : (setCutoff level s).standing = s.standing := rfl

@[simp] theorem assertionTaken_standing (s : State) : (assertionTaken s).standing = s.standing := by
  unfold assertionTaken
  split <;> simp

/-! ## The sound front end (R24, R32, R200) -/

@[simp] theorem handOn_standing (o : Confirmed) (s : State) : (handOn o s).standing = s.standing := by
  unfold handOn
  split <;> simp

@[simp] theorem passSoundCheck_standing (s : State) : (passSoundCheck s).standing = s.standing := by
  unfold passSoundCheck
  split <;> simp

@[simp] theorem completeBlock_standing (b : Block) (s : State) : (completeBlock b s).standing = s.standing := by
  unfold completeBlock
  dsimp only
  split <;> simp

@[simp] theorem takeSample_standing (x : BitVec 16) (stamp : Time) (s : State) : (takeSample x stamp s).standing = s.standing := by
  unfold takeSample
  dsimp only
  split <;> simp

/-! ## The score store (R43 to R54) -/

@[simp] theorem probe_standing (hymn low high : Nat) (s : State) : (probe hymn low high s).standing = s.standing := by
  unfold probe
  split <;> simp

@[simp] theorem takeCount_standing (hymn count : Nat) (s : State) : (takeCount hymn count s).standing = s.standing := by
  unfold takeCount
  split <;> simp

@[simp] theorem takeEntry_standing (hymn low high at_ : Nat) (e : DirectoryEntry) (s : State) :
    (takeEntry hymn low high at_ e s).standing = s.standing := by
  unfold takeEntry
  repeat' split
  all_goals simp

@[simp] theorem takeDirectory_standing (bytes : List Byte) (s : State) : (takeDirectory bytes s).standing = s.standing := by
  unfold takeDirectory
  split <;> simp

@[simp] theorem takeHeader_standing (bytes : List Byte) (s : State) : (takeHeader bytes s).standing = s.standing := by
  unfold takeHeader
  split
  · dsimp only
    split <;> simp
  · rfl

@[simp] theorem takePlan_standing (bytes : List Byte) (s : State) : (takePlan bytes s).standing = s.standing := by
  unfold takePlan
  split
  · split <;> simp
  · rfl

theorem markStep_standing (s t : State) (h : markStep s = some t) : t.standing = s.standing := by
  unfold markStep at h
  dsimp only at h
  repeat' split at h
  all_goals cases h <;> simp

@[simp] theorem runMarks_standing (s : State) : (runMarks s).standing = s.standing := by
  have turns := iterate_keeps State.standing markStep_standing 40 s
  unfold runMarks
  dsimp only
  split <;> simp [turns]

@[simp] theorem takeMarkBlock_standing (bytes : List Byte) (s : State) : (takeMarkBlock bytes s).standing = s.standing := by
  unfold takeMarkBlock
  dsimp only
  split <;> simp

theorem noteStep_standing (s t : State) (h : noteStep s = some t) : t.standing = s.standing := by
  unfold noteStep at h
  split at h
  · cases h
  · dsimp only at h
    split at h
    · exact settleNotesStep_standing s t h
    · repeat' split at h
      all_goals cases h <;> simp

@[simp] theorem runNotes_standing (s : State) : (runNotes s).standing = s.standing :=
  (testPrimed_standing _).trans (iterate_keeps State.standing noteStep_standing 60 s)

@[simp] theorem takeNoteBlock_standing (bytes : List Byte) (s : State) : (takeNoteBlock bytes s).standing = s.standing := by
  unfold takeNoteBlock
  dsimp only
  split <;> simp

@[simp] theorem insertNote_standing (s : State) : (insertNote s).standing = s.standing := by
  unfold insertNote
  split <;> simp

@[simp] theorem planStop_standing (stop : StopNo) (s : State) : (planStop stop s).standing = s.standing := rfl

theorem stopStep_standing (s t : State) (h : stopStep s = some t) : t.standing = s.standing := by
  unfold stopStep at h
  split at h
  · cases h
    simp
  · cases h

/-! ## The commands -/

/-- Whatever next state an outcome answers, it has a given standing part. -/
def AnswersStanding (o : Host.Outcome State Fault Refusal) (standing : Standing) : Prop := ∀ t, o = .next t → t.standing = standing

/-- A command whose effect leaves the standing part alone leaves it alone, whether its event can happen or not (log 2). -/
theorem act_answersStanding {s t : State} (due : Bool) (h : t.standing = s.standing) : AnswersStanding (act s due t) s.standing := by
  intro u e
  rcases act_cases e with ⟨-, rfl⟩ | ⟨-, rfl⟩
  · exact h
  · rfl

/-- A command whose event cannot happen. -/
theorem act_false_answersStanding (s t : State) : AnswersStanding (act s false t) s.standing := by
  intro u e
  cases e
  rfl

/-- A completed flash read moves what is done with its bytes moves (R40, R41). -/
theorem completeRead_answersStanding (units : List FlashUnit) (bytes : List Byte) {use : State → State}
    (h : ∀ s, (use s).standing = s.standing) (s : State) : AnswersStanding (completeRead units bytes use s) s.standing := by
  refine act_answersStanding _ ?_
  split
  · rfl
  · exact h _

theorem receiveCue_answersStanding (c : Cue) (bytes : List Byte) (s : State) : AnswersStanding (receiveCue c bytes s) s.standing := by
  unfold receiveCue
  split
  · split
    · exact act_answersStanding _ (cueFrom_standing _ _ _ _)
    · exact act_false_answersStanding s s
  · exact act_false_answersStanding s s

theorem execStopActionInsert_answersStanding (s : State) : AnswersStanding (execStopActionInsert s) s.standing :=
  act_answersStanding _ ((runNotes_standing _).trans (iterate_keeps State.standing stopStep_standing 16 s))

theorem execHoldRelease_answersStanding (s : State) : AnswersStanding (execHoldRelease s) s.standing := by
  unfold execHoldRelease
  split
  · exact act_answersStanding _ ((stage_standing reportAnchor_standing _).trans (releaseSteps_standing s))
  · exact act_false_answersStanding s s

theorem execGatherOpen_answersStanding (s : State) : AnswersStanding (execGatherOpen s) s.standing := by
  unfold execGatherOpen
  split
  · refine act_answersStanding _ ?_
    split
    · split <;> rfl
    · rfl
  · exact act_false_answersStanding s s

theorem execSyncMarkBegin_answersStanding (s : State) : AnswersStanding (execSyncMarkBegin s) s.standing := by
  refine act_answersStanding _ ?_
  split <;> rfl

theorem execRetimeVisit_answersStanding (s : State) : AnswersStanding (execRetimeVisit s) s.standing := by
  unfold execRetimeVisit
  split
  · exact act_false_answersStanding s s
  · exact act_answersStanding _ (by split <;> simp)

/-- The commands that set something of the standing part (R5, R194, R195). -/
def setsStanding : Instr → Bool
  | .resetAsserted | .fullStart _ | .configurationSectionRead _ | .frameMark _ => true
  | _ => false

theorem setsStanding_cases {c : Instr} (h : setsStanding c = true) :
    c = .resetAsserted ∨ (∃ n, c = .fullStart n) ∨ (∃ bytes, c = .configurationSectionRead bytes) ∨ ∃ n, c = .frameMark n := by
  unfold setsStanding at h
  split at h
  · exact .inl rfl
  · exact .inr (.inl ⟨_, rfl⟩)
  · exact .inr (.inr (.inl ⟨_, rfl⟩))
  · exact .inr (.inr (.inr ⟨_, rfl⟩))
  · cases h

/-- Every other command leaves the whole standing part as it was. The commands stand in groups: those that write fields outside it, the
flash reads, the frames received, the events named by something the state must hold, and those whose effect is a shared operation. -/
theorem exec_answersStanding (c : Instr) (s : State) (h : setsStanding c = false) : AnswersStanding (exec c s) s.standing := by
  cases c with
  | resetAsserted | fullStart _ | configurationSectionRead _ | frameMark _ => cases h
  | offPulsesEnd | lineReleasedHigh | peerAbsenceExpiry _ | coilRelease _ _ | valveFrameStart | cutoffPinChange _ | cutoffReleaseEdge
  | pwmPeriodStart | syncMarkRejected _ => exact act_answersStanding _ rfl
  | directoryRead bytes => exact completeRead_answersStanding _ bytes (takeDirectory_standing bytes) s
  | headerRead bytes => exact completeRead_answersStanding _ bytes (takeHeader_standing bytes) s
  | versePlanRead bytes => exact completeRead_answersStanding _ bytes (takePlan_standing bytes) s
  | markBlockRead bytes => exact completeRead_answersStanding _ bytes (takeMarkBlock_standing bytes) s
  | noteBlockRead bytes => exact completeRead_answersStanding _ bytes (takeNoteBlock_standing bytes) s
  | select bytes => exact receiveCue_answersStanding .select bytes s
  | start bytes => exact receiveCue_answersStanding .start bytes s
  | stop bytes => exact receiveCue_answersStanding .stop bytes s
  | restart bytes => exact receiveCue_answersStanding .restart bytes s
  | heardReceived _ | pulseReceived _ | haltReceived _ | faultReceived _ =>
    simp only [exec, execHeardReceived, execPulseReceived, execHaltReceived, execFaultReceived]
    split
    · split
      · exact act_answersStanding _ (by simp [apply_ite State.standing])
      · exact act_false_answersStanding s s
    · exact act_false_answersStanding s s
  | frameClash _ _ | frameComplete | invalidFrame _ _ | duplicate _ | sampleTaken _ _ | onsetTaken | releaseTaken | gatherCloseExpiry _
  | gatherCloseTaken | clusterTaken | beatEvent | broadenMarkReached | holdPointReached | holdLimitExpiry | channelExpiry _
  | stopPulseEnd _ | valveFrameLatch _ =>
    simp only [exec, execFrameClash, execFrameComplete, execInvalidFrame, execDuplicate, execSampleTaken, execOnsetTaken,
      execReleaseTaken, execGatherCloseExpiry, execGatherCloseTaken, execClusterTaken, execBeatEvent, execBroadenMarkReached,
      execHoldPointReached, execHoldLimitExpiry, execChannelExpiry, execStopPulseEnd, execValveFrameLatch]
    split <;> exact act_answersStanding _ (by simp [apply_ite State.standing])
  | soundCheckTimeout | joinCountComplete | lineQuiet _ | lineHeldLow _ | soundInputLost | hymnNumberStable | buttonPressEdge _
  | bothHeldRestart | markAppend | notePairInsert | endOfScore | actionArm _ | dueTimePassedWaiting _ | assertionEdge
  | debouncedLevelChange _ => exact act_answersStanding _ (by simp [apply_ite State.standing])
  | stopActionInsert => exact execStopActionInsert_answersStanding s
  | holdRelease => exact execHoldRelease_answersStanding s
  | gatherOpen => exact execGatherOpen_answersStanding s
  | syncMarkBegin => exact execSyncMarkBegin_answersStanding s
  | retimeVisit => exact execRetimeVisit_answersStanding s

/-- A reset clears the mark latch and nothing else of the standing part (R194, R203). -/
theorem execResetAsserted_answersStanding (s : State) : AnswersStanding (execResetAsserted s) { s.standing with markLatch := 0 } := by
  intro t h
  cases h
  rfl

/-- A frame mark writes the mark latch or nothing (R5). -/
theorem execFrameMark_standing {n : Nat} {s t : State} (h : execFrameMark n s = .next t) :
    t.standing = s.standing ∨ t.standing = { s.standing with markLatch := s.now } := by
  rcases act_cases h with ⟨-, rfl⟩ | ⟨-, rfl⟩
  · exact .inr rfl
  · exact .inl rfl

/-- A section read writes the configuration record or nothing (R195, R196). -/
theorem execConfigurationSectionRead_standing {bytes : List Byte} {s t : State} (h : execConfigurationSectionRead bytes s = .next t) :
    t.standing = s.standing ∨ t.standing = { s.standing with config := sectionConfig bytes } := by
  rcases act_cases h with ⟨-, rfl⟩ | ⟨-, rfl⟩
  · split
    · right
      dsimp only
      rw [endChecks_standing, apply_ite State.standing, raiseFault_standing, ite_self]
      rfl
    · exact .inl rfl
  · exact .inl rfl

end Sys2Proof.Machine

open Sys2Proof Sys2Proof.Machine

/-- Settles O4: every command but four leaves the whole standing part alone, and each of the four writes its own field of it. -/
theorem identityAndTimeKept : Obligations.IdentityAndTimeKept := by
  unfold Obligations.IdentityAndTimeKept
  intro c s t h notStart
  cases sets : setsStanding c
  · have same := exec_answersStanding c s sets t h
    exact ⟨congrArg Standing.time same, congrArg Standing.strap same, fun _ => congrArg Standing.config same,
      fun _ _ => congrArg Standing.markLatch same⟩
  · rcases setsStanding_cases sets with rfl | ⟨n, rfl⟩ | ⟨bytes, rfl⟩ | ⟨n, rfl⟩
    · have reset := execResetAsserted_answersStanding s t h
      exact ⟨congrArg Standing.time reset, congrArg Standing.strap reset, fun _ => congrArg Standing.config reset,
        fun notReset => absurd rfl notReset⟩
    · exact absurd rfl (notStart n)
    · rcases execConfigurationSectionRead_standing h with read | read <;>
        exact ⟨congrArg Standing.time read, congrArg Standing.strap read, fun notRead => absurd rfl (notRead bytes),
          fun _ _ => congrArg Standing.markLatch read⟩
    · rcases execFrameMark_standing h with marked | marked <;>
        exact ⟨congrArg Standing.time marked, congrArg Standing.strap marked, fun _ => congrArg Standing.config marked,
          fun _ notMark => absurd rfl (notMark n)⟩

end

section
/-! One bit time with no command waiting (R1, R4, R12, R36, R172). -/

namespace Sys2Proof.Machine

/-- A tick ends at its twenty-fifth bit time (R1). -/
theorem tickEnds_iff (bit : Nat) : Config.bitsPerTick ≤ bit + 1 ↔ ¬bit < 24 := by
  show 25 ≤ bit + 1 ↔ _
  omega

/-- The counter after one bit time: the next bit time of the tick, or the next tick (R1). -/
theorem clockAdvance_eq (c : Clock) :
    c.advance = if c.bit < 24 then { c with bit := c.bit + 1 } else { c with bit := 0, time := c.time + 1 } := by
  simp only [Clock.advance, tickEnds_iff, ite_not]

/-- The front end after one bit time: a tick more at the port when the tick ends (R36, log 46). -/
theorem frontAdvance_eq (f : FrontEnd) (bit : Nat) :
    f.advance (Config.bitsPerTick ≤ bit + 1) = if bit < 24 then f else { f with portTicks := f.portTicks + 1 } := by
  simp only [FrontEnd.advance, decide_eq_true_eq, tickEnds_iff, ite_not]

/-- The state a bit time leaves before the cutoff pin is looked at. -/
def State.advanced (s : State) : State :=
  { s with
    clock := s.clock.advance, line := s.line.advance
    front := s.front.advance (Config.bitsPerTick ≤ s.clock.bit + 1) }

/-- With an empty queue a step is a bit time (log 3). -/
theorem step_of_idle {s : State} (idle : s.pending = []) : step s = .next (bitTime s) := by
  unfold step
  rw [idle]

/-- Under reset a bit time moves nothing (R194). -/
theorem bitTime_of_held {s : State} (held : s.running = false) : bitTime s = s := by simp [bitTime, held]

theorem bitTime_of_running {s : State} (running : s.running = true) : bitTime s = sampleCutoff s.advanced := by
  simp [bitTime, running, State.advanced]

/-! ## The sample of the cutoff pin (R172) -/

theorem sampleCutoff_of_not_due (s : State) (early : since s.now s.out.cutoff.sampledAt < 10) : sampleCutoff s = s :=
  if_neg (not_le.2 early)

theorem sampleCutoff_of_due (s : State) (due : 10 ≤ since s.now s.out.cutoff.sampledAt) : sampleCutoff s = takeCutoffSample s := if_pos due

theorem takeCutoffSample_same (s : State) (settled : s.out.cutoff.settled = true) (same : s.out.cutoff.pin = s.out.cutoff.asserted) :
    takeCutoffSample s = { s with out.cutoff := { s.out.cutoff with differing := 0, sampledAt := s.now } } := by
  simp [takeCutoffSample, settled, same]

theorem takeCutoffSample_differs (s : State) (settled : s.out.cutoff.settled = true) (differs : s.out.cutoff.pin ≠ s.out.cutoff.asserted)
    (few : s.out.cutoff.differing < 2) :
    takeCutoffSample s = { s with out.cutoff := { s.out.cutoff with differing := s.out.cutoff.differing + 1, sampledAt := s.now } } := by
  simp [takeCutoffSample, settled, differs, few]

theorem takeCutoffSample_early (s : State) (unsettled : s.out.cutoff.settled = false) (few : s.out.cutoff.early.length < 2) :
    takeCutoffSample s =
      { s with out.cutoff := { s.out.cutoff with early := s.out.cutoff.early ++ [s.out.cutoff.pin], sampledAt := s.now } } := by
  simp [takeCutoffSample, unsettled, few]

/-- Three samples that agree set their level, whatever the free value (R172, log 7). -/
theorem firstCutoff_agree (seed : Nat) (pin : Bool) : firstCutoff seed [pin, pin, pin] = pin := by
  cases pin <;> rfl

theorem takeCutoffSample_settles (s : State) (unsettled : s.out.cutoff.settled = false)
    (agree : s.out.cutoff.early = [s.out.cutoff.pin, s.out.cutoff.pin]) :
    takeCutoffSample s =
      { s with
        clock.opened := s.clock.opened + 1
        out.cutoff :=
          { s.out.cutoff with asserted := s.out.cutoff.pin, early := [], settled := true, sampledAt := s.now } } := by
  simp [takeCutoffSample, unsettled, agree, State.takeFree, firstCutoff_agree]

end Sys2Proof.Machine

open Sys2Proof Sys2Proof.Machine

/-- Settles O2: an idle step is a bit time, and what the cutoff pin does at it is one of the cases of its sample. -/
theorem idleStepIsOneBitTime : Obligations.IdleStepIsOneBitTime := by
  unfold Obligations.IdleStepIsOneBitTime
  intro s idle
  dsimp only
  rw [← clockAdvance_eq, ← frontAdvance_eq, step_of_idle idle]
  refine ⟨fun held => ?_, fun running early => ?_, fun running due settled same => ?_, fun running due settled differs few => ?_,
    fun running due unsettled few => ?_, fun running due unsettled agree => ?_⟩
  · rw [bitTime_of_held held]
  · rw [bitTime_of_running running, sampleCutoff_of_not_due s.advanced early]
    rfl
  · rw [bitTime_of_running running, sampleCutoff_of_due s.advanced due, takeCutoffSample_same s.advanced settled same]
    rfl
  · rw [bitTime_of_running running, sampleCutoff_of_due s.advanced due, takeCutoffSample_differs s.advanced settled differs few]
    rfl
  · rw [bitTime_of_running running, sampleCutoff_of_due s.advanced due, takeCutoffSample_early s.advanced unsettled few]
    rfl
  · rw [bitTime_of_running running, sampleCutoff_of_due s.advanced due, takeCutoffSample_settles s.advanced unsettled agree]
    rfl

end

section
/-! The transmit queue (R10, R15, R16): what an offer, a return from a clash and the age test leave of its rules. -/

namespace Sys2Proof.Machine

/-- The transmit queue as R15 has it, with no frame of eight clashes in it (R10). -/
structure LegalQueue (q : List QueuedFrame) : Prop where
  length : q.length ≤ 8
  pulses : q.countP QueuedFrame.isPulse ≤ 1
  halts : ∀ g ∈ q.tail, g.isHalt = false
  clashes : ∀ g ∈ q, g.clashes < 8

theorem queueLegal_iff (l : LineInterface) :
    l.queueLegal = true ↔ LegalQueue l.queue ∧ ∀ f ∈ l.onLine, f.frame.clashes < 8 := by
  simp only [LineInterface.queueLegal, Bool.and_eq_true, decide_eq_true_eq, Bool.not_eq_true', List.any_eq_false, List.all_eq_true,
    Option.all_eq_true, Bool.not_eq_true]
  exact ⟨fun ⟨⟨⟨⟨len, pulses⟩, halts⟩, clashes⟩, line⟩ => ⟨⟨len, pulses, halts, clashes⟩, line⟩,
    fun ⟨⟨len, pulses, halts, clashes⟩, line⟩ => ⟨⟨⟨⟨len, pulses⟩, halts⟩, clashes⟩, line⟩⟩

theorem legalQueue_nil : LegalQueue [] := ⟨by simp, by simp, by simp, by simp⟩

/-- Behind the head of a part of a list stands nothing that does not stand behind the head of the list. -/
theorem mem_tail_of_sublist {α : Type} {r q : List α} (sub : r.Sublist q) {a : α} (mem : a ∈ r.tail) : a ∈ q.tail := by
  induction sub with
  | slnil => exact mem
  | cons b sub => exact sub.subset (List.mem_of_mem_tail mem)
  | cons_cons b sub => exact sub.subset mem

theorem LegalQueue.sublist {q r : List QueuedFrame} (h : LegalQueue q) (sub : r.Sublist q) : LegalQueue r :=
  ⟨sub.length_le.trans h.length, sub.countP_le.trans h.pulses, fun g mem => h.halts g (mem_tail_of_sublist sub mem),
    fun g mem => h.clashes g (sub.subset mem)⟩

theorem isHalt_of_isPulse {f : QueuedFrame} (h : f.isPulse = true) : f.isHalt = false := by
  simp only [QueuedFrame.isPulse, QueuedFrame.isHalt, beq_iff_eq] at h ⊢
  simp [h]

/-- One frame more in a queue with room for it, the queue without a PULSE when the frame is one. -/
theorem LegalQueue.insert {q p : List QueuedFrame} {f : QueuedFrame} (h : LegalQueue q) (perm : p.Perm (f :: q)) (room : q.length < 8)
    (few : f.clashes < 8) (noPulse : f.isPulse = true → ∀ g ∈ q, g.isPulse = false) (halts : ∀ g ∈ p.tail, g.isHalt = false) :
    LegalQueue p where
  length := by
    rw [perm.length_eq]
    exact room
  pulses := by
    rw [perm.countP_eq, List.countP_cons]
    cases pulse : f.isPulse
    · exact h.pulses
    · simpa using noPulse pulse
  halts := halts
  clashes g mem := by
    rcases List.mem_cons.1 (perm.subset mem) with rfl | mem
    · exact few
    · exact h.clashes g mem

/-- An offer keeps the queue legal (R15, R16). -/
theorem LegalQueue.enqueue {q : List QueuedFrame} {f : QueuedFrame} (h : LegalQueue q) (few : f.clashes < 8) :
    LegalQueue (enqueue q f).1 := by
  have rest : LegalQueue (if f.isPulse then q.filter (fun g => !g.isPulse) else q) := by
    split
    · exact h.sublist List.filter_sublist
    · exact h
  rcases enqueue_cases q f with ⟨-, e⟩ | ⟨-, e⟩ | ⟨halt, noHalts, r, room, e⟩ | ⟨noHalt, ⟨r, room, e⟩ | ⟨-, e⟩⟩ <;> rw [e]
  · exact h
  · exact h
  · have sub := makeRoom_sublist room
    refine (h.sublist sub).insert (.refl _) (makeRoom_length room h.length) few (fun pulse => ?_) fun g mem => noHalts g (sub.subset mem)
    rw [isHalt_of_isPulse pulse] at halt
    cases halt
  · have sub := makeRoom_sublist room
    refine (rest.sublist sub).insert (List.perm_append_singleton f r) (makeRoom_length room rest.length) few (fun pulse g mem => ?_) ?_
    · have kept := sub.subset mem
      rw [if_pos pulse] at kept
      simpa using (List.mem_filter.1 kept).2
    · intro g mem
      have behind := (rest.sublist sub).halts
      cases r with
      | nil => simp at mem
      | cons a r =>
        rcases List.mem_append.1 mem with mem | mem
        · exact behind g mem
        · rwa [List.mem_singleton.1 mem]
  · exact rest

/-- A frame that comes back to the queue finds no PULSE there when it is one, and no HALT when it is one (R9). -/
theorem requeue_finds {q : List QueuedFrame} {f : QueuedFrame} {r : List QueuedFrame} (h : requeue q f = (r, true)) :
    (f.isPulse = true → ∀ g ∈ q, g.isPulse = false) ∧ (f.isHalt = true → ∀ g ∈ q, g.isHalt = false) := by
  unfold requeue at h
  split at h
  · cases h
  · rename_i free
    simp only [Bool.or_eq_true, Bool.and_eq_true, List.any_eq_true, not_or, not_and, not_exists, Bool.not_eq_true] at free
    exact free

/-- A returning frame stands in front of the queue, or behind the HALT at its head. -/
theorem LegalQueue.putFirst {q : List QueuedFrame} {f : QueuedFrame} (h : LegalQueue q) (room : q.length < 8) (few : f.clashes < 8)
    (noPulse : f.isPulse = true → ∀ g ∈ q, g.isPulse = false) (noHalt : f.isHalt = true → ∀ g ∈ q, g.isHalt = false) :
    LegalQueue (putFirst f q) := by
  cases q with
  | nil => exact h.insert (p := [f]) (.refl _) room few noPulse (by simp)
  | cons g rest =>
    cases halt : g.isHalt
    · simp only [Sys2Proof.Machine.putFirst, halt, Bool.false_eq_true, if_false]
      exact h.insert (.refl _) room few noPulse (by simpa [halt] using h.halts)
    · simp only [Sys2Proof.Machine.putFirst, halt, if_true]
      have notHalt : f.isHalt = false := by
        by_contra is
        rw [noHalt (by simpa using is) g List.mem_cons_self] at halt
        cases halt
      exact h.insert (.swap f g rest) room few noPulse (by simpa [notHalt] using h.halts)

/-- A return from a clash keeps the queue legal (R9, R15, R16). -/
theorem LegalQueue.requeue {q : List QueuedFrame} {f : QueuedFrame} (h : LegalQueue q) (few : f.clashes < 8) :
    LegalQueue (requeue q f).1 := by
  rcases requeue_cases q f with e | ⟨r, room, e⟩
  · rw [e]; exact h
  · obtain ⟨noPulse, noHalt⟩ := requeue_finds e
    have sub := makeRoom_sublist room
    rw [e]
    exact (h.sublist sub).putFirst (makeRoom_length room h.length) few (fun is g mem => noPulse is g (sub.subset mem))
      fun is g mem => noHalt is g (sub.subset mem)

end Sys2Proof.Machine

end

section
/-! What every operation keeps of the line (R10, R15, R21): the queue legal, a HALTED station silent, and HALTED itself (R81). -/

namespace Sys2Proof.Machine

/-- What a station can be heard by, and what makes it HALTED: the transmit queue, the frame on the line, the transmitter, the play state and the
loader. -/
structure Voice where
  queue : List QueuedFrame
  onLine : Option LineFrame
  transmitter : Transmitter
  play : PlayState
  loader : Loader

/-- The voice of a state. -/
def State.voice (s : State) : Voice := ⟨s.line.queue, s.line.onLine, s.line.transmitter, s.play.state, s.store.loader⟩

/-- The queue and the frame on the line as R10 and R15 have them. -/
def Voice.legal (v : Voice) : Prop := LegalQueue v.queue ∧ ∀ f ∈ v.onLine, f.frame.clashes < 8

/-- Nothing to be heard: no frame, the transmitter OFF (R21). -/
def Voice.silent (v : Voice) : Prop := v.queue = [] ∧ v.onLine = none ∧ v.transmitter = .off

/-- Silent when HALTED (R21, R191). -/
def Voice.quiet (v : Voice) : Prop := v.play = .halted → v.silent

/-- HALTED as it stands: silent, with no load (R59). -/
def Voice.laidDown (v : Voice) : Prop := v.play = .halted ∧ v.silent ∧ v.loader = .idle

/-- From one voice to the other a legal queue stays legal and a HALTED station silent. -/
def Voice.Orderly (v w : Voice) : Prop := (v.legal → w.legal) ∧ (v.quiet → w.quiet)

/-- From the first state to the second a legal queue stays legal and a HALTED station silent. -/
def Orderly (b s : State) : Prop := b.voice.Orderly s.voice

/-- From one voice to the other the same, and a HALTED station stays HALTED. -/
def Voice.Steady (v w : Voice) : Prop := v.Orderly w ∧ (v.laidDown → w.laidDown)

/-- From the first state to the second a legal queue stays legal, a HALTED station silent and HALTED. It speaks of the voices alone, so whatever
leaves the voice as it was keeps it. -/
def Steady (b s : State) : Prop := b.voice.Steady s.voice

theorem queueLegal_iff_voice (s : State) : s.line.queueLegal = true ↔ s.voice.legal := queueLegal_iff s.line

theorem haltedQuiet_iff_voice (s : State) : s.haltedQuiet = true ↔ s.voice.quiet := by
  unfold Voice.quiet Voice.silent State.voice State.haltedQuiet State.isHalted
  by_cases halted : s.play.state = .halted <;> simp [halted, and_assoc]

variable {b s t : State}

theorem Orderly.trans {u : State} (h : Orderly b s) (k : Orderly s u) : Orderly b u := ⟨k.1 ∘ h.1, k.2 ∘ h.2⟩

theorem Steady.refl (s : State) : Steady s s := ⟨⟨id, id⟩, id⟩

theorem Steady.orderly (h : Steady b s) : Orderly b s := h.1

theorem awake_of_not_halted (awake : s.isHalted = false) : s.voice.play ≠ .halted := by
  simpa [State.isHalted, State.voice] using awake

/-- What a station that is not HALTED came from was not laid down. -/
theorem Steady.free (h : Steady b s) (awake : s.voice.play ≠ .halted) : ¬b.voice.laidDown := fun laid => awake (h.2 laid).1

/-- What a station with a load in progress came from was not laid down. -/
theorem Steady.free_of_load (h : Steady b s) (load : s.store.loader ≠ .idle) : ¬b.voice.laidDown := fun laid => load (h.2 laid).2.2

theorem Orderly.steady (h : Orderly b s) (free : ¬b.voice.laidDown) : Steady b s := ⟨h, fun laid => absurd laid free⟩

/-- A state with the line of another that is not HALTED. -/
theorem Orderly.wake (h : Orderly b s) (line : t.line = s.line) (awake : t.voice.play ≠ .halted) : Orderly b t := by
  refine ⟨fun legal => ?_, fun _ halted => absurd halted awake⟩
  have := h.1 legal
  unfold Voice.legal State.voice at this ⊢
  rwa [line]

theorem Steady.wake (h : Steady b s) (free : ¬b.voice.laidDown) (line : t.line = s.line) (awake : t.voice.play ≠ .halted) : Steady b t :=
  (h.orderly.wake line awake).steady free

/-- A play controller that is HALTED exactly when the present one is. -/
theorem Steady.play (p : PlayController) (h : Steady b s) (same : p.state = .halted ↔ s.play.state = .halted) :
    Steady b { s with play := p } :=
  ⟨⟨h.1.1, fun quiet halted => h.1.2 quiet (same.1 halted)⟩, fun laid => ⟨same.2 (h.2 laid).1, (h.2 laid).2⟩⟩

/-- The loader taken on in a load. -/
theorem Steady.load (l : Loader) (h : Steady b s) (free : ¬b.voice.laidDown) : Steady b { s with store.loader := l } :=
  ⟨h.1, fun laid => absurd laid free⟩

/-- Another transmit queue in a station that is not HALTED. -/
theorem Steady.queue (q : List QueuedFrame) (h : Steady b s) (awake : b.voice.quiet → s.voice.play ≠ .halted)
    (legal : LegalQueue s.line.queue → LegalQueue q) : Steady b { s with line.queue := q } :=
  ⟨⟨fun before => ⟨legal (h.1.1 before).1, (h.1.1 before).2⟩, fun quiet halted => absurd halted (awake quiet)⟩,
    fun laid => absurd (h.2 laid).1 (awake fun _ => laid.2.1)⟩

/-- Another transmitter, OFF when the present one is. -/
theorem Steady.transmitter (x : Transmitter) (h : Steady b s) (off : s.line.transmitter = .off → x = .off) :
    Steady b { s with line.transmitter := x } := by
  have silent (v : s.voice.silent) : ({ s with line.transmitter := x } : State).voice.silent := ⟨v.1, v.2.1, off v.2.2⟩
  exact ⟨⟨h.1.1, fun quiet halted => silent (h.1.2 quiet halted)⟩, fun laid => ⟨(h.2 laid).1, silent (h.2 laid).2.1, (h.2 laid).2.2⟩⟩

/-! ## Repetition -/

/-- What every turn of a step keeps, the iterated step keeps. -/
theorem iterate_invariant {α : Type} {p : α → Prop} {step : α → Option α} (turn : ∀ a a', p a → step a = some a' → p a') (n : Nat) {a : α}
    (h : p a) : p (iterate step n a) := by
  induction n generalizing a with
  | zero => exact h
  | succ n ih =>
    unfold iterate
    split
    · exact h
    · exact ih (turn _ _ h ‹_›)

/-- What every turn of a fold keeps, the whole fold keeps. -/
theorem foldl_invariant {α γ : Type} {p : α → Prop} {f : α → γ → α} (turn : ∀ a c, p a → p (f a c)) (cs : List γ) {a : α} (h : p a) :
    p (cs.foldl f a) := by
  induction cs generalizing a with
  | nil => exact h
  | cons c cs ih => exact ih (turn a c h)

/-! ## Faults, exceptions and observations (R15, R83, R120, R184 to R190) -/

theorem awake_of_state {st : PlayState} (state : s.play.state = st) (other : st ≠ .halted) : s.voice.play ≠ .halted :=
  fun halted => other (state ▸ halted)

theorem awake_of_moving (moving : s.moving = true) : s.voice.play ≠ .halted := by
  unfold State.moving at moving
  split at moving
  · exact awake_of_state ‹_› (by simp)
  · exact awake_of_state ‹_› (by simp)
  · cases moving

theorem awake_of_inPlay (inPlay : s.inPlay = true) : s.voice.play ≠ .halted := by
  rcases Bool.or_eq_true_iff.1 inPlay with moving | holding
  · exact awake_of_moving moving
  · exact awake_of_state (st := .holding) (by simpa using holding) (by simp)

theorem offerFrame_steady {body : FrameBody} {time : Time} (h : Steady b s) : Steady b (offerFrame body time s) := by
  rcases offerFrame_cases body time s with ⟨-, e⟩ | ⟨awake, e⟩ <;> rw [e]
  · exact h
  · exact h.queue _ (fun _ => awake_of_not_halted awake) fun legal => legal.enqueue (Nat.zero_lt_succ 7)

theorem faultFrameLeft_steady {f : QueuedFrame} (h : Steady b s) : Steady b (faultFrameLeft f s) := by
  rcases faultFrameLeft_cases f s with e | ⟨-, -, e⟩ <;> rw [e] <;> exact h

theorem enterSilenced_steady (h : Steady b s) (free : ¬b.voice.laidDown) : Steady b (enterSilenced s) := h.wake free rfl nofun

theorem enterHalted_steady (b s : State) : Steady b (enterHalted s) := by
  have silent : (enterHalted s).voice.silent := ⟨rfl, enterHalted_onLine s, rfl⟩
  refine ⟨⟨fun _ => ⟨legalQueue_nil, ?_⟩, fun _ _ => silent⟩, fun _ => ⟨rfl, silent, rfl⟩⟩
  rw [silent.2.1]
  nofun

theorem silence_steady (h : Steady b s) : Steady b (silence s) := by
  rcases silence_cases s with ⟨-, e⟩ | ⟨-, e⟩ | ⟨awake, -, e⟩ <;> rw [e]
  · exact h
  · exact h
  · exact enterSilenced_steady h (h.free awake)

theorem leadReaction_steady (h : Steady b s) : Steady b (leadReaction s) := by
  rcases leadReaction_cases s with e | ⟨p, e, state⟩ <;> rw [e]
  · exact h
  · refine h.play p ?_
    rcases state with ⟨now, rfl⟩ | ⟨now, rfl⟩ | ⟨now, rfl⟩ <;> simp [now]

theorem latchAndReport_steady {ch : FaultNo} (h : Steady b s) (awake : s.isHalted = false) : Steady b (latchAndReport ch s) := by
  rcases latchAndReport_cases ch s with ⟨-, e⟩ | ⟨-, e⟩ <;> rw [e]
  · exact h
  · exact h.queue _ (fun _ => awake_of_not_halted awake) fun legal => legal.enqueue (Nat.zero_lt_succ 7)

theorem nameSilencing_steady {ch : FaultNo} {before : State} (h : Steady b s) : Steady b (nameSilencing ch before s) := by
  rcases nameSilencing_cases ch before s with e | e <;> rw [e] <;> exact h

theorem raiseFault_steady {ch : FaultNo} (h : Steady b s) : Steady b (raiseFault ch s) := by
  rcases raiseFault_cases ch s with ⟨-, e⟩ | ⟨awake, -, ⟨-, e⟩ | ⟨-, e⟩ | ⟨-, -, e⟩ | ⟨-, -, e⟩⟩ <;> rw [e]
  · exact h
  · exact latchAndReport_steady h awake
  · exact leadReaction_steady (latchAndReport_steady h awake)
  · exact enterHalted_steady b _
  · exact silence_steady (nameSilencing_steady (latchAndReport_steady h awake))

theorem exceptionDefault_steady {e : FollowerException} (h : Steady b s) : Steady b (exceptionDefault e s) := by
  unfold exceptionDefault
  split
  · exact h
  · dsimp only
    split
    · exact Steady.play (s := { s with follow.misses := 0 }) _ h (by simp [‹s.play.state = .following›])
    · exact h
  · exact h

theorem takeException_steady {e : FollowerException} {c : Option (Station × BitVec 8)} (h : Steady b s) :
    Steady b (takeException e c s) := by
  have default : Steady b (exceptionDefault e { s with follow.sticky := s.follow.sticky ||| (1#7 <<< e.bit) }) :=
    exceptionDefault_steady h
  rcases takeException_cases e c s with ⟨-, eq⟩ | ⟨-, ⟨-, eq⟩ | ⟨-, eq⟩⟩ <;> rw [eq]
  · exact h
  · exact default
  · split <;> exact raiseFault_steady default

theorem takeExceptionIf_steady {cond : Bool} {e : FollowerException} {c : Option (Station × BitVec 8)} (h : Steady b s) :
    Steady b (takeExceptionIf cond e c s) := by
  unfold takeExceptionIf
  split
  · exact takeException_steady h
  · exact h

theorem deliver_steady {o : Observation} (h : Steady b s) : Steady b (deliver o s) := by
  rcases deliver_cases o s with ⟨-, e⟩ | ⟨-, -, e⟩ | ⟨-, -, _, _, -, e⟩ <;> rw [e]
  · exact h
  · exact h
  · exact takeException_steady h

/-! ## Marks, windows and readers (R40, R50 to R56, R103, R138) -/

theorem reachBroaden_steady {limit : Int} (h : Steady b s) : Steady b (reachBroaden limit s) := by
  unfold reachBroaden
  dsimp only
  split <;> exact h

theorem reportAnchor_steady (h : Steady b s) : Steady b (reportAnchor s) := reachBroaden_steady (limit := s.position) h

theorem stage_steady {f : State → State} (effect : ∀ {u}, Steady b u → Steady b (f u)) (h : Steady b s) : Steady b (stage f s) := by
  rcases stage_cases f s with ⟨-, e⟩ | ⟨-, e⟩ <;> rw [e]
  · exact effect h
  · exact h

theorem watchNext_steady {fuel : Nat} (h : Steady b s) : Steady b (watchNext fuel s) := by
  induction fuel generalizing s with
  | zero => exact h
  | succ fuel ih =>
    unfold watchNext
    split
    · exact h
    · split
      · exact h
      · split
        · exact ih h
        · exact h

theorem settleWatch_steady (h : Steady b s) : Steady b (settleWatch s) := watchNext_steady h

theorem startWatch_steady (h : Steady b s) : Steady b (startWatch s) := settleWatch_steady h

theorem settleMarks_steady (h : Steady b s) : Steady b (settleMarks s) := by
  unfold settleMarks
  split
  · dsimp only
    split
    · split
      · exact h
      · split <;> exact h
    · exact h
  · exact h

theorem settleNotesStep_steady (h : Steady b s) (turn : settleNotesStep s = some t) : Steady b t := by
  unfold settleNotesStep at turn
  split at turn
  · dsimp only at turn
    repeat' split at turn
    all_goals cases turn <;> exact h
  · cases turn

theorem settleNotes_steady (h : Steady b s) : Steady b (settleNotes s) := iterate_invariant (fun _ _ => settleNotesStep_steady) 20 h

theorem beforeChange_steady (h : Steady b s) : Steady b (beforeChange s) := by
  obtain ⟨_, _, e, -⟩ := beforeChange_cases s
  rw [e]
  exact h

theorem noteEnd_steady (h : Steady b s) : Steady b (noteEnd s) := by
  unfold noteEnd
  split <;> exact h

theorem startReaders_steady {beat : Nat} (h : Steady b s) : Steady b (startReaders beat s) := by
  unfold startReaders
  split
  · exact h
  · exact settleNotes_steady (settleMarks_steady h)

/-! ## Play, seeks, joins and loads (R43, R46, R56, R67, R75 to R78) -/

theorem enterPlay_steady {sect : Nat} {a : Anchor} {beat : Nat} {c : Change} (h : Steady b s) (free : ¬b.voice.laidDown) :
    Steady b (enterPlay sect a beat c s) :=
  reportAnchor_steady (startWatch_steady ((beforeChange_steady h).wake free rfl nofun))

theorem joinComplete_steady {j : JoinAnchor} (h : Steady b s) (free : ¬b.voice.laidDown) : Steady b (joinComplete j s) := by
  unfold joinComplete
  split
  · exact enterPlay_steady h free
  · exact h

theorem completeSeek_steady (h : Steady b s) : Steady b (completeSeek s) := by
  unfold completeSeek
  split
  · split
    · dsimp only
      split
      · exact joinComplete_steady h (h.free (awake_of_state ‹s.play.state = .loaded› (by simp)))
      · exact h
    · exact h
  · exact h

theorem beginSeek_steady {beat : Nat} (h : Steady b s) : Steady b (beginSeek beat s) := completeSeek_steady (startReaders_steady h)

theorem playBegin_steady {mark : Time} (h : Steady b s) (free : ¬b.voice.laidDown) : Steady b (playBegin mark s) := by
  let cleared : State := { s with play := { s.play with pendingStart := none, join := none } }
  have sought : Steady b (if cleared.store.seek.any (· != 0) then beginSeek 0 cleared else cleared) := by
    split
    · exact beginSeek_steady h
    · exact h
  unfold playBegin
  dsimp only
  split
  · exact enterPlay_steady sought free
  · exact sought

theorem joinStart_steady {hymn : Nat} (h : Steady b s) : Steady b (joinStart hymn s) := by
  unfold joinStart
  split
  · dsimp only
    split
    · exact h
    · exact beginSeek_steady h
  · exact h

theorem stopPlay_steady (h : Steady b s) (free : ¬b.voice.laidDown) : Steady b (stopPlay s) := beginSeek_steady (h.wake free rfl nofun)

theorem testHymnEnd_steady (h : Steady b s) : Steady b (testHymnEnd s) := by
  rcases testHymnEnd_cases s with e | ⟨moving, -, -, e⟩ <;> rw [e]
  · exact h
  · exact stopPlay_steady h (h.free (awake_of_moving moving))

theorem beginLoad_steady {hymn : Nat} (h : Steady b s) (free : ¬b.voice.laidDown) : Steady b (beginLoad hymn s) := h.wake free rfl nofun

theorem loadFailed_steady (h : Steady b s) (free : ¬b.voice.laidDown) : Steady b (loadFailed s) :=
  raiseFault_steady (h.wake free rfl nofun)

theorem loadComplete_steady (h : Steady b s) (free : ¬b.voice.laidDown) : Steady b (loadComplete s) := by
  have loaded : Steady b { s with store.loader := .idle, play := { s.play with state := .loaded, joinLoad := none } } :=
    h.wake free rfl nofun
  unfold loadComplete
  dsimp only
  split
  · exact playBegin_steady loaded free
  · exact joinStart_steady loaded
  · exact loaded

theorem testPrimed_steady (h : Steady b s) : Steady b (testPrimed s) := by
  unfold testPrimed
  split
  · split
    · exact loadComplete_steady h (h.free_of_load (by simp [‹s.store.loader = .priming›]))
    · exact h
  · exact completeSeek_steady h

/-- A join request formed in a station that is not HALTED (R75). -/
theorem formJoin_steady {n : Nat} (h : Steady b s) (free : ¬b.voice.laidDown) :
    Steady b
      (if s.loadedNumber = some n then joinStart n { s with play.join := some ⟨n, none⟩ }
        else beginLoad n { s with play.join := some ⟨n, none⟩ }) := by
  split
  · exact joinStart_steady h
  · exact beginLoad_steady h free

theorem testJoin_steady (h : Steady b s) : Steady b (testJoin s) := by
  unfold testJoin
  split
  · rename_i ready
    have free : ¬b.voice.laidDown := by
      rcases ready with ⟨idle | loaded, -⟩
      · exact h.free (awake_of_state idle (by simp))
      · exact h.free (awake_of_state loaded (by simp))
    have opened : Steady b s.takeFree.2 := h
    dsimp only
    split
    · exact h
    · exact formJoin_steady h free
    · exact formJoin_steady opened free
  · exact h

end Sys2Proof.Machine

end

section
namespace Sys2Proof.Machine

variable {b s t : State}

/-- Either branch of a choice. -/
theorem steady_ite {c : Prop} [Decidable c] (h : Steady b s) (k : Steady b t) : Steady b (if c then s else t) := by
  split
  · exact h
  · exact k

/-! ## The action table (R149 to R161) -/

theorem testReleased_steady {e : EntryNo} (h : Steady b s) : Steady b (testReleased e s) := by
  unfold testReleased
  split
  · split
    · split <;> exact h
    · exact h
  · exact h

theorem applyNoteOn_steady {e : EntryNo} {key : Key} {a : Action} {due : Time} (h : Steady b s) :
    Steady b (applyNoteOn e key a due s) := by
  unfold applyNoteOn
  split
  · exact raiseFault_steady h
  · dsimp only
    split
    · exact testReleased_steady h
    · exact h

theorem fireAtOnce_steady {e : EntryNo} {a : Action} {due : Time} (h : Steady b s) : Steady b (fireAtOnce e a due s) := by
  unfold fireAtOnce
  dsimp only
  split
  · split
    · exact raiseFault_steady h
    · exact applyNoteOn_steady h
  · exact h
  · split <;> exact h

theorem testEntry_steady {e : EntryNo} (h : Steady b s) : Steady b (testEntry e s) := by
  unfold testEntry
  split
  · split
    · exact fireAtOnce_steady h
    · exact h
  · exact h

theorem serveStep_steady (h : Steady b s) (turn : serveStep s = some t) : Steady b t := by
  unfold serveStep at turn
  repeat' split at turn
  all_goals cases turn <;> exact h

theorem settleTable_steady (h : Steady b s) : Steady b (settleTable s) :=
  testHymnEnd_steady (iterate_invariant (fun _ _ => serveStep_steady) 8 h)

theorem setBarrier_steady {new : Option Nat} (h : Steady b s) : Steady b (setBarrier new s) := by
  unfold setBarrier
  dsimp only
  split
  · exact h
  · refine settleTable_steady ?_
    split
    · exact foldl_invariant (fun _ _ => testEntry_steady) _ h
    · exact h

theorem rewatch_steady (h : Steady b s) : Steady b (rewatch s) := by
  unfold rewatch
  dsimp only
  split
  · exact setBarrier_steady (settleWatch_steady h)
  · exact settleWatch_steady h

theorem timeEntry_steady {e : EntryNo} (h : Steady b s) : Steady b (timeEntry e s) := by
  unfold timeEntry
  split <;> exact h

theorem insertPair_steady {key : Key} {p q : Nat} (h : Steady b s) : Steady b (insertPair key p q s) := by
  unfold insertPair
  split
  · exact h
  · dsimp only
    split
    · exact h
    · split
      · exact settleTable_steady (testEntry_steady (testEntry_steady (timeEntry_steady (timeEntry_steady h))))
      · exact h

theorem insertStop_steady {stop : StopNo} {coil : Coil} {p : Nat} (h : Steady b s) : Steady b (insertStop stop coil p s) := by
  unfold insertStop
  split
  · exact h
  · dsimp only
    split
    · exact settleTable_steady (testEntry_steady (timeEntry_steady h))
    · exact h

/-! ## The hypothesis stack, gathers and holds (R99, R129 to R136, R143) -/

theorem writePeriod_steady {p : Int} {c : Option (Station × BitVec 8)} (h : Steady b s) : Steady b (writePeriod p c s) :=
  takeExceptionIf_steady h

theorem confirmTop_steady (h : Steady b s) : Steady b (confirmTop s) := testHymnEnd_steady h

theorem push_steady {p : Nat} {time : Time} (h : Steady b s) : Steady b (push p time s) :=
  takeExceptionIf_steady (beforeChange_steady h)

theorem pop_steady (h : Steady b s) : Steady b (pop s) := beforeChange_steady h

theorem testExhausted_steady (h : Steady b s) : Steady b (testExhausted s) := by
  unfold testExhausted
  split
  · exact confirmTop_steady h
  · exact h

theorem adoptCluster_steady {p : Nat} {c : Cluster} (h : Steady b s) : Steady b (adoptCluster p c s) := by
  unfold adoptCluster
  dsimp only
  split <;> split <;> exact h

theorem slip_steady {p : Nat} {time : Time} (h : Steady b s) : Steady b (slip p time s) := by
  unfold slip
  dsimp only
  refine stage_steady (fun k => ?_) (stage_steady (fun k => settleTable_steady k) (push_steady h))
  split
  · split <;> exact rewatch_steady k
  · exact rewatch_steady k

theorem acceptCluster_steady {p : Option Nat} {c : Cluster} (h : Steady b s) : Steady b (acceptCluster p c s) := by
  unfold acceptCluster
  split
  · exact testExhausted_steady (adoptCluster_steady h)
  · exact h
  · exact h

/-- The return state of a hold is none of HALTED (R74). -/
theorem takeReturn_state (p : PlayController) : (takeReturn p).state ≠ .halted := by
  unfold takeReturn
  split <;> simp

theorem releaseSteps_steady (h : Steady b s) (free : ¬b.voice.laidDown) : Steady b (releaseSteps s) := by
  unfold releaseSteps
  split
  · exact h
  · refine stage_steady (fun k => rewatch_steady k) (testHymnEnd_steady ?_)
    dsimp only
    split <;> exact (beforeChange_steady h).wake free rfl (takeReturn_state _)

/-! ## Observations taken (R91 to R98) -/

theorem poolOnset_steady {o : Observation} (h : Steady b s) : Steady b (poolOnset o s) := by
  unfold poolOnset
  dsimp only
  split
  · exact h
  · split <;> exact h

theorem judgeOnset_steady {o : Observation} (h : Steady b s) : Steady b (judgeOnset o s) := by
  unfold judgeOnset
  split
  · split <;> exact h
  · split
    · exact h
    · split
      · exact takeException_steady h
      · exact poolOnset_steady h

/-! ## Closes, clusters, beats and holds (R107 to R118, R131 to R144) -/

theorem writeClose_steady {g : Gather} {st : PlayState} {mean : Int} (h : Steady b s) : Steady b (writeClose g st mean s) :=
  stage_steady (fun k => writePeriod_steady k) (takeExceptionIf_steady (beforeChange_steady h))

theorem clearCulprit_steady {period : Nat} {time : Time} {mean : Int} {ms : List Observation} (h : Steady b s) :
    Steady b (clearCulprit period time mean ms s) := by
  unfold clearCulprit
  split
  · split <;> exact h
  · exact h

theorem acceptClose_steady {mark : Nat} {w : Vector Peer 16 → Vector Peer 16} (h : Steady b s) : Steady b (acceptClose mark w s) := by
  rcases acceptClose_cases mark w s with e | ⟨-, e⟩ <;> rw [e] <;> exact h

theorem judgeMatched_steady {g : Gather} {mean : Int} (h : Steady b s) : Steady b (judgeMatched g mean s) := by
  unfold judgeMatched
  split
  · exact h
  · split
    · exact pop_steady h
    · split
      · exact h
      · exact confirmTop_steady h

/-- The end of a close, with a report or without (R111). -/
theorem closeEnd_steady {moved : Prop} [Decidable moved] (h : Steady b s) :
    Steady b ((if moved then reportAnchor else endChange) s) := by
  split
  · exact reportAnchor_steady h
  · exact h

theorem reportMatched_halted (p : PlayController) : (reportMatched p).state = .halted ↔ p.state = .halted := by
  unfold reportMatched
  split
  · split
    · simp
    · split <;> simp [*]
  · simp

theorem reportVoid_halted (p : PlayController) : (reportVoid p).state = .halted ↔ p.state = .halted := by
  unfold reportVoid
  split <;> simp

theorem applyMatched_steady {g : Gather} {st : PlayState} (h : Steady b s) : Steady b (applyMatched g st s) := by
  have counted := h.play _ (reportMatched_halted s.play)
  unfold applyMatched
  dsimp only
  refine testExhausted_steady (acceptClose_steady (stage_steady closeEnd_steady (stage_steady clearCulprit_steady ?_)))
  split
  · exact stage_steady judgeMatched_steady (writeClose_steady counted)
  · exact counted

theorem applyVoid_steady {g : Gather} {st : PlayState} (h : Steady b s) : Steady b (applyVoid g st s) := by
  have voided := h.play _ (reportVoid_halted s.play)
  unfold applyVoid
  dsimp only
  refine testExhausted_steady (acceptClose_steady (stage_steady closeEnd_steady (steady_ite ?_ ?_)))
  · exact stage_steady pop_steady (stage_steady (fun k => takeExceptionIf_steady k) (takeException_steady voided))
  · exact stage_steady (fun k => takeExceptionIf_steady k) (takeException_steady voided)

theorem clusterAhead_steady {c : Cluster} (h : Steady b s) : Steady b (clusterAhead c s) := by
  unfold clusterAhead
  split
  · exact acceptCluster_steady (stage_steady reportAnchor_steady (slip_steady h))
  · exact acceptCluster_steady h

theorem clusterInHold_steady {c : Cluster} (h : Steady b s) (free : ¬b.voice.laidDown) : Steady b (clusterInHold c s) := by
  have released := releaseSteps_steady h free
  unfold clusterInHold
  split
  · exact h
  · dsimp only
    split
    · exact acceptCluster_steady (stage_steady reportAnchor_steady (stage_steady slip_steady released))
    · exact acceptCluster_steady (stage_steady reportAnchor_steady released)

theorem rebase_steady {beat : Nat} (h : Steady b s) : Steady b (rebase beat s) := noteEnd_steady (beforeChange_steady h)

theorem sectionStage_steady {beat : Nat} (h : Steady b s) (free : ¬b.voice.laidDown) : Steady b (sectionStage beat s) := by
  unfold sectionStage
  split
  · exact h
  · dsimp only
    split
    · exact writePeriod_steady (h.wake free rfl nofun)
    · exact h.wake free rfl nofun

theorem broadenStage_steady {beat : Nat} (h : Steady b s) : Steady b (broadenStage beat s) := by
  have reached := reachBroaden_steady (limit := (24 * beat : Nat)) h
  unfold broadenStage
  dsimp only
  split
  · exact writePeriod_steady reached
  · exact reached

theorem couplingStage_steady {beat : Nat} (h : Steady b s) : Steady b (couplingStage beat s) := by
  unfold couplingStage
  dsimp only
  split
  · exact h
  · exact stage_steady writePeriod_steady (takeExceptionIf_steady h)

theorem pulseStage_steady {beat : Nat} {time : Time} {code : Tempo} (h : Steady b s) : Steady b (pulseStage beat time code s) :=
  offerFrame_steady (s := { s with follow.resyncPending := false }) h

theorem swellStage_steady (h : Steady b s) : Steady b (swellStage s) := by
  unfold swellStage
  split <;> exact h

theorem beatStages_steady {beat : Nat} (h : Steady b s) (free : ¬b.voice.laidDown) : Steady b (beatStages beat s) := by
  have sectioned := stage_steady (fun k => sectionStage_steady (beat := beat) k free) (rebase_steady (beat := beat) h)
  exact stage_steady reportAnchor_steady (stage_steady swellStage_steady (stage_steady pulseStage_steady
    (stage_steady couplingStage_steady (stage_steady broadenStage_steady sectioned))))

theorem takeHold_steady {w : Watch} (h : Steady b s) (free : ¬b.voice.laidDown) : Steady b (takeHold w s) := by
  have broadened := reachBroaden_steady (limit := w.point) (s := { beforeChange s with follow.change := some .hold }) (beforeChange_steady h)
  exact reportAnchor_steady (settleWatch_steady (settleTable_steady (broadened.wake free rfl nofun)))

/-! ## Start-up and cues (R62 to R70, R80, R198 to R202) -/

theorem endChecks_steady (h : Steady b s) : Steady b (endChecks s) := by
  unfold endChecks
  split
  · split <;> exact h
  · exact h

theorem endFullStart_steady (h : Steady b s) (free : ¬b.voice.laidDown) : Steady b (endFullStart s) := by
  have idle : Steady b { s with startup.step := .done, play.state := .idle } := h.wake free rfl nofun
  unfold endFullStart
  dsimp only
  split
  · exact enterSilenced_steady idle free
  · exact idle

theorem offerCue_steady {c : Cue} (h : Steady b s) : Steady b (offerCue c s) := offerFrame_steady h

theorem offerSelect_steady (h : Steady b s) : Steady b (offerSelect s) := offerCue_steady (c := .select) h

theorem takeSelect_steady {n : Nat} (h : Steady b s) : Steady b (takeSelect n s) := by
  have load (awake : s.voice.play ≠ .halted) :
      Steady b (beginLoad n { s with play := { s.play with pendingStart := none, join := none, barred := none } }) :=
    beginLoad_steady h (h.free awake)
  unfold takeSelect
  split
  · exact load (awake_of_state ‹_› (by simp))
  · exact load (awake_of_state ‹_› (by simp))
  · exact load (awake_of_state ‹_› (by simp))
  · exact h

theorem takeStart_steady {n : Nat} (h : Steady b s) : Steady b (takeStart n s) := by
  unfold takeStart
  split
  · split <;> exact h
  · split
    · exact playBegin_steady h (h.free (awake_of_state ‹_› (by simp)))
    · exact h
  · exact h

theorem leaveSilenced_steady (h : Steady b s) (free : ¬b.voice.laidDown) : Steady b (leaveSilenced s) := by
  unfold leaveSilenced
  dsimp only
  split
  · exact beginSeek_steady (h.wake free rfl nofun)
  · exact h.wake free rfl nofun

theorem takeStop_steady (h : Steady b s) : Steady b (takeStop s) := by
  have free {st : PlayState} (state : s.play.state = st) (other : st ≠ .halted) := h.free (awake_of_state state other)
  unfold takeStop
  dsimp only
  split
  case h_1 state => exact stopPlay_steady h (free state (by simp))
  case h_2 state => exact stopPlay_steady h (free state (by simp))
  case h_3 state => exact stopPlay_steady h (free state (by simp))
  case h_4 => exact h
  case h_5 =>
    split
    · exact beginSeek_steady h
    · exact h
  case h_6 state =>
    split
    · exact h
    · exact leaveSilenced_steady h (free state (by simp))
  all_goals exact h

/-- A restarted station has no frame and is IDLE (R70). -/
theorem restarted_orderly (b s : State) : Orderly b (restarted s) := by
  refine ⟨fun _ => ?_, fun _ => nofun⟩
  have line : (restarted s).line.queue = [] ∧ (restarted s).line.onLine = none := by
    unfold restarted restartLine
    dsimp only
    split <;> exact ⟨rfl, rfl⟩
  unfold Voice.legal State.voice
  rw [line.1, line.2]
  exact ⟨legalQueue_nil, nofun⟩

theorem restartStation_orderly (b s : State) : Orderly b (restartStation s) := by
  have restart := restarted_orderly b s
  unfold restartStation
  dsimp only
  split
  · exact restart.trans (offerSelect_steady (Steady.refl _)).orderly
  · exact restart

theorem takeCue_orderly {c : Cue} {n : Nat} (h : Orderly b s) : Orderly b (takeCue c n s) := by
  cases c with
  | select => exact h.trans (takeSelect_steady (.refl s)).orderly
  | start => exact h.trans (takeStart_steady (.refl s)).orderly
  | stop => exact h.trans (takeStop_steady (.refl s)).orderly
  | restart =>
    unfold takeCue
    dsimp only
    split
    · exact h
    · exact restartStation_orderly b s

/-! ## The re-time pass and the channels (R154, R158, R159) -/

theorem endPass_steady (h : Steady b s) : Steady b (endPass s) := by
  unfold endPass
  split
  · split <;> exact h
  · exact h

theorem visitWaiting_steady {e : EntryNo} {a : Action} (h : Steady b s) : Steady b (visitWaiting e a s) :=
  settleTable_steady (testEntry_steady h)

theorem visitArmed_steady {e : EntryNo} {c : ChannelNo} {a : Action} (h : Steady b s) : Steady b (visitArmed e c a s) := by
  unfold visitArmed
  dsimp only
  split
  · exact settleTable_steady (fireAtOnce_steady h)
  · split
    · exact h
    · exact settleTable_steady h

theorem visit_steady {e : EntryNo} (h : Steady b s) : Steady b (visit e s) := by
  unfold visit
  split
  · exact h
  · dsimp only
    split
    · exact visitWaiting_steady h
    · exact visitArmed_steady h
    · exact h

theorem applyExpired_steady {c : ChannelNo} {e : EntryNo} {time : Time} (h : Steady b s) : Steady b (applyExpired c e time s) := by
  unfold applyExpired
  split
  · exact h
  · split
    · exact applyNoteOn_steady h
    · exact h
    · exact h

/-! ## The output stage and the sound front end (R24, R32, R171 to R173, R200) -/

theorem returnMismatched_steady (h : Steady b s) : Steady b (returnMismatched s) := by
  unfold returnMismatched
  dsimp only
  refine endChecks_steady ?_
  split
  · exact raiseFault_steady h
  · exact h

theorem latchFrame_steady {frame returned : BitVec 96} (h : Steady b s) : Steady b (latchFrame frame returned s) := by
  have checked : Steady b (returnCheck returned { s with out.frame := none }) := by
    unfold returnCheck
    split
    · split
      · exact h
      · split
        · exact endChecks_steady h
        · exact returnMismatched_steady h
    · exact h
  exact checked

theorem assertionTaken_steady (h : Steady b s) : Steady b (assertionTaken s) := by
  unfold assertionTaken
  split
  · exact h
  · exact h
  · rename_i other
    exact offerFrame_steady (enterSilenced_steady h (h.free other))

theorem handOn_steady {o : Confirmed} (h : Steady b s) : Steady b (handOn o s) := by
  unfold handOn
  split
  · exact offerFrame_steady (deliver_steady h)
  · exact h

theorem completeBlock_steady {block : Block} (h : Steady b s) : Steady b (completeBlock block s) := by
  have passed {front : FrontEnd} : Steady b (passSoundCheck { s with front := front }) := by
    unfold passSoundCheck
    split
    · exact endChecks_steady h
    · exact h
  unfold completeBlock
  dsimp only
  split
  · exact handOn_steady passed
  · exact passed

theorem takeSample_steady {x : BitVec 16} {stamp : Time} (h : Steady b s) : Steady b (takeSample x stamp s) := by
  unfold takeSample
  dsimp only
  split
  · exact completeBlock_steady h
  · exact h

/-! ## The score store (R43 to R54) -/

theorem probe_steady {hymn low high : Nat} (h : Steady b s) (free : ¬b.voice.laidDown) : Steady b (probe hymn low high s) := by
  unfold probe
  split
  · exact loadFailed_steady h free
  · exact h.load _ free

theorem takeEntry_steady {hymn low high at_ : Nat} {e : DirectoryEntry} (h : Steady b s) (free : ¬b.voice.laidDown) :
    Steady b (takeEntry hymn low high at_ e s) := by
  unfold takeEntry
  split
  · exact loadFailed_steady h free
  · split
    · exact h.load _ free
    · split <;> exact probe_steady h free

theorem takeDirectory_steady {bytes : List Byte} (h : Steady b s) : Steady b (takeDirectory bytes s) := by
  unfold takeDirectory
  split
  · rename_i load
    have free := h.free_of_load (by simp [load])
    unfold takeCount
    split
    · exact loadFailed_steady h free
    · exact probe_steady h free
  · rename_i load
    exact takeEntry_steady h (h.free_of_load (by simp [load]))
  · exact h

theorem takeHeader_steady {bytes : List Byte} (h : Steady b s) : Steady b (takeHeader bytes s) := by
  unfold takeHeader
  split
  · rename_i load
    have free := h.free_of_load (by simp [load])
    dsimp only
    split
    · exact h.load _ free
    · exact loadFailed_steady h free
  · exact h

theorem takePlan_steady {bytes : List Byte} (h : Steady b s) : Steady b (takePlan bytes s) := by
  unfold takePlan
  split
  · rename_i load
    have free := h.free_of_load (by simp [load])
    split
    · exact testPrimed_steady (startReaders_steady (h.load _ free))
    · exact loadFailed_steady h free
  · exact h

theorem markStep_steady (h : Steady b s) (turn : markStep s = some t) : Steady b t := by
  unfold markStep at turn
  split at turn
  · dsimp only at turn
    split at turn
    · cases turn
    · split at turn
      · cases turn
        exact h
      · split at turn
        · cases turn
          exact h
        · split at turn
          · split at turn <;> cases turn <;> exact h
          · cases turn
            exact raiseFault_steady h
  · cases turn

theorem runMarks_steady (h : Steady b s) : Steady b (runMarks s) := by
  have turned : Steady b (settleMarks (iterate markStep 40 s)) := settleMarks_steady (iterate_invariant (fun _ _ => markStep_steady) 40 h)
  unfold runMarks
  refine testPrimed_steady (testExhausted_steady ?_)
  split
  · exact rewatch_steady turned
  · exact turned

theorem takeMarkBlock_steady {bytes : List Byte} (h : Steady b s) : Steady b (takeMarkBlock bytes s) := by
  unfold takeMarkBlock
  dsimp only
  split
  · exact runMarks_steady h
  · exact runMarks_steady (raiseFault_steady h)

theorem noteStep_steady (h : Steady b s) (turn : noteStep s = some t) : Steady b t := by
  unfold noteStep at turn
  split at turn
  · cases turn
  · dsimp only at turn
    split at turn
    · exact settleNotesStep_steady h turn
    · split at turn
      · cases turn
      · split at turn
        · cases turn
          exact h
        · split at turn
          · cases turn
            exact h
          · split at turn
            · cases turn
              exact raiseFault_steady h
            · split at turn <;> cases turn
              exact h

theorem runNotes_steady (h : Steady b s) : Steady b (runNotes s) :=
  testPrimed_steady (iterate_invariant (fun _ _ => noteStep_steady) 60 h)

theorem takeNoteBlock_steady {bytes : List Byte} (h : Steady b s) : Steady b (takeNoteBlock bytes s) := by
  unfold takeNoteBlock
  dsimp only
  split
  · exact runNotes_steady h
  · exact runNotes_steady (raiseFault_steady h)

theorem insertNote_steady (h : Steady b s) : Steady b (insertNote s) := by
  unfold insertNote
  split
  · exact runNotes_steady (insertPair_steady h)
  · exact h

theorem stopStep_steady (h : Steady b s) (turn : stopStep s = some t) : Steady b t := by
  unfold stopStep at turn
  split at turn
  · cases turn
    exact insertStop_steady h
  · cases turn

end Sys2Proof.Machine

end

section
namespace Sys2Proof.Machine

/-! ## Frames sent and received (R6 to R10, R17 to R20) -/

variable {b s t : State}

theorem returnClashed_steady {f : QueuedFrame} (h : Steady b s) (awake : b.voice.quiet → s.voice.play ≠ .halted) :
    Steady b (returnClashed f s) := by
  unfold returnClashed
  dsimp only
  split
  · exact faultFrameLeft_steady (raiseFault_steady h)
  · rename_i few
    have back : Steady b { s with line.queue := (requeue s.line.queue { f with clashes := f.clashes + 1 }).1 } :=
      h.queue _ awake fun legal => legal.requeue (Nat.lt_of_not_le few)
    split
    · rename_i q e
      rw [e] at back
      exact back
    · rename_i q e
      rw [e] at back
      exact faultFrameLeft_steady back

theorem heardFrom_steady {w : WireFrame} {k : ObsKind} {n : BitVec 8} (h : Steady b s) : Steady b (heardFrom w k n s) := by
  unfold heardFrom
  dsimp only
  split
  · exact takeException_steady h
  · exact deliver_steady h

theorem pulseFrom_steady {w : WireFrame} {f : PulseFields} (h : Steady b s) : Steady b (pulseFrom w f s) := by
  unfold pulseFrom
  dsimp only
  split
  · exact h
  · exact testJoin_steady h

theorem takeHalt_steady (h : Steady b s) (free : ¬b.voice.laidDown) : Steady b (takeHalt s) := by
  unfold takeHalt
  split
  · exact h
  · exact enterSilenced_steady h free

theorem cueFrom_orderly {w : WireFrame} {c : Cue} {n : Nat} (h : Orderly b s) : Orderly b (cueFrom w c n s) := by
  unfold cueFrom
  split
  · split
    · exact takeCue_orderly h
    · exact h
  · exact takeCue_orderly h

/-- A cue other than RESTART leaves a HALTED station HALTED (R19). -/
theorem cueFrom_steady {w : WireFrame} {c : Cue} {n : Nat} (h : Steady b s) (other : c ≠ .restart) : Steady b (cueFrom w c n s) := by
  unfold cueFrom
  split
  · split
    · exact absurd rfl other
    · exact h
  · rename_i awake
    have heard : Orderly b (hearPeer w.sender s) := h.orderly
    exact (takeCue_orderly heard).steady (h.free (awake_of_not_halted (by simpa using awake)))

/-! ## The commands -/

/-- Whatever next state an outcome answers, it stands to a state as given. -/
def Answers (rel : State → State → Prop) (s : State) (o : Host.Outcome State Fault Refusal) : Prop := ∀ t, o = .next t → rel s t

/-- A command whose effect is steady when its event can happen is steady (log 2). -/
theorem act_steady {due : Bool} (h : due = true → Steady s t) : Answers Steady s (act s due t) := by
  intro u e
  rcases act_cases e with ⟨happens, rfl⟩ | ⟨-, rfl⟩
  · exact h happens
  · exact .refl u

/-- A command whose event cannot happen. -/
theorem act_false_steady (s t : State) : Answers Steady s (act s false t) := act_steady nofun

theorem completeRead_steady {units : List FlashUnit} {bytes : List Byte} {use : State → State} (h : ∀ {u}, Steady s u → Steady s (use u)) :
    Answers Steady s (completeRead units bytes use s) := by
  refine act_steady fun _ => ?_
  split
  · exact .refl s
  · exact h (.refl s)

theorem receiveCue_steady {c : Cue} {bytes : List Byte} (other : c ≠ .restart) : Answers Steady s (receiveCue c bytes s) := by
  unfold receiveCue
  split
  · split
    · refine act_steady fun same => cueFrom_steady (.refl s) ?_
      rwa [beq_iff_eq.1 same]
    · exact act_false_steady s s
  · exact act_false_steady s s

/-- A station with a frame on the line is not HALTED when it is quiet. -/
theorem awake_of_onLine {f : LineFrame} (onLine : s.line.onLine = some f) (quiet : s.voice.quiet) : s.voice.play ≠ .halted := by
  intro halted
  have none_on : s.line.onLine = none := (quiet halted).2.1
  rw [onLine] at none_on
  cases none_on

/-- A station that is laid down is quiet. -/
theorem quiet_of_laidDown (laid : s.voice.laidDown) : s.voice.quiet := fun _ => laid.2.1

/-- A station whose transmitter is not OFF is not HALTED when it is quiet. -/
theorem awake_of_transmitter (on : s.line.transmitter ≠ .off) (quiet : s.voice.quiet) : s.voice.play ≠ .halted :=
  fun halted => on (quiet halted).2.2

/-- What is not HALTED when it is quiet is not laid down. -/
theorem free_of_awake (awake : s.voice.quiet → s.voice.play ≠ .halted) : ¬s.voice.laidDown :=
  fun laid => awake (quiet_of_laidDown laid) laid.1

theorem execSyncMarkBegin_steady (s : State) : Answers Steady s (execSyncMarkBegin s) := by
  refine act_steady fun due => ?_
  simp only [Bool.and_eq_true, decide_eq_true_eq] at due
  obtain ⟨⟨⟨active, -⟩, -⟩, -⟩ := due
  have awake := awake_of_transmitter (s := s) (by simp [active])
  cases passed : s.line.queue.dropWhile (tooOld s.now) with
  | nil => exact (Steady.refl s).queue [] awake fun _ => legalQueue_nil
  | cons f rest =>
    have sub : (f :: rest).Sublist s.line.queue := passed ▸ List.dropWhile_sublist _
    refine Orderly.steady ⟨fun legal => ?_, fun quiet halted => absurd halted (awake quiet)⟩ (free_of_awake awake)
    have kept := legal.1.sublist sub
    refine ⟨kept.sublist (List.sublist_cons_self f rest), fun g mem => ?_⟩
    cases Option.some.inj mem
    exact kept.clashes f List.mem_cons_self

/-- The frame on the line with its age written has the clashes it had (R8, R13). -/
theorem execFrameMark_steady (n : Nat) (s : State) : Answers Steady s (execFrameMark n s) := by
  refine act_steady fun _ => ⟨⟨fun legal => ⟨legal.1, fun f mem => ?_⟩, fun quiet halted => ?_⟩, fun laid => ⟨laid.1, ?_, laid.2.2⟩⟩
  · obtain ⟨g, on, rfl⟩ := Option.map_eq_some_iff.1 mem
    exact legal.2 g on
  · obtain ⟨queue, line, off⟩ := quiet halted
    exact ⟨queue, Option.map_eq_none_iff.2 line, off⟩
  · obtain ⟨queue, line, off⟩ := laid.2.1
    exact ⟨queue, Option.map_eq_none_iff.2 line, off⟩

theorem execFrameClash_steady (bit : Nat) (level : Bool) (s : State) : Answers Steady s (execFrameClash bit level s) := by
  unfold execFrameClash
  split
  · exact act_false_steady s s
  · rename_i f onLine
    have awake := awake_of_onLine onLine
    exact act_steady fun _ => returnClashed_steady
      (Orderly.steady ⟨fun legal => ⟨legal.1, nofun⟩, fun quiet halted => absurd halted (awake quiet)⟩ (free_of_awake awake)) awake

theorem completeOwn_orderly {f : QueuedFrame} (h : Orderly b s) : Orderly b (completeOwn f s) := by
  unfold completeOwn
  split
  · exact takeCue_orderly h
  · exact h.trans (faultFrameLeft_steady (.refl s)).orderly
  · exact h

theorem execFrameComplete_steady (s : State) : Answers Steady s (execFrameComplete s) := by
  unfold execFrameComplete
  split
  · exact act_false_steady s s
  · rename_i f onLine
    have awake := awake_of_onLine onLine
    exact act_steady fun _ => Orderly.steady
      (completeOwn_orderly ⟨fun legal => ⟨legal.1, nofun⟩, fun quiet halted => absurd halted (awake quiet)⟩) (free_of_awake awake)

theorem execJoinCountComplete_steady (s : State) : Answers Steady s (execJoinCountComplete s) := by
  refine act_steady fun due => ?_
  simp only [Bool.and_eq_true, decide_eq_true_eq] at due
  obtain ⟨joining, -⟩ := due
  have free := free_of_awake (awake_of_transmitter (s := s) (by simp [joining]))
  have active : Steady s { s with line := { s.line with transmitter := .active, joinTime := none } } :=
    (Steady.refl s).transmitter .active (by simp [joining])
  dsimp only
  split
  · exact endFullStart_steady active free
  · exact active

theorem execLineQuiet_steady (n : Nat) (s : State) : Answers Steady s (execLineQuiet n s) := by
  refine act_steady fun _ => ?_
  unfold levelSeen
  split <;> exact Steady.refl s

theorem execLineHeldLow_steady (n : Nat) (s : State) : Answers Steady s (execLineHeldLow n s) := by
  have low : Steady s
      { s with
        line := { lowBit s.line with framing := .waitQuiet, lowReported := true, transmitter := s.line.transmitter.heldLow } } :=
    (Steady.refl s).transmitter s.line.transmitter.heldLow fun off => by simp [off, Transmitter.heldLow]
  refine act_steady fun _ => ?_
  dsimp only
  split
  · exact low
  · exact raiseFault_steady low

theorem execLineReleasedHigh_steady (s : State) : Answers Steady s (execLineReleasedHigh s) :=
  act_steady fun _ => (Steady.refl s).transmitter s.line.transmitter.released fun off => by simp [off, Transmitter.released]

/-- A frame of a peer in a station that is not HALTED (R19). -/
theorem peerEffect_steady {bytes : List Byte} {use : State → State} (h : s.voice.play ≠ .halted → Steady s (use (endOfFrame bytes s))) :
    Answers Steady s (act s true (if s.isHalted then endOfFrame bytes s else use (endOfFrame bytes s))) := by
  refine act_steady fun _ => ?_
  split
  · exact .refl s
  · exact h (awake_of_not_halted (by simpa using ‹¬s.isHalted = true›))

theorem execHeardReceived_steady (bytes : List Byte) (s : State) : Answers Steady s (execHeardReceived bytes s) := by
  unfold execHeardReceived
  split
  · split
    · exact peerEffect_steady (use := heardFrom _ _ _) fun _ => heardFrom_steady (Steady.refl s)
    · exact act_false_steady s s
  · exact act_false_steady s s

theorem execPulseReceived_steady (bytes : List Byte) (s : State) : Answers Steady s (execPulseReceived bytes s) := by
  unfold execPulseReceived
  split
  · split
    · exact peerEffect_steady (use := pulseFrom _ _) fun _ => pulseFrom_steady (Steady.refl s)
    · exact act_false_steady s s
  · exact act_false_steady s s

theorem execHaltReceived_steady (bytes : List Byte) (s : State) : Answers Steady s (execHaltReceived bytes s) := by
  unfold execHaltReceived
  split
  · split
    · exact peerEffect_steady (use := fun u => takeHalt (hearPeer _ u)) fun awake => takeHalt_steady (Steady.refl s) ((Steady.refl s).free awake)
    · exact act_false_steady s s
  · exact act_false_steady s s

theorem execFaultReceived_steady (bytes : List Byte) (s : State) : Answers Steady s (execFaultReceived bytes s) := by
  unfold execFaultReceived
  split
  · split
    · exact peerEffect_steady (use := hearPeer _) fun _ => (Steady.refl s)
    · exact act_false_steady s s
  · exact act_false_steady s s

theorem receiveCue_orderly {c : Cue} {bytes : List Byte} : Answers Orderly s (receiveCue c bytes s) := by
  unfold receiveCue
  intro t e
  split at e
  · split at e
    · rcases act_cases e with ⟨-, rfl⟩ | ⟨-, rfl⟩
      · exact cueFrom_orderly (Steady.refl s).orderly
      · exact (Steady.refl t).orderly
    · exact (act_false_steady s s t e).orderly
  · exact (act_false_steady s s t e).orderly

theorem execInvalidFrame_steady (bytes : List Byte) (broken : List Bool) (s : State) :
    Answers Steady s (execInvalidFrame bytes broken s) := by
  unfold execInvalidFrame
  split
  · exact act_false_steady s s
  all_goals exact act_steady fun _ => .refl s

theorem execDuplicate_steady (bytes : List Byte) (s : State) : Answers Steady s (execDuplicate bytes s) := by
  unfold execDuplicate
  split
  · exact act_steady fun _ => raiseFault_steady (Steady.refl s)
  · exact act_false_steady s s

/-! ### Start-up, the cue port, the front end and the outputs -/

theorem execConfigurationSectionRead_steady (bytes : List Byte) (s : State) : Answers Steady s (execConfigurationSectionRead bytes s) := by
  refine act_steady fun _ => ?_
  split
  · exact endChecks_steady (steady_ite (raiseFault_steady (Steady.refl s)) (Steady.refl s))
  · exact .refl s

theorem execSoundCheckTimeout_steady (s : State) : Answers Steady s (execSoundCheckTimeout s) :=
  act_steady fun _ => endChecks_steady (steady_ite (Steady.refl s) (raiseFault_steady (Steady.refl s)))

theorem execButtonPressEdge_steady (button : Button) (s : State) : Answers Steady s (execButtonPressEdge button s) :=
  act_steady fun _ => steady_ite (steady_ite (Steady.refl s) (Steady.refl s)) (offerCue_steady (Steady.refl s))

theorem execDebouncedLevelChange_steady (lines : BitVec 12) (s : State) : Answers Steady s (execDebouncedLevelChange lines s) :=
  act_steady fun _ => steady_ite (Steady.refl s) (steady_ite (Steady.refl s) (Steady.refl s))

theorem execSoundInputLost_steady (s : State) : Answers Steady s (execSoundInputLost s) :=
  act_steady fun _ => steady_ite (Steady.refl s) (raiseFault_steady (Steady.refl s))

theorem execSampleTaken_steady (edges : List SoundEdge) (ago : Nat) (s : State) : Answers Steady s (execSampleTaken edges ago s) := by
  unfold execSampleTaken
  split
  · exact act_false_steady s s
  · exact act_steady fun _ => takeSample_steady (Steady.refl s)

theorem execValveFrameLatch_steady (returned : BitVec 96) (s : State) : Answers Steady s (execValveFrameLatch returned s) := by
  unfold execValveFrameLatch
  split
  · exact act_steady fun _ => latchFrame_steady (Steady.refl s)
  · exact act_false_steady s s

/-! ### The gather unit and the follower -/

theorem execOnsetTaken_steady (s : State) : Answers Steady s (execOnsetTaken s) := by
  unfold execOnsetTaken
  split
  · exact act_steady fun _ => judgeOnset_steady (Steady.refl s)
  · exact act_false_steady s s

theorem execReleaseTaken_steady (s : State) : Answers Steady s (execReleaseTaken s) := by
  unfold execReleaseTaken
  split
  · exact act_steady fun _ => steady_ite (Steady.refl s) (Steady.refl s)
  · exact act_false_steady s s

theorem execGatherOpen_steady (s : State) : Answers Steady s (execGatherOpen s) := by
  unfold execGatherOpen
  split
  · refine act_steady fun _ => ?_
    split
    · exact steady_ite (Steady.refl s) (Steady.refl s)
    · exact .refl s
  · exact act_false_steady s s

theorem execGatherCloseExpiry_steady (which : Fin 2) (s : State) : Answers Steady s (execGatherCloseExpiry which s) := by
  unfold execGatherCloseExpiry
  split
  · exact act_steady fun _ => .refl s
  · exact act_false_steady s s

theorem execGatherCloseTaken_steady (s : State) : Answers Steady s (execGatherCloseTaken s) := by
  unfold execGatherCloseTaken
  split
  · exact act_steady fun _ => steady_ite (applyMatched_steady (Steady.refl s)) (applyVoid_steady (Steady.refl s))
  · exact act_false_steady s s

theorem execClusterTaken_steady (s : State) : Answers Steady s (execClusterTaken s) := by
  unfold execClusterTaken
  split
  · exact act_steady fun inPlay =>
      steady_ite (clusterInHold_steady (Steady.refl s) ((Steady.refl s).free (awake_of_inPlay inPlay))) (clusterAhead_steady (Steady.refl s))
  · exact act_false_steady s s

theorem execBeatEvent_steady (s : State) : Answers Steady s (execBeatEvent s) := by
  unfold execBeatEvent
  split
  · exact act_steady fun due =>
      beatStages_steady (Steady.refl s) ((Steady.refl s).free (awake_of_moving (Bool.and_eq_true_iff.1 due).1))
  · exact act_false_steady s s

theorem execBroadenMarkReached_steady (s : State) : Answers Steady s (execBroadenMarkReached s) := by
  unfold execBroadenMarkReached
  split
  · exact act_steady fun _ => reachBroaden_steady (Steady.refl s)
  · exact act_false_steady s s

theorem execHoldPointReached_steady (s : State) : Answers Steady s (execHoldPointReached s) := by
  unfold execHoldPointReached
  split
  · exact act_steady fun due =>
      takeHold_steady (Steady.refl s) ((Steady.refl s).free (awake_of_moving (Bool.and_eq_true_iff.1 due).1))
  · exact act_false_steady s s

theorem execHoldLimitExpiry_steady (s : State) : Answers Steady s (execHoldLimitExpiry s) := by
  unfold execHoldLimitExpiry
  split
  · exact act_steady fun _ => .refl s
  · exact act_false_steady s s

theorem execHoldRelease_steady (s : State) : Answers Steady s (execHoldRelease s) := by
  unfold execHoldRelease
  split
  · exact act_steady fun due =>
      stage_steady reportAnchor_steady
        (releaseSteps_steady (Steady.refl s) ((Steady.refl s).free (awake_of_state (of_decide_eq_true (Bool.and_eq_true_iff.1 due).1) (by simp))))
  · exact act_false_steady s s

/-! ### The action scheduler -/

theorem execRetimeVisit_steady (s : State) : Answers Steady s (execRetimeVisit s) := by
  unfold execRetimeVisit
  split
  · exact act_false_steady s s
  · refine act_steady fun _ => ?_
    split
    · exact endPass_steady (visit_steady (Steady.refl s))
    · exact .refl s

theorem execChannelExpiry_steady (channel : ChannelNo) (s : State) : Answers Steady s (execChannelExpiry channel s) := by
  unfold execChannelExpiry
  split
  · exact act_steady fun _ => settleTable_steady (applyExpired_steady (Steady.refl s))
  · exact act_false_steady s s

theorem execStopPulseEnd_steady (channel : ChannelNo) (s : State) : Answers Steady s (execStopPulseEnd channel s) := by
  unfold execStopPulseEnd
  split
  · exact act_steady fun _ => settleTable_steady (Steady.refl s)
  · exact act_false_steady s s

/-- The commands by which a station may leave HALTED (R81). -/
def leavesHalted : Instr → Bool
  | .resetAsserted | .fullStart _ | .bothHeldRestart | .restart _ => true
  | _ => false

/-- Every other command keeps the queue legal, a HALTED station silent, and HALTED itself. The commands stand in groups: those that leave the
voice alone, the flash reads, the frames received, those that write to the line, and those whose effect is a shared operation. -/
theorem exec_steady (c : Instr) (s : State) (stays : leavesHalted c = false) : Answers Steady s (exec c s) := by
  have same := Steady.refl s
  cases c with
  | resetAsserted | fullStart _ | bothHeldRestart | restart _ => cases stays
  | lineQuiet n => exact execLineQuiet_steady n s
  | offPulsesEnd | peerAbsenceExpiry _ | coilRelease _ _ | valveFrameStart | cutoffPinChange _ | cutoffReleaseEdge
  | pwmPeriodStart | syncMarkRejected _ => exact act_steady fun _ => same
  | directoryRead _ => exact completeRead_steady takeDirectory_steady
  | headerRead _ => exact completeRead_steady takeHeader_steady
  | versePlanRead _ => exact completeRead_steady takePlan_steady
  | markBlockRead _ => exact completeRead_steady takeMarkBlock_steady
  | noteBlockRead _ => exact completeRead_steady takeNoteBlock_steady
  | select _ => exact receiveCue_steady (by simp)
  | start _ => exact receiveCue_steady (by simp)
  | stop _ => exact receiveCue_steady (by simp)
  | haltReceived bytes => exact execHaltReceived_steady bytes s
  | syncMarkBegin => exact execSyncMarkBegin_steady s
  | frameMark n => exact execFrameMark_steady n s
  | frameClash bit level => exact execFrameClash_steady bit level s
  | frameComplete => exact execFrameComplete_steady s
  | joinCountComplete => exact execJoinCountComplete_steady s
  | lineHeldLow n => exact execLineHeldLow_steady n s
  | lineReleasedHigh => exact execLineReleasedHigh_steady s
  | heardReceived bytes => exact execHeardReceived_steady bytes s
  | pulseReceived bytes => exact execPulseReceived_steady bytes s
  | faultReceived bytes => exact execFaultReceived_steady bytes s
  | invalidFrame bytes broken => exact execInvalidFrame_steady bytes broken s
  | duplicate bytes => exact execDuplicate_steady bytes s
  | configurationSectionRead bytes => exact execConfigurationSectionRead_steady bytes s
  | soundCheckTimeout => exact execSoundCheckTimeout_steady s
  | sampleTaken edges ago => exact execSampleTaken_steady edges ago s
  | soundInputLost => exact execSoundInputLost_steady s
  | valveFrameLatch returned => exact execValveFrameLatch_steady returned s
  | assertionEdge => exact act_steady fun _ => assertionTaken_steady same
  | hymnNumberStable => exact act_steady fun _ => offerSelect_steady same
  | buttonPressEdge button => exact execButtonPressEdge_steady button s
  | debouncedLevelChange lines => exact execDebouncedLevelChange_steady lines s
  | markAppend => exact act_steady fun _ => runMarks_steady same
  | notePairInsert => exact act_steady fun _ => insertNote_steady same
  | stopActionInsert => exact act_steady fun _ => runNotes_steady (iterate_invariant (fun _ _ => stopStep_steady) 16 same)
  | endOfScore => exact act_steady fun _ => testHymnEnd_steady same
  | onsetTaken => exact execOnsetTaken_steady s
  | releaseTaken => exact execReleaseTaken_steady s
  | gatherOpen => exact execGatherOpen_steady s
  | gatherCloseExpiry which => exact execGatherCloseExpiry_steady which s
  | gatherCloseTaken => exact execGatherCloseTaken_steady s
  | clusterTaken => exact execClusterTaken_steady s
  | beatEvent => exact execBeatEvent_steady s
  | broadenMarkReached => exact execBroadenMarkReached_steady s
  | holdPointReached => exact execHoldPointReached_steady s
  | holdLimitExpiry => exact execHoldLimitExpiry_steady s
  | holdRelease => exact execHoldRelease_steady s
  | retimeVisit => exact execRetimeVisit_steady s
  | actionArm _ => exact act_steady fun _ => settleTable_steady same
  | dueTimePassedWaiting _ => exact act_steady fun _ => settleTable_steady (testEntry_steady same)
  | channelExpiry channel => exact execChannelExpiry_steady channel s
  | stopPulseEnd channel => exact execStopPulseEnd_steady channel s

/-- The commands that may leave HALTED keep the queue legal and a HALTED station silent too. -/
theorem exec_orderly (c : Instr) (s : State) : Answers Orderly s (exec c s) := by
  cases stays : leavesHalted c
  · exact fun t e => (exec_steady c s stays t e).orderly
  · intro t e
    cases c with
    | resetAsserted | fullStart _ =>
      cases e
      exact ⟨fun _ => ⟨legalQueue_nil, nofun⟩, fun _ => nofun⟩
    | bothHeldRestart =>
      rcases act_cases e with ⟨-, rfl⟩ | ⟨-, rfl⟩
      · dsimp only
        split
        · exact restartStation_orderly s _
        · exact Steady.orderly (offerCue_steady (Steady.refl s))
      · exact (Steady.refl t).orderly
    | restart bytes => exact receiveCue_orderly t e
    | _ => cases stays

/-- A bit time moves nothing of the voice. -/
theorem bitTime_steady (s : State) : Steady s (bitTime s) := by
  unfold bitTime
  split
  · unfold sampleCutoff takeCutoffSample
    dsimp only
    repeat' split
    all_goals exact Steady.refl s
  · exact .refl s

theorem step_orderly (s : State) : Answers Orderly s (step s) := by
  intro t e
  unfold step at e
  split at e
  · rename_i c rest _
    exact exec_orderly c { s with pending := rest } t e
  · cases e
    exact (bitTime_steady s).orderly

end Sys2Proof.Machine

end

section

open Sys2Proof Sys2Proof.Machine

/-- Settles O6: a step keeps the voice of a legal queue legal, a frame offered or returned included. -/
theorem queueStaysLegal : Obligations.QueueStaysLegal := by
  unfold Obligations.QueueStaysLegal
  intro s t legal next
  exact (queueLegal_iff_voice t).2 ((step_orderly s t next).1 ((queueLegal_iff_voice s).1 legal))

/-- Settles O7: every step keeps a HALTED station silent, and every command but the four that may leave HALTED keeps it HALTED with no load. -/
theorem haltedStaysQuiet : Obligations.HaltedStaysQuiet := by
  unfold Obligations.HaltedStaysQuiet
  refine ⟨fun s t quiet next => ?_, fun c s t halted quiet empty next => ?_⟩
  · exact (haltedQuiet_iff_voice t).2 ((step_orderly s t next).2 ((haltedQuiet_iff_voice s).1 quiet))
  · cases stays : leavesHalted c
    · have play : s.play.state = .halted := by simpa [State.isHalted] using halted
      have idle : s.store.loader = .idle := by
        simp only [State.mutedEmpty, State.muted, halted, Bool.or_true, Bool.not_true, Bool.false_or, Bool.and_eq_true, beq_iff_eq] at empty
        obtain ⟨⟨-, idle⟩, -⟩ := empty
        exact idle
      have laid := (exec_steady c s stays t next).2 ⟨play, (haltedQuiet_iff_voice s).1 quiet play, idle⟩
      exact .inl (by simpa [State.isHalted, State.voice] using laid.1)
    · right
      unfold leavesHalted at stays
      split at stays
      · exact .inl rfl
      · exact .inr (.inl ⟨_, rfl⟩)
      · exact .inr (.inr (.inl rfl))
      · exact .inr (.inr (.inr ⟨_, rfl⟩))
      · cases stays

end

section

open Sys2Proof Sys2Proof.Machine

/-- Settles O5: the reset state is one closed state, and each of its invariants and outputs is evaluated on it. -/
theorem resetStateIsSafe : Obligations.ResetStateIsSafe := by
  unfold Obligations.ResetStateIsSafe
  have line : State.reset.line.queueLegal = true ∧ State.reset.haltedQuiet = true := ⟨rfl, rfl⟩
  have follower : State.reset.stackLegal = true ∧ State.reset.periodsLegal = true ∧ State.reset.countsInRange = true := ⟨rfl, rfl, rfl⟩
  have table : State.reset.sched.legal = true ∧ State.reset.countsMatch = true ∧ State.reset.mutedEmpty = true := ⟨rfl, rfl, rfl⟩
  have start : State.reset.startLegal = true ∧ State.reset.loaderLegal = true ∧ State.reset.weightsInRange = true := ⟨rfl, rfl, rfl⟩
  refine ⟨?_, rfl, rfl, rfl, rfl, rfl, rfl, rfl⟩
  simp [State.safe, line, follower, table, start]

end

section
/-! Line frames on the line and off it (R3, R18, R204, R205). -/

namespace Sys2Proof.Machine

/-- A run of bytes followed by its check is found checked (R204). -/
theorem checked_append_crc (bytes : List Byte) : checked (bytes ++ crcBytes (crc bytes)) = true := by
  simp [checked, crcBytes]

theorem leBytes_two (n : Nat) : leBytes 2 n = [BitVec.ofNat 8 n, BitVec.ofNat 8 (n / 256)] := rfl

/-- Two bytes, low byte first, give back the number below 65536 they were taken from (R204). -/
theorem leNat_two {n : Nat} (h : n ≤ 65535) : leNat [BitVec.ofNat 8 n, BitVec.ofNat 8 (n / 256)] = n := by
  simp only [leNat, BitVec.toNat_ofNat]
  omega

/-- The flags byte, bit by bit (R205). -/
theorem flags_eq (f : PulseFields) :
    f.flags = BitVec.ofNat 8 (f.resync.toNat + 2 * f.listening.toNat + 4 * f.leadLock.toNat + 8 * f.fault.toNat + 16 * f.summary.toNat) := by
  unfold PulseFields.flags bitsToNat
  congr 1
  simp only [List.foldr]
  omega

theorem flags_getLsbD (f : PulseFields) :
    f.flags.getLsbD 0 = f.resync ∧ f.flags.getLsbD 1 = f.listening ∧ f.flags.getLsbD 2 = f.leadLock ∧ f.flags.getLsbD 3 = f.fault ∧
      f.flags.getLsbD 4 = f.summary := by
  unfold PulseFields.flags
  generalize f.resync = a, f.listening = b, f.leadLock = c, f.fault = d, f.summary = e
  revert a b c d e
  decide

/-- A culprit station comes back from its byte (R18). -/
theorem decodeCulprit_culpritByte (c : Option Station) : decodeCulprit (culpritByte c) = some c := by
  cases c with
  | none => rfl
  | some p => revert p; decide

theorem decodeTempo_code (t : Tempo) : decodeTempo t.code = some t := by cases t <;> rfl

theorem decodeCue_code (c : Cue) : decodeCue c.code = some c := by cases c <;> rfl

theorem decodeReaction_code (r : Reaction) : decodeReaction r.code = some r := by cases r <;> rfl

/-- The payload of each kind has the length of its kind (R3). -/
theorem payload_length (age : Nat) (b : FrameBody) : (b.payload age).length = b.length := by
  cases b <;> rfl

theorem length_le_twelve (b : FrameBody) : b.length ≤ 12 := by cases b <;> simp [FrameBody.length]

theorem kind_le_five (b : FrameBody) : b.kind ≤ 5 := by cases b <;> simp [FrameBody.kind]

/-- The two fields of a byte that holds a number below 16 under another (R205). -/
theorem nibbles {low high : Nat} (hl : low ≤ 15) (hh : high ≤ 15) :
    (BitVec.ofNat 8 (low + 16 * high)).toNat % 16 = low ∧ (BitVec.ofNat 8 (low + 16 * high)).toNat / 16 = high := by
  simp only [BitVec.toNat_ofNat]
  omega

theorem toNat_byte {n : Nat} (h : n ≤ 255) : (BitVec.ofNat 8 n).toNat = n := by
  simp only [BitVec.toNat_ofNat]
  omega

theorem decodeHeard_payload (event : ObsKind) (sequence : BitVec 8) {strength age : Nat} (hs : strength ≤ 255) (ha : age ≤ 65535) :
    decodeHeard ((FrameBody.heard event sequence strength).payload age) = some (.heard event sequence strength, age) := by
  cases event <;>
    simp only [FrameBody.payload, leBytes_two, List.cons_append, List.nil_append, decodeHeard, ObsKind.code, leNat_two ha, toNat_byte hs] <;>
    rfl

theorem decodePulse_payload (f : PulseFields) {age : Nat}
    (h : WireFrame.inRange ⟨0, .pulse f, age⟩ = true) : decodePulse ((FrameBody.pulse f).payload age) = some (.pulse f, age) := by
  simp only [WireFrame.inRange, Bool.and_eq_true, decide_eq_true_eq] at h
  obtain ⟨⟨⟨⟨⟨⟨hymn, beat⟩, low⟩, high⟩, confidence⟩, level⟩, age⟩ := h
  obtain ⟨resync, listening, leadLock, fault, summary⟩ := flags_getLsbD f
  obtain ⟨conf, tempo⟩ := nibbles confidence (high := f.tempo.code) (by cases f.tempo <;> simp [Tempo.code])
  simp only [FrameBody.payload, leBytes_two, List.cons_append, List.nil_append, decodePulse, conf, tempo, decodeTempo_code,
    decodeCulprit_culpritByte, leNat_two age, leNat_two beat, leNat_two (hymn.trans (by decide : 1023 ≤ 65535)),
    leNat_two (high.trans (by decide : 24000 ≤ 65535)), toNat_byte level, resync, listening, leadLock, fault, summary, hymn, low, high,
    and_self, if_true]

theorem decodeCueFrame_payload (c : Cue) {hymn : Nat} (age : Nat) (h : hymn ≤ 1023) :
    decodeCueFrame ((FrameBody.cue c hymn).payload age) = some (.cue c hymn, 0) := by
  simp only [FrameBody.payload, leBytes_two, decodeCueFrame, decodeCue_code, leNat_two (h.trans (by decide : 1023 ≤ 65535)), h, if_true]

theorem decodeFault_payload (ch : FaultNo) (r : Reaction) (c : Option Station) (q : BitVec 8) (age : Nat) :
    decodeFault ((FrameBody.fault ch r c q).payload age) = some (.fault ch r c q, 0) := by
  have channel : (BitVec.ofNat 8 ch.val).toNat = ch.val := toNat_byte (by omega)
  simp only [FrameBody.payload, decodeFault, decodeReaction_code, decodeCulprit_culpritByte, channel, ch.isLt, dite_true]

/-- The payload of a frame in range is read back as what the frame says, with its age (R18, R205). -/
theorem decodeBody_payload (w : WireFrame) (h : w.inRange = true) : decodeBody w.body.kind (w.body.payload w.age) = some (w.body, w.age) := by
  obtain ⟨sender, body, age⟩ := w
  cases body with
  | heard event sequence strength =>
    simp only [WireFrame.inRange, Bool.and_eq_true, decide_eq_true_eq] at h
    exact decodeHeard_payload event sequence h.1 h.2
  | pulse f => exact decodePulse_payload f h
  | cue c hymn =>
    simp only [WireFrame.inRange, Bool.and_eq_true, decide_eq_true_eq, beq_iff_eq] at h
    obtain ⟨number, rfl⟩ := h
    exact decodeCueFrame_payload c 0 number
  | halt =>
    simp only [WireFrame.inRange, beq_iff_eq] at h
    rw [h]
    rfl
  | fault ch r c q =>
    simp only [WireFrame.inRange, beq_iff_eq] at h
    rw [h]
    exact decodeFault_payload ch r c q 0

/-- The bytes of a frame, one by one: kind and sender, length, payload, check (R3). -/
theorem encodeFrame_eq (w : WireFrame) :
    ∃ check0 check1, encodeFrame w = BitVec.ofNat 8 (w.sender.val + 16 * w.body.kind) :: BitVec.ofNat 8 w.body.length ::
      (w.body.payload w.age ++ [check0, check1]) :=
  ⟨_, _, by rw [encodeFrame, payload_length]; rfl⟩

theorem checked_encodeFrame (w : WireFrame) : checked (encodeFrame w) = true := checked_append_crc _

/-- The kind and the sender stand in the first byte (R3). -/
theorem first_byte (w : WireFrame) :
    (BitVec.ofNat 8 (w.sender.val + 16 * w.body.kind)).toNat % 16 = w.sender.val ∧
      (BitVec.ofNat 8 (w.sender.val + 16 * w.body.kind)).toNat / 16 = w.body.kind :=
  nibbles (by omega) ((kind_le_five w.body).trans (by decide))

/-- A frame of the line's making that is well-formed is judged by its payload (R18). -/
theorem judgeFrame_encodeFrame (w : WireFrame) (h : w.inRange = true) : judgeFrame (encodeFrame w) = .valid w := by
  obtain ⟨check0, check1, bytes⟩ := encodeFrame_eq w
  obtain ⟨sender, kind⟩ := first_byte w
  have check := checked_encodeFrame w
  have short := length_le_twelve w.body
  have len : (BitVec.ofNat 8 w.body.length).toNat = w.body.length := toNat_byte (by omega)
  have whole : (w.body.payload w.age ++ [check0, check1]).length = w.body.length + 2 := by simp [payload_length]
  have taken : (w.body.payload w.age ++ [check0, check1]).take w.body.length = w.body.payload w.age := by
    rw [← payload_length w.age w.body, List.take_left]
  rw [bytes] at check ⊢
  simp only [judgeFrame, len, whole, check, kind, taken, decodeBody_payload w h, sender, not_lt.2 short, if_false, ne_eq, not_true_eq_false,
    Bool.true_eq_false]

/-- The bits of one byte, the start bit, the data from the least significant bit on and the stop bit (R3). -/
theorem byteBits_eq (b : Byte) :
    byteBits b =
      [false, b.getLsbD 0, b.getLsbD 1, b.getLsbD 2, b.getLsbD 3, b.getLsbD 4, b.getLsbD 5, b.getLsbD 6, b.getLsbD 7, true] := rfl

theorem flatMap_byteBits_length (bytes : List Byte) : (bytes.flatMap byteBits).length = 10 * bytes.length := by
  induction bytes with
  | nil => rfl
  | cons b bytes ih => simp [ih, byteBits_eq]; omega

/-- A frame takes thirteen bit times and ten for each of its bytes (R3). -/
theorem frameBits_length (bytes : List Byte) : (frameBits bytes).length = 13 + 10 * bytes.length := by
  rw [frameBits, List.length_append, List.length_cons, flatMap_byteBits_length, List.length_replicate]
  omega

end Sys2Proof.Machine
end

section

open Sys2Proof Sys2Proof.Machine

/-- Settles O13: what a sender writes passes every test of the receiver, and each kind's payload is read back field by field. -/
theorem frameRoundTrip : Obligations.FrameRoundTrip := by
  unfold Obligations.FrameRoundTrip
  exact judgeFrame_encodeFrame

/-- Settles O14: the bytes of a frame, its payload written out kind by kind, and its bits. -/
theorem frameOnTheLine : Obligations.FrameOnTheLine := by
  unfold Obligations.FrameOnTheLine
  intro w bytes byte high culprit payload n
  have named (c : Option Station) : culprit c = culpritByte c := by cases c <;> rfl
  have same : payload = w.body.payload w.age := by
    dsimp only [payload]
    cases w.body with
    | heard event sequence strength => cases event <;> rfl
    | pulse f =>
      simp only [FrameBody.payload, leBytes_two, flags_eq, named, byte, high]
      cases f.tempo <;> rfl
    | cue c hymn => cases c <;> rfl
    | halt => rfl
    | fault ch r c q =>
      simp only [FrameBody.payload, named, byte]
      cases r <;> rfl
  have length : n = w.body.length := by
    dsimp only [n]
    rw [same, payload_length]
  obtain ⟨check0, check1, eq⟩ := encodeFrame_eq w
  obtain ⟨sender, kind⟩ := first_byte w
  refine ⟨⟨_, check0, check1, by rw [length, same]; exact eq, sender, kind, checked_encodeFrame w⟩, ?_, ?_, ?_⟩
  · rw [length]
    cases w.body <;> rfl
  · rw [frameBits, List.append_assoc]
    rfl
  · have whole : bytes.length = 4 + n := by
      dsimp only [bytes]
      rw [eq, length]
      simp [payload_length]
      omega
    rw [frameBits_length, whole]

end

section
/-! The line interface (R4 to R13): quiet, sending, marks, the line held low. -/

namespace Sys2Proof.Machine

/-- The first raise of a channel that reacts by REPORT: its latch set, its FAULT frame offered (R184, R185). -/
theorem raiseFault_report {ch : FaultNo} {s : State} (awake : s.isHalted = false) (running : s.running = true)
    (report : s.cfg.reactions[ch] = .report) (clear : s.latched ch = false) : raiseFault ch s = offerFault ch (latch ch s) := by
  simp [raiseFault, awake, running, report, latchAndReport, clear]

/-- The FAULT frame of a channel other than FOLLOW and DUPLICATE, with the reaction REPORT (R185). -/
theorem faultBody_report {ch : FaultNo} {s : State} (report : s.cfg.reactions[ch] = .report) (notDuplicate : ch ≠ 1) (notFollow : ch ≠ 2) :
    faultBody s ch = .fault ch .report none 0 := by
  simp [faultBody, notDuplicate, notFollow, report]

/-- The first raise of such a channel, written out. -/
theorem raiseFault_withReport {ch : FaultNo} {s : State} (would : s.wouldReport ch) (notDuplicate : ch ≠ 1) (notFollow : ch ≠ 2) :
    raiseFault ch s = s.withReport ch none := by
  obtain ⟨report, clear, awake, running⟩ := would
  rw [raiseFault_report awake running report clear, offerFault, faultBody_report (s := latch ch s) report notDuplicate notFollow]
  rfl

/-! ## Quiet and the levels of the line (R4, R5, R11, R12) -/

theorem levelSeen_of_quiet {n : Nat} (l : LineInterface) (h : 11 ≤ n) :
    levelSeen n l =
      { l with
        quiet := some (n - 11), low := false
        high :=
          match l.quiet with
          | some q => if q ≤ n - 11 then max n (min l.high (n + 9)) else n
          | none => max n (min l.high (n + 9))
        framing := if l.framing = .waitQuiet then .waitSync else l.framing } := by
  rw [levelSeen, if_pos h]
  cases l.quiet <;> simp

theorem levelSeen_of_not_quiet {n : Nat} (l : LineInterface) (h : n < 11) :
    levelSeen n l = { l with quiet := none, low := n == 0, high := n } := if_neg (not_le.2 h)

theorem execLineQuiet_of_told {n : Nat} {s : State} (running : s.running = true) (off : s.line.onLine = none)
    (released : s.line.lowReported = false) (told : 11 ≤ n ∨ s.line.framing ≠ .receiving) :
    execLineQuiet n s = .next { s with line := levelSeen n s.line } := by
  refine act_of_due ?_
  simpa [running, off, released] using told

theorem execLineQuiet_of_not_told {n : Nat} {s : State}
    (h : s.line.onLine.isSome = true ∨ s.line.lowReported = true ∨ s.line.framing = .receiving ∧ n < 11) : execLineQuiet n s = .next s := by
  refine act_of_not_due ?_
  rcases h with onLine | low | ⟨receiving, few⟩
  · have : s.line.onLine.isNone = false := by simpa using onLine
    simp [this]
  · simp [low]
  · simp [receiving, few]

/-- The age written at the frame mark, kind by kind (R13). -/
theorem writtenAge_eq (mark : Time) (f : QueuedFrame) :
    writtenAge mark f =
      match f.body with
      | .heard _ _ _ | .pulse _ => BitVec.ofInt 16 (since mark f.eventTime)
      | .cue _ _ | .halt | .fault _ _ _ _ => 0 := by
  unfold writtenAge ageLimit QueuedFrame.isHeard QueuedFrame.isPulse
  cases f.body <;> rfl

theorem heldLow_eq (t : Transmitter) : t.heldLow = if t = .active then .suspended else t := by cases t <;> rfl

theorem released_eq (t : Transmitter) : t.released = if t = .suspended then .active else t := by cases t <;> rfl

end Sys2Proof.Machine
end

section

open Sys2Proof Sys2Proof.Machine

/-- Settles O21: each command of the line's levels under the counts and the framing that let its event happen, and without them. -/
theorem lineLevels : Obligations.LineLevels := by
  unfold Obligations.LineLevels
  intro n s running low
  refine ⟨?_, ?_, ?_, ?_, ?_, ?_, ?_, ?_, ?_, ?_⟩
  · intro off released quiet
    refine (execLineQuiet_of_told running off released (.inl quiet)).trans ?_
    exact congrArg (fun line => Host.Outcome.next { s with line := line }) (levelSeen_of_quiet s.line quiet)
  · intro off released notReceiving few
    exact (execLineQuiet_of_told running off released (.inr notReceiving)).trans (by rw [levelSeen_of_not_quiet s.line few])
  · exact execLineQuiet_of_not_told
  · intro waits long short
    refine (act_of_due (by simp [running, waits, long, short])).trans ?_
    simp only [writtenAge_eq]
    rfl
  · intro waits long
    exact act_of_due (by simp [running, waits, long])
  · intro few
    exact act_of_not_due (by simp [few])
  · intro waits
    exact ⟨act_of_not_due (by simp [waits]), act_of_not_due (by simp [waits])⟩
  · intro on reported long
    refine (act_of_due (by simp [running, on, long])).trans ?_
    rw [if_pos reported, heldLow_eq, ← reported]
    rfl
  · intro on clear long awake report unlatched
    refine (act_of_due (by simp [running, on, long])).trans ?_
    rw [if_neg (by simp [clear]), heldLow_eq]
    exact congrArg _ (raiseFault_withReport (ch := 0) ⟨report, unlatched, awake, running⟩ (by decide) (by decide))
  · intro reported
    refine (act_of_due (by simp [running, reported])).trans ?_
    rw [released_eq]

end

section
/-! Sending and what comes back of a frame (R6 to R10, R15 to R17). -/

namespace Sys2Proof.Machine

/-- The age test of a head frame, kind by kind (R7). -/
theorem tooOld_iff (now : Time) (f : QueuedFrame) :
    tooOld now f = true ↔
      (f.isHeard = true ∧ 800 < since (now + 1) f.eventTime) ∨ (f.isPulse = true ∧ 2000 < since (now + 1) f.eventTime) := by
  unfold tooOld ageLimit QueuedFrame.isHeard QueuedFrame.isPulse
  cases f.body <;> simp [FrameBody.kind]

/-- The sync mark begins for the first frame that passes the age test, once the wait of the head is over (R6, R7). -/
theorem execSyncMarkBegin_of_due {s : State} {head : QueuedFrame} {n : Nat} (active : s.line.transmitter = .active)
    (off : s.line.onLine = none) (notReceiving : s.line.framing ≠ .receiving) (quiet : s.line.quiet = some n)
    (first : s.line.queue.head? = some head) (waited : waitOf s.startup.strap head.clashes ≤ n) :
    execSyncMarkBegin s =
      .next
        (match s.line.queue.dropWhile (tooOld s.now) with
          | [] => { s with line.queue := [] }
          | f :: rest => { s with line := lowBit { s.line with queue := rest, onLine := some ⟨f, none⟩ } }) := by
  refine act_of_due ?_
  simp [active, off, notReceiving, quiet, first, waited]

end Sys2Proof.Machine
end

section

open Sys2Proof Sys2Proof.Machine

/-- Settles O22: the frames too old are the part of the queue that the age test drops, and the wait is that of the head. -/
theorem syncMarkBegins : Obligations.SyncMarkBegins := by
  unfold Obligations.SyncMarkBegins
  intro n old s expired wait
  have old_iff (f : QueuedFrame) : expired f ↔ tooOld s.now f = true := by
    rw [tooOld_iff]
    unfold QueuedFrame.isHeard QueuedFrame.isPulse
    dsimp only [expired]
    cases f.body <;> simp [FrameBody.kind]
  refine ⟨fun active off notReceiving quiet gone => ⟨fun f rest queue waited passes => ?_, fun f queue late waited => ?_⟩,
    fun f rest queue quiet early => ?_, fun silent => ?_⟩
  · have first : s.line.queue.head? = some ((old ++ [f]).headD f) := by
      rw [queue]
      cases old <;> rfl
    have dropped : s.line.queue.dropWhile (tooOld s.now) = f :: rest := by
      rw [queue, List.dropWhile_append_of_pos fun g mem => (old_iff g).1 (gone g mem),
        List.dropWhile_cons_of_neg fun late => passes ((old_iff f).2 late)]
    refine (execSyncMarkBegin_of_due active off notReceiving quiet first waited).trans ?_
    rw [dropped]
    rfl
  · have first : s.line.queue.head? = some f := by rw [queue]; rfl
    have dropped : s.line.queue.dropWhile (tooOld s.now) = [] := by
      rw [queue, List.dropWhile_eq_nil_iff]
      intro g mem
      rcases List.mem_cons.1 mem with rfl | mem
      · exact (old_iff g).1 late
      · exact (old_iff g).1 (gone g mem)
    refine (execSyncMarkBegin_of_due active off notReceiving quiet first waited).trans ?_
    rw [dropped]
  · refine act_of_not_due ?_
    have : ¬waitOf s.startup.strap f.clashes ≤ n := not_le.2 early
    simp [queue, quiet, this]
  · refine act_of_not_due ?_
    rcases silent with quiet | empty | off
    · cases h : s.line.queue <;> simp [quiet]
    · simp [empty]
    · simp [off]

end

section
/-! Entry into the transmit queue and the return of a clashed frame (R9, R10, R15 to R17). -/

namespace Sys2Proof.Machine

/-! ## Room in the queue (R16) -/

theorem isHeard_iff (f : QueuedFrame) : f.isHeard = true ↔ ∃ event sequence strength, f.body = .heard event sequence strength := by
  unfold QueuedFrame.isHeard
  cases f.body <;> simp [FrameBody.kind]

theorem isPulse_iff (f : QueuedFrame) : f.isPulse = true ↔ ∃ p, f.body = .pulse p := by
  unfold QueuedFrame.isPulse
  cases f.body <;> simp [FrameBody.kind]

theorem isHalt_iff (f : QueuedFrame) : f.isHalt = true ↔ f.body = .halt := by
  unfold QueuedFrame.isHalt
  cases f.body <;> simp [FrameBody.kind]

theorem makeRoom_of_room {q : List QueuedFrame} (h : q.length < 8) : makeRoom q = some q := if_pos h

/-- The first element that a test names, taken out. -/
theorem eraseP_append_cons {α : Type} {test : α → Bool} {pre post : List α} {a : α} (is : test a = true)
    (first : ∀ x ∈ pre, ¬test x = true) : (pre ++ a :: post).eraseP test = pre ++ post := by
  rw [List.eraseP_append_right _ first, List.eraseP_cons_of_pos is]

theorem makeRoom_of_heard {pre post : List QueuedFrame} {g : QueuedFrame} (full : 8 ≤ (pre ++ g :: post).length) (heard : g.isHeard = true)
    (first : ∀ x ∈ pre, ¬x.isHeard = true) : makeRoom (pre ++ g :: post) = some (pre ++ post) := by
  rw [makeRoom, if_neg (not_lt.2 full), if_pos (List.any_eq_true.2 ⟨g, by simp, heard⟩), eraseP_append_cons heard first]

theorem makeRoom_of_pulse {pre post : List QueuedFrame} {g : QueuedFrame} (full : 8 ≤ (pre ++ g :: post).length) (pulse : g.isPulse = true)
    (first : ∀ x ∈ pre, ¬x.isPulse = true) (noHeard : ∀ x ∈ pre ++ g :: post, ¬x.isHeard = true) :
    makeRoom (pre ++ g :: post) = some (pre ++ post) := by
  rw [makeRoom, if_neg (not_lt.2 full), if_neg (by simpa only [List.any_eq_true, not_exists, not_and] using noHeard),
    if_pos (List.any_eq_true.2 ⟨g, by simp, pulse⟩), eraseP_append_cons pulse first]

theorem makeRoom_of_full {q : List QueuedFrame} (full : 8 ≤ q.length) (others : ∀ x ∈ q, ¬x.isHeard = true ∧ ¬x.isPulse = true) :
    makeRoom q = none := by
  rw [makeRoom, if_neg (not_lt.2 full), if_neg (by simpa only [List.any_eq_true, not_exists, not_and] using fun x mem => (others x mem).1),
    if_neg (by simpa only [List.any_eq_true, not_exists, not_and] using fun x mem => (others x mem).2)]

/-- Whether two frames are both a PULSE or both a HALT, of which the queue holds one at most (R15). -/
def QueuedFrame.twin (f g : QueuedFrame) : Bool := (f.isPulse && g.isPulse) || (f.isHalt && g.isHalt)

theorem twin_iff (f g : QueuedFrame) :
    f.twin g = true ↔ (∃ p, f.body = .pulse p) ∧ (∃ p, g.body = .pulse p) ∨ f.body = .halt ∧ g.body = .halt := by
  simp only [QueuedFrame.twin, Bool.or_eq_true, Bool.and_eq_true, isPulse_iff, isHalt_iff]

theorem not_twin {f : QueuedFrame} {q : List QueuedFrame} (h : ∀ g ∈ q, ¬f.twin g = true) :
    (f.isPulse && q.any QueuedFrame.isPulse) = false ∧ (f.isHalt && q.any QueuedFrame.isHalt) = false := by
  simp only [QueuedFrame.twin, Bool.or_eq_true, Bool.and_eq_true, not_or, not_and] at h
  refine ⟨?_, ?_⟩
  · by_contra is
    simp only [Bool.not_eq_false, Bool.and_eq_true, List.any_eq_true] at is
    obtain ⟨pulse, g, mem, isPulse⟩ := is
    exact (h g mem).1 pulse isPulse
  · by_contra is
    simp only [Bool.not_eq_false, Bool.and_eq_true, List.any_eq_true] at is
    obtain ⟨halt, g, mem, isHalt⟩ := is
    exact (h g mem).2 halt isHalt

/-! ## Entry (R15, R16) -/

/-- What an entering frame without a twin does: a HALT to the head and another frame to the tail of the queue with room made, or nothing. -/
theorem enqueue_of_no_twin {q : List QueuedFrame} {f : QueuedFrame} (h : ∀ g ∈ q, ¬f.twin g = true) :
    (enqueue q f).1 = match makeRoom q with
      | some r => if f.isHalt then f :: r else r ++ [f]
      | none => q := by
  obtain ⟨noPulse, noHalt⟩ := not_twin h
  have rest : (if f.isPulse then q.filter (fun g => !g.isPulse) else q) = q := by
    cases pulse : f.isPulse
    · simp
    · simp only [pulse, Bool.true_and, List.any_eq_false] at noPulse
      simpa using noPulse
  unfold enqueue
  cases halt : f.isHalt
  · simp only [Bool.false_eq_true, if_false, rest]
    cases makeRoom q <;> rfl
  · simp only [halt, Bool.true_and] at noHalt
    simp only [noHalt, if_true, Bool.false_eq_true, if_false]
    cases makeRoom q <;> rfl

/-- A PULSE takes the place of the queued PULSE, at the tail (R15). -/
theorem enqueue_of_pulse {pre post : List QueuedFrame} {f g : QueuedFrame} (short : (pre ++ g :: post).length ≤ 8) (pulse : f.isPulse = true)
    (old : g.isPulse = true) (others : ∀ x ∈ pre ++ post, ¬x.isPulse = true) : (enqueue (pre ++ g :: post) f).1 = pre ++ post ++ [f] := by
  have rest : (pre ++ g :: post).filter (fun x => !x.isPulse) = pre ++ post := by
    rw [List.filter_append, List.filter_cons_of_neg (by simp [old]), ← List.filter_append, List.filter_eq_self]
    simpa using others
  have room : makeRoom (pre ++ post) = some (pre ++ post) := makeRoom_of_room (by simp at short ⊢; omega)
  simp [enqueue, isHalt_of_isPulse pulse, pulse, rest, room]

/-- A HALT that finds a HALT is merged into it (R15). -/
theorem enqueue_of_halt {q : List QueuedFrame} {f : QueuedFrame} (halt : f.isHalt = true) (found : ∃ g ∈ q, g.isHalt = true) :
    (enqueue q f).1 = q := by
  rw [enqueue, if_pos halt, if_pos (List.any_eq_true.2 found)]

/-! ## The return from a clash (R9, R10, R17) -/

/-- What a returning frame without a twin does. -/
theorem requeue_of_no_twin {q : List QueuedFrame} {f : QueuedFrame} (h : ∀ g ∈ q, ¬f.twin g = true) :
    requeue q f = match makeRoom q with
      | some r => (putFirst f r, true)
      | none => (q, false) := by
  obtain ⟨noPulse, noHalt⟩ := not_twin h
  rw [requeue, noPulse, noHalt]
  rfl

theorem requeue_of_twin {q : List QueuedFrame} {f : QueuedFrame} (h : ∃ g ∈ q, f.twin g = true) : requeue q f = (q, false) := by
  obtain ⟨g, mem, is⟩ := h
  simp only [QueuedFrame.twin, Bool.or_eq_true, Bool.and_eq_true] at is
  refine if_pos ?_
  simp only [Bool.or_eq_true, Bool.and_eq_true, List.any_eq_true]
  rcases is with ⟨pulse, isPulse⟩ | ⟨halt, isHalt⟩
  · exact .inl ⟨pulse, g, mem, isPulse⟩
  · exact .inr ⟨halt, g, mem, isHalt⟩

theorem putFirst_eq (f : QueuedFrame) (q : List QueuedFrame) :
    putFirst f q = match q with
      | [] => [f]
      | g :: rest => if g.body = .halt then g :: f :: rest else f :: g :: rest := by
  cases q with
  | nil => rfl
  | cons g rest => simp [putFirst, isHalt_iff]

/-- The leaving of a frame, as the name of silencing in progress that it leaves (R17, R188). -/
theorem faultFrameLeft_eq (f : QueuedFrame) (s : State) :
    faultFrameLeft f s =
      { s with fault.silencing := if f.isFault && s.fault.silencing == some f.tag then none else s.fault.silencing } := by
  unfold faultFrameLeft
  split <;> rfl

/-- A frame with a twin is no FAULT frame. -/
theorem isFault_of_twin {f g : QueuedFrame} (h : f.twin g = true) : f.isFault = false := by
  rcases (twin_iff f g).1 h with ⟨⟨p, pulse⟩, -⟩ | ⟨halt, -⟩
  · simp [QueuedFrame.isFault, pulse, FrameBody.kind]
  · simp [QueuedFrame.isFault, halt, FrameBody.kind]

/-- A clashed frame that comes back into the room made for it (R9, R16). -/
theorem returnClashed_of_room {f : QueuedFrame} {s : State} {r : List QueuedFrame} (few : f.clashes < 7)
    (alone : ∀ g ∈ s.line.queue, ¬f.twin g = true) (room : makeRoom s.line.queue = some r) :
    returnClashed f s = { s with line.queue := putFirst { f with clashes := f.clashes + 1 } r } := by
  have back := requeue_of_no_twin (f := { f with clashes := f.clashes + 1 }) alone
  rw [room] at back
  rw [returnClashed, if_neg (by show ¬8 ≤ f.clashes + 1; omega), back]

/-- A clashed frame that does not come back (R9, R15, R16, R17). -/
theorem returnClashed_of_not_back {f : QueuedFrame} {s : State} (few : f.clashes < 7)
    (out : requeue s.line.queue { f with clashes := f.clashes + 1 } = (s.line.queue, false)) :
    returnClashed f s = faultFrameLeft { f with clashes := f.clashes + 1 } s := by
  rw [returnClashed, if_neg (by show ¬8 ≤ f.clashes + 1; omega), out]

/-- A frame removed at its eighth clash (R10, R17). -/
theorem returnClashed_of_eighth {f : QueuedFrame} {s : State} (many : 7 ≤ f.clashes) :
    returnClashed f s = faultFrameLeft { f with clashes := f.clashes + 1 } (raiseFault 0 s) :=
  if_pos (show 8 ≤ f.clashes + 1 by omega)

/-- The state a clash in a bit leaves, the clashed frame apart (R9, log 51). -/
def State.clashed (s : State) (bit : Nat) (f : LineFrame) : State :=
  { s with
    line :=
      { s.line with
        onLine := none, low := decide (bit = 12 ∧ f.age = none)
        framing := if bit = 12 ∧ f.age = none then Framing.waitQuiet else s.line.framing } }

/-- FRAME_CLASH at a bit that is read back other than it was sent (R9). -/
theorem execFrameClash_of_due {bit : Nat} {level sent : Bool} {f : LineFrame} {s : State} (onLine : s.line.onLine = some f)
    (bitSent : s.sentBits[bit]? = some sent) (other : level ≠ sent) (marked : 13 ≤ bit → f.age.isSome = true) :
    execFrameClash bit level s = .next (returnClashed f.frame (s.clashed bit f)) := by
  have due : (f.age.isSome || decide (bit ≤ 12)) = true := by
    rcases Nat.lt_or_ge bit 13 with early | late
    · simp; omega
    · simp [marked late]
  have low : stillHeldLow bit f.age = decide (bit = 12 ∧ f.age = none) := by
    rw [Bool.eq_iff_iff]
    simp [stillHeldLow]
  unfold execFrameClash
  rw [onLine]
  refine (act_of_due (by simp [bitSent, due, Ne.symm other])).trans ?_
  simp only [framingAfterClash, low, decide_eq_true_eq]
  rfl

end Sys2Proof.Machine
end

section

open Sys2Proof Sys2Proof.Machine

/-- Settles O23: entry and return by the room made in the queue and by the twin found there, and the eighth clash. -/
theorem clashedFrame : Obligations.ClashedFrame := by
  unfold Obligations.ClashedFrame
  constructor
  · intro q f pulse heard entered twin
    have enters {r : List QueuedFrame} (alone : ∀ g ∈ q, ¬twin g) (room : makeRoom q = some r) : entered r := by
      have enter := enqueue_of_no_twin (f := f) fun g mem is => alone g mem ((twin_iff f g).1 is)
      rw [room] at enter
      simpa only [isHalt_iff] using enter
    refine ⟨fun alone => ⟨fun room => ?_, ?_, ?_, fun full others => ?_⟩, ?_, fun halt found => ?_⟩
    · exact enters alone (makeRoom_of_room room)
    · rintro pre g post rfl full isHeard first
      exact enters alone (makeRoom_of_heard full ((isHeard_iff g).2 isHeard) fun x mem is => first x mem ((isHeard_iff x).1 is))
    · rintro pre g post rfl full isPulse first noHeard
      exact enters alone (makeRoom_of_pulse full ((isPulse_iff g).2 isPulse) (fun x mem is => first x mem ((isPulse_iff x).1 is))
        fun x mem is => noHeard x mem ((isHeard_iff x).1 is))
    · have none_room := makeRoom_of_full full fun x mem =>
        ⟨fun is => (others x mem).1 ((isHeard_iff x).1 is), fun is => (others x mem).2 ((isPulse_iff x).1 is)⟩
      rw [enqueue_of_no_twin fun g mem is => alone g mem ((twin_iff f g).1 is), none_room]
    · rintro pre g post rfl short isPulse old others
      exact enqueue_of_pulse short ((isPulse_iff f).2 isPulse) ((isPulse_iff g).2 old) fun x mem is => others x mem ((isPulse_iff x).1 is)
    · obtain ⟨g, mem, isHalt⟩ := found
      exact enqueue_of_halt ((isHalt_iff f).2 halt) ⟨g, mem, (isHalt_iff g).2 isHalt⟩
  · intro bit level sent f s onLine bitSent other marked line again pulse heard back twin silencing
    have clash := execFrameClash_of_due onLine bitSent other marked
    have returns {r : List QueuedFrame} (few : f.frame.clashes < 7) (alone : ∀ g ∈ s.line.queue, ¬twin g)
        (room : makeRoom s.line.queue = some r) : back r := by
      refine clash.trans ?_
      rw [returnClashed_of_room (s := s.clashed bit f) few (fun g mem is => alone g mem ((twin_iff f.frame g).1 is)) room, putFirst_eq]
      rfl
    refine ⟨fun few => ⟨fun alone room => ?_, ?_, ?_, fun others full => ?_, fun found => ?_⟩, fun many awake running report clear => ?_⟩
    · exact returns few alone (makeRoom_of_room room)
    · intro pre g post queue alone full isHeard first
      rw [queue] at full
      refine returns few alone ?_
      rw [queue]
      exact makeRoom_of_heard full ((isHeard_iff g).2 isHeard) fun x mem is => first x mem ((isHeard_iff x).1 is)
    · intro pre g post queue alone full isPulse first noHeard
      rw [queue] at full noHeard
      refine returns few alone ?_
      rw [queue]
      exact makeRoom_of_pulse full ((isPulse_iff g).2 isPulse) (fun x mem is => first x mem ((isPulse_iff x).1 is))
        fun x mem is => noHeard x mem ((isHeard_iff x).1 is)
    · have none_room := makeRoom_of_full full fun x mem =>
        ⟨fun is => (others x mem).2.1 ((isHeard_iff x).1 is), fun is => (others x mem).2.2 ((isPulse_iff x).1 is)⟩
      have out := requeue_of_no_twin (f := { f.frame with clashes := f.frame.clashes + 1 }) fun g mem is =>
        (others g mem).1 ((twin_iff f.frame g).1 is)
      rw [none_room] at out
      refine clash.trans ?_
      rw [returnClashed_of_not_back (s := s.clashed bit f) few out, faultFrameLeft_eq]
      rfl
    · obtain ⟨g, mem, is⟩ := found
      have isTwin := (twin_iff f.frame g).2 is
      have out := requeue_of_twin (f := { f.frame with clashes := f.frame.clashes + 1 }) ⟨g, mem, isTwin⟩
      have noFault : ({ f.frame with clashes := f.frame.clashes + 1 } : QueuedFrame).isFault = false := isFault_of_twin isTwin
      refine clash.trans ?_
      rw [returnClashed_of_not_back (s := s.clashed bit f) few out, faultFrameLeft_eq, noFault]
      rfl
    · refine clash.trans ?_
      have raised := raiseFault_withReport (ch := 0) (s := s.clashed bit f) ⟨report, clear, awake, running⟩ (by decide) (by decide)
      rw [returnClashed_of_eighth many, raised, faultFrameLeft_eq]
      rfl

end

section
/-! The end of frames on the line (R8, R17 to R20). -/

namespace Sys2Proof.Machine

/-- The state in which the station's own frame has left the line (R8, R12). -/
def State.ownFrameEnded (s : State) (f : LineFrame) : State := { s with line := { s.line.frameEnd (s.ownBytes f) with onLine := none } }

theorem execFrameComplete_of_marked {f : LineFrame} {s : State} (onLine : s.line.onLine = some f) (marked : f.age.isSome = true) :
    execFrameComplete s = .next (completeOwn f.frame (s.ownFrameEnded f)) := by
  unfold execFrameComplete
  rw [onLine]
  exact act_of_due marked

/-- The completion of a FAULT frame is told to the fault unit (R17, R188). -/
theorem completeOwn_of_isFault {f : QueuedFrame} (isFault : f.isFault = true) (s : State) : completeOwn f s = faultFrameLeft f s := by
  unfold QueuedFrame.isFault at isFault
  unfold completeOwn
  cases body : f.body <;> simp [body, FrameBody.kind] at isFault ⊢

/-- The completion of a HEARD, a PULSE or a HALT is told to nobody (R20). -/
theorem completeOwn_of_plain {f : QueuedFrame} (plain : (f.isHeard || f.isPulse || f.isHalt) = true) (s : State) : completeOwn f s = s := by
  unfold QueuedFrame.isHeard QueuedFrame.isPulse QueuedFrame.isHalt at plain
  unfold completeOwn
  cases body : f.body <;> simp [body, FrameBody.kind] at plain ⊢

end Sys2Proof.Machine
end

section

open Sys2Proof Sys2Proof.Machine

/-- Settles O24: the completion of the own frame, by its kind. -/
theorem ownFrameCompletes : Obligations.OwnFrameCompletes := by
  unfold Obligations.OwnFrameCompletes
  intro f age s onLine line
  have complete := execFrameComplete_of_marked onLine rfl
  have ended : s.ownFrameEnded ⟨f, some age⟩ = { s with line := line } := rfl
  rw [ended] at complete
  refine ⟨fun plain => ?_, fun isFault named => ?_, fun isFault other => ?_, fun c n cue => ?_⟩
  · exact complete.trans (by rw [completeOwn_of_plain plain])
  · refine complete.trans ?_
    rw [completeOwn_of_isFault isFault, faultFrameLeft_eq, if_pos (by simp [isFault, named])]
  · refine complete.trans ?_
    rw [completeOwn_of_isFault isFault, faultFrameLeft_eq, if_neg (by simpa [isFault] using other)]
  · exact complete.trans (by rw [completeOwn, cue])

end

section
/-! Frames received (R12, R18 to R20). -/

namespace Sys2Proof.Machine

/-! ## The run of high bit times (R12) -/

/-- What stands before bits that hold a low one does not count in the run they end with. -/
theorem highRun_append (before : List Bool) {bits : List Bool} (h : false ∈ bits) : highRun (before ++ bits) = highRun bits := by
  have low : ¬(bits.reverse.takeWhile id).length = bits.reverse.length := by
    intro all
    have same := (List.takeWhile_prefix (l := bits.reverse) id).eq_of_length all
    have mem : false ∈ bits.reverse.takeWhile id := by rw [same]; simpa using h
    exact Bool.false_ne_true (List.mem_takeWhile_imp mem)
  unfold highRun
  rw [List.reverse_append, List.takeWhile_append, if_neg low]

theorem false_mem_frameBits (bytes : List Byte) : false ∈ frameBits bytes := by simp [frameBits]

theorem highTail_eq {bytes : List Byte} (some_byte : bytes ≠ []) : highTail bytes = highRun (frameBits bytes) := by
  have low : false ∈ bytes.flatMap byteBits := by
    obtain ⟨b, rest, rfl⟩ := List.exists_cons_of_ne_nil some_byte
    simp [byteBits]
  have split : frameBits bytes = List.replicate 12 false ++ [true] ++ bytes.flatMap byteBits := by simp [frameBits]
  rw [split, highRun_append _ low]
  rfl

/-! ## Frames that are not delivered (R18, R20) -/

theorem brokenByte_of_low_stop {data : List Bool} (h : data.length = 8) : Instr.brokenByte (false :: data ++ [false]) = true := by
  match data, h with
  | [_, _, _, _, _, _, _, _], _ => rfl

theorem receiving_of {s : State} (running : s.running = true) (off : s.line.onLine = none) (framing : s.line.framing = .receiving) :
    receiving s = true := by
  simp [receiving, running, off, framing]

theorem execInvalidFrame_of_broken {bytes : List Byte} {broken : List Bool} {s : State} (h : receiving s = true)
    (isBroken : Instr.brokenByte broken = true) :
    execInvalidFrame bytes broken s = .next (discardFrame (frameBits bytes ++ broken) s) := by
  unfold execInvalidFrame
  split
  · cases isBroken
  · cases isBroken
  · cases isBroken
  · exact act_of_due (by simp [h, isBroken])

theorem execInvalidFrame_of_malformed {bytes : List Byte} {s : State} (h : receiving s = true) (judged : judgeFrame bytes = .malformed) :
    execInvalidFrame bytes [] s = .next (discardFrame (frameBits bytes) s) := by
  unfold execInvalidFrame
  rw [judged]
  exact act_of_due h

theorem execInvalidFrame_of_invalid {bytes : List Byte} {s : State} (h : receiving s = true) (judged : judgeFrame bytes = .invalid) :
    execInvalidFrame bytes [] s = .next (endOfFrame bytes s) := by
  unfold execInvalidFrame
  rw [judged]
  exact act_of_due h

theorem execDuplicate_of_own {bytes : List Byte} {w : WireFrame} {s : State} (h : receiving s = true) (judged : judgeFrame bytes = .valid w)
    (own : w.sender = s.startup.strap) : execDuplicate bytes s = .next (raiseFault 1 (endOfFrame bytes s)) := by
  unfold execDuplicate
  rw [judged]
  exact act_of_due (by simp [h, own])

theorem raiseFault_of_halted {ch : FaultNo} {s : State} (halted : s.isHalted = true) : raiseFault ch s = s := by simp [raiseFault, halted]

/-! ## Frames of a peer (R19) -/

theorem peerFrame_of_valid {bytes : List Byte} {w : WireFrame} {s : State} (h : receiving s = true) (judged : judgeFrame bytes = .valid w)
    (other : w.sender ≠ s.startup.strap) : peerFrame s bytes = some w := by
  simp [peerFrame, judged, h, other]

section

variable {bytes : List Byte} {w : WireFrame} {s : State} (frame : peerFrame s bytes = some w)
include frame

theorem execHeardReceived_of_frame {event : ObsKind} {sequence : BitVec 8} {strength : Nat} (body : w.body = .heard event sequence strength) :
    execHeardReceived bytes s =
      .next (if s.isHalted then endOfFrame bytes s else heardFrom w event sequence (endOfFrame bytes s)) := by
  simp [execHeardReceived, frame, body, act]

theorem execPulseReceived_of_frame {fields : PulseFields} (body : w.body = .pulse fields) :
    execPulseReceived bytes s = .next (if s.isHalted then endOfFrame bytes s else pulseFrom w fields (endOfFrame bytes s)) := by
  simp [execPulseReceived, frame, body, act]

theorem execHaltReceived_of_frame (body : w.body = .halt) :
    execHaltReceived bytes s = .next (if s.isHalted then endOfFrame bytes s else takeHalt (hearPeer w.sender (endOfFrame bytes s))) := by
  simp [execHaltReceived, frame, body, act]

theorem execFaultReceived_of_frame {ch : FaultNo} {r : Reaction} {c : Option Station} {q : BitVec 8} (body : w.body = .fault ch r c q) :
    execFaultReceived bytes s = .next (if s.isHalted then endOfFrame bytes s else hearPeer w.sender (endOfFrame bytes s)) := by
  simp [execFaultReceived, frame, body, act]

theorem receiveCue_of_frame {c : Cue} {n : Nat} (body : w.body = .cue c n) :
    receiveCue c bytes s = .next (cueFrom w c n (endOfFrame bytes s)) := by
  simp [receiveCue, frame, body, act]

end

/-- In HALTED a cue other than RESTART does nothing (R19). -/
theorem cueFrom_of_halted {w : WireFrame} {c : Cue} {n : Nat} {s : State} (halted : s.isHalted = true) (other : c ≠ .restart) :
    cueFrom w c n s = s := by
  cases c <;> simp [cueFrom, halted] at other ⊢

end Sys2Proof.Machine
end

section

open Sys2Proof Sys2Proof.Machine

/-- Settles O25: the ends of frames that deliver nothing, by what the bytes are judged to be and by the play state. -/
theorem framesNotDelivered : Obligations.FramesNotDelivered := by
  unfold Obligations.FramesNotDelivered
  intro bytes broken s running off framing ended bits discarded
  have receives := receiving_of running off framing
  refine ⟨highRun_spec bits (List.mem_append_left _ (false_mem_frameBits bytes)), highTail_eq, ?_, ?_, fun w judged => ⟨?_, ?_, ?_⟩⟩
  · rintro (⟨rfl, malformed⟩ | rfl | ⟨data, length, rfl⟩)
    · refine (execInvalidFrame_of_malformed receives malformed).trans ?_
      rw [← List.append_nil (frameBits bytes)]
      rfl
    · exact execInvalidFrame_of_broken (broken := [true]) receives rfl
    · exact execInvalidFrame_of_broken receives (brokenByte_of_low_stop length)
  · rintro rfl invalid
    exact execInvalidFrame_of_invalid receives invalid
  · intro own awake report clear
    refine (execDuplicate_of_own receives judged own).trans ?_
    rw [raiseFault_report (s := endOfFrame bytes s) awake running report clear]
    have body : faultBody (latch 1 (endOfFrame bytes s)) 1 = .fault 1 .report (some s.startup.strap) 0 := by
      simp [faultBody, State.cfg] at report ⊢
      exact report
    rw [offerFault, body]
    rfl
  · intro own halted
    refine (execDuplicate_of_own receives judged own).trans ?_
    rw [raiseFault_of_halted (s := endOfFrame bytes s) halted]
    rfl
  · intro other halted
    have frame := peerFrame_of_valid receives judged other
    refine ⟨fun e q x body => ?_, fun p body => ?_, fun body => ?_, fun ch r c q body => ?_, fun n => ⟨fun body => ?_, fun body => ?_, fun body => ?_⟩⟩
    · exact (execHeardReceived_of_frame frame body).trans (by rw [if_pos halted]; rfl)
    · exact (execPulseReceived_of_frame frame body).trans (by rw [if_pos halted]; rfl)
    · exact (execHaltReceived_of_frame frame body).trans (by rw [if_pos halted]; rfl)
    · exact (execFaultReceived_of_frame frame body).trans (by rw [if_pos halted]; rfl)
    all_goals
      refine (receiveCue_of_frame frame body).trans ?_
      rw [cueFrom_of_halted (s := endOfFrame bytes s) halted (by simp)]
      rfl

end

section
/-! Observations of peers (R14, R19, R83 to R86, R119 to R123, R185). -/

namespace Sys2Proof.Machine

theorem takeException_of_masked {e : FollowerException} {c : Option (Station × BitVec 8)} {s : State} (inPlay : s.inPlay = true)
    (masked : s.masked e = true) :
    takeException e c s = exceptionDefault e { s with follow.sticky := s.follow.sticky ||| (1#7 <<< e.bit) } := by
  rcases takeException_cases e c s with ⟨out, -⟩ | ⟨-, ⟨-, eq⟩ | ⟨unmasked, -⟩⟩
  · rw [inPlay] at out; cases out
  · exact eq
  · rw [masked] at unmasked; cases unmasked

theorem takeException_of_unmasked {e : FollowerException} {c : Station × BitVec 8} {s : State} (inPlay : s.inPlay = true)
    (unmasked : s.masked e = false) :
    takeException e (some c) s =
      raiseFault 2 { exceptionDefault e { s with follow.sticky := s.follow.sticky ||| (1#7 <<< e.bit) } with follow.culprit := some c } := by
  rcases takeException_cases e (some c) s with ⟨out, -⟩ | ⟨-, ⟨masked, -⟩ | ⟨-, eq⟩⟩
  · rw [inPlay] at out; cases out
  · rw [unmasked] at masked; cases masked
  · exact eq

theorem takeException_out_of_play {e : FollowerException} {c : Option (Station × BitVec 8)} {s : State} (out : s.inPlay = false) :
    takeException e c s = s := by simp [takeException, out]

theorem deliver_out_of_play {o : Observation} {s : State} (out : s.inPlay = false) : deliver o s = s := by simp [deliver, out]

theorem deliver_of_room {o : Observation} {s : State} (inPlay : s.inPlay = true) (room : s.gather.queue.length < 32) :
    deliver o s = { s with gather.queue := s.gather.queue ++ [o] } := by
  rcases deliver_cases o s with ⟨out, -⟩ | ⟨-, -, eq⟩ | ⟨-, full, -⟩
  · rw [inPlay] at out; cases out
  · exact eq
  · omega

theorem deliver_of_full {o head : Observation} {others : List Observation} {s : State} (inPlay : s.inPlay = true)
    (queue : s.gather.queue = head :: others) (full : others.length = 31) :
    deliver o s = takeException .overrun (some (s.stationOf head.source, head.sequence)) { s with gather.queue := others ++ [o] } := by
  simp [deliver, inPlay, queue, full, Config.observationCapacity]

/-- A bit that is set already stays the only thing its setting could change. -/
theorem or_channelBit_of_latched {latches : BitVec 8} {ch : FaultNo} (h : latches.getLsbD ch.val = true) : latches ||| channelBit ch = latches := by
  refine BitVec.eq_of_getLsbD_eq fun i _ => ?_
  rw [BitVec.getLsbD_or]
  by_cases here : i = ch.val
  · rw [here, h, Bool.true_or]
  · have off : (channelBit ch).getLsbD i = false := by
      simp [channelBit, BitVec.getLsbD_shiftLeft]
      omega
    rw [off, Bool.or_false]

/-- The FOLLOW channel raised under a culprit, with the reaction REPORT (R123, R184, R185). -/
theorem raiseFault_follow {s : State} {p : Station} {n : BitVec 8} (awake : s.isHalted = false) (running : s.running = true)
    (report : s.cfg.reactions[(2 : FaultNo)] = .report) (culprit : s.follow.culprit = some (p, n)) :
    raiseFault 2 s =
      { s with
        line.queue :=
          if s.latched 2 then s.line.queue else (enqueue s.line.queue ⟨.fault 2 .report (some p) n, s.now, 0, s.fault.nextTag⟩).1
        fault :=
          { s.fault with
            latches := s.fault.latches ||| 4#8
            nextTag := if s.latched 2 then s.fault.nextTag else s.fault.nextTag + 1 } } := by
  have raised : raiseFault 2 s = latchAndReport 2 s := by simp [raiseFault, awake, running, report]
  rw [raised, latchAndReport]
  cases latched : s.latched 2
  · have body : faultBody (latch 2 s) 2 = .fault 2 .report (some p) n := by simp [faultBody, culprit, State.cfg, report]
    simp only [Bool.false_eq_true, if_false, offerFault, body]
    rfl
  · have same : s.fault.latches ||| 4#8 = s.fault.latches := or_channelBit_of_latched (ch := 2) latched
    simp only [if_true, same]

/-- The entry of a sender as its frame leaves it, the claim apart (R86). -/
theorem hearPeer_eq (p : Station) (s : State) :
    hearPeer p s =
      { s with
        gather.peers :=
          s.gather.peers.set p
            ⟨true, s.line.markLatch, if (s.gather.peers[p]).present then (s.gather.peers[p]).weight else min s.cfg.peerDefault s.cfg.weightMax,
              (s.gather.peers[p]).claim⟩ } := rfl

theorem heardFrom_of_late {w : WireFrame} {event : ObsKind} {sequence : BitVec 8} {s : State} (late : 800 < w.age) :
    heardFrom w event sequence s = takeException .stale (some (w.sender, sequence)) (hearPeer w.sender s) := if_pos late

theorem heardFrom_of_fresh {w : WireFrame} {event : ObsKind} {sequence : BitVec 8} {s : State} (fresh : w.age ≤ 800) :
    heardFrom w event sequence s =
      deliver
        ⟨.peer w.sender, event, s.line.markLatch - BitVec.ofNat 32 w.age, sequence,
          if (s.gather.peers[w.sender]).present then (s.gather.peers[w.sender]).weight else min s.cfg.peerDefault s.cfg.weightMax⟩
        (hearPeer w.sender s) := by
  refine (if_neg (not_lt.2 fresh)).trans ?_
  simp [hearPeer_eq, eventTimeOf]

end Sys2Proof.Machine
end

section

open Sys2Proof Sys2Proof.Machine

/-- Settles O26: a HEARD frame by its age, the play state and the room in the observation queue; an exception it raises masked or not. -/
theorem heardFrameTaken : Obligations.HeardFrameTaken := by
  unfold Obligations.HeardFrameTaken
  intro bytes w event sequence strength s running off framing awake judged other body ended old weight peers o
  have taken : execHeardReceived bytes s = .next (heardFrom w event sequence (endOfFrame bytes s)) := by
    have frame := peerFrame_of_valid (receiving_of running off framing) judged other
    exact (execHeardReceived_of_frame frame body).trans (by rw [if_neg (by simp [awake])])
  let heard : State := { s with line := ended, gather.peers := peers }
  have stale (late : 800 < w.age) : execHeardReceived bytes s = .next (takeException .stale (some (w.sender, sequence)) heard) :=
    taken.trans (by rw [heardFrom_of_late late]; rfl)
  have delivered (fresh : w.age ≤ 800) : execHeardReceived bytes s = .next (deliver o heard) :=
    taken.trans (by rw [heardFrom_of_fresh fresh]; rfl)
  let shifted (others : List Observation) : State := { heard with gather.queue := others ++ [o] }
  have overrun {head : Observation} {others : List Observation} (inPlay : s.inPlay = true) (fresh : w.age ≤ 800)
      (queue : s.gather.queue = head :: others) (full : others.length = 31) :
      execHeardReceived bytes s =
        .next (takeException .overrun (some (s.stationOf head.source, head.sequence)) (shifted others)) :=
    (delivered fresh).trans (congrArg _ (deliver_of_full (s := heard) inPlay queue full))
  refine ⟨fun inPlay fresh room => ?_, fun inPlay fresh full masked => ?_, fun inPlay late masked => ?_, fun out => ?_, ?_⟩
  · exact (delivered fresh).trans (congrArg _ (deliver_of_room (s := heard) inPlay room))
  · obtain ⟨head, others, queue⟩ := List.exists_cons_of_length_eq_add_one full
    refine (overrun inPlay fresh queue (by simpa [queue] using full)).trans ?_
    refine congrArg _ ((takeException_of_masked (s := shifted others) inPlay masked).trans ?_)
    rw [queue]
    rfl
  · exact (stale late).trans (congrArg _ (takeException_of_masked (s := heard) inPlay masked))
  · rcases Nat.lt_or_ge 800 w.age with late | fresh
    · exact (stale late).trans (congrArg _ (takeException_out_of_play (s := heard) out))
    · exact (delivered fresh).trans (congrArg _ (deliver_out_of_play (s := heard) out))
  · intro inPlay report named
    refine ⟨fun late unmasked => ?_, fun head others fresh queue full unmasked => ?_⟩
    · refine (stale late).trans (congrArg _ ((takeException_of_unmasked (s := heard) inPlay unmasked).trans ?_))
      exact raiseFault_follow awake running report rfl
    · have station : s.stationOf head.source = match head.source with | .own => s.startup.strap | .peer p => p := by
        cases head.source <;> rfl
      refine (overrun inPlay fresh queue full).trans ?_
      rw [station]
      refine congrArg _ ((takeException_of_unmasked (s := shifted others) inPlay unmasked).trans ?_)
      exact raiseFault_follow awake running report rfl

end

section
/-! SILENCED as it is entered (R59, R79, R166). -/

namespace Sys2Proof.Machine

/-- In an empty table no action stands. -/
theorem tableEmpty_of_initial {s : State} (h : s.sched = .initial) : tableEmpty s = true := by
  simp [tableEmpty, h, Scheduler.initial]

/-- Entry to SILENCED leaves nothing to sound (R59, R166). -/
theorem enterSilenced_mutedEmpty (s : State) : (enterSilenced s).mutedEmpty = true := by
  have table := tableEmpty_of_initial (enterSilenced_sched s)
  have counts : (enterSilenced s).out.counts.toList.all (· == 0) = true := by
    simp [enterSilenced]
  simp [State.mutedEmpty, table, counts, silenceStore]

end Sys2Proof.Machine
end

section

open Sys2Proof Sys2Proof.Machine

/-- Settles O28: the entry of an absent peer, and the frames that make the peer update alone or silence the station. -/
theorem peerEntriesAndHalt : Obligations.PeerEntriesAndHalt := by
  unfold Obligations.PeerEntriesAndHalt
  intro s
  refine ⟨fun p present other long => act_of_due ?_, ?_⟩
  · simp only [Bool.and_eq_true, decide_eq_true_eq, bne_iff_ne]
    exact ⟨⟨present, other⟩, long⟩
  intro bytes w running off framing awake judged other ended old weight peers
  have frame := peerFrame_of_valid (receiving_of running off framing) judged other
  let heard : State := { s with line := ended, gather.peers := peers }
  have halt (body : w.body = .halt) : execHaltReceived bytes s = .next (takeHalt heard) :=
    (execHaltReceived_of_frame frame body).trans (by rw [if_neg (by simp [awake]), hearPeer_eq]; rfl)
  refine ⟨fun ch r c q body => ?_, fun body started => ?_, fun body starting => ?_⟩
  · exact (execFaultReceived_of_frame frame body).trans (by rw [if_neg (by simp [awake]), hearPeer_eq]; rfl)
  · refine ⟨enterSilenced heard, (halt body).trans (congrArg _ (if_neg started)), rfl, enterSilenced_mutedEmpty heard, ?_⟩
    exact ⟨rfl, rfl, rfl, rfl, rfl, rfl, rfl, rfl, rfl, rfl, rfl, rfl, rfl, rfl, rfl, rfl⟩
  · exact (halt body).trans (congrArg _ (if_pos starting))

end

section
/-! Start-up and the first block of the sound port (R12, R23 to R25, R198 to R202). -/

namespace Sys2Proof.Machine

/-! ## The end of the checks (R198, R201) -/

theorem endChecks_of_valve {s : State} (running : s.startup.valveCheck.isSome = true) : endChecks s = s := by
  have : s.startup.valveCheck.isNone = false := by simpa using running
  simp [endChecks, this]

theorem endChecks_of_checked {s : State} (step : s.startup.step = .checks) (valve : s.startup.valveCheck = none)
    (sound : s.startup.soundCheck = false) : endChecks s = if s.cfg.play then beginOffPulses s else beginJoining s := by
  simp [endChecks, step, valve, sound]

/-- The end of the checks raises nothing and offers nothing. -/
theorem endChecks_keeps (s : State) :
    (endChecks s).fault = s.fault ∧ (endChecks s).line.queue = s.line.queue ∧ (endChecks s).startup.soundCheck = s.startup.soundCheck := by
  unfold endChecks
  split
  · split <;> exact ⟨rfl, rfl, rfl⟩
  · exact ⟨rfl, rfl, rfl⟩

theorem running_of_step {s : State} {step : StartStep} (h : s.startup.step = step) (released : step ≠ .held) : s.running = true := by
  simp [State.running, h, released]

theorem isHalted_of_state {s : State} {st : PlayState} (h : s.play.state = st) (other : st ≠ .halted) : s.isHalted = false := by
  simp [State.isHalted, h, other]

/-- A channel reported is latched. -/
theorem withReport_latched (s : State) (ch : FaultNo) (culprit : Option Station) : (s.withReport ch culprit).latched ch = true := by
  simp [State.latched, State.withReport]

/-! ## A sample read at the port (R23, R24) -/

theorem readPort_bits {before bits : List Bool} (whole : before.length + bits.length = 16) (more : bits ≠ []) :
    readPort (some before) (bits.map .bit) = some (before ++ bits) := by
  induction bits generalizing before with
  | nil => exact absurd rfl more
  | cons b bits ih =>
    simp only [List.length_cons] at whole
    cases bits with
    | nil =>
      simp only [List.length_nil] at whole
      simp [readPort, show ¬before.length < 15 by omega]
    | cons c bits =>
      simp only [List.length_cons] at whole ih
      have early : before.length < 15 := by omega
      have rest := ih (before := before ++ [b]) (by simp; omega) (by simp)
      simpa [readPort, early] using rest

/-- A word sync edge and the sixteen bits that follow it read a sample (R23). -/
theorem readPort_portEdges {bits : List Bool} (sixteen : bits.length = 16) : readPort none (portEdges [] [] bits) = some bits := by
  have := readPort_bits (before := []) (bits := bits) (by simpa using sixteen) (by rintro rfl; cases sixteen)
  simpa [portEdges, readPort] using this

/-- The bits of a list as a number, the first the most significant. -/
theorem bitsToNat_reverse (bits : List Bool) : bitsToNat bits.reverse = bits.foldl (fun n b => 2 * n + b.toNat) 0 := by
  simp [bitsToNat, List.foldr_reverse]

theorem bitsToNat_lt (bits : List Bool) : bitsToNat bits < 2 ^ bits.length := by
  induction bits with
  | nil => simp [bitsToNat]
  | cons b bits ih =>
    have unfolded : bitsToNat (b :: bits) = 2 * bitsToNat bits + b.toNat := rfl
    have := b.toNat_lt
    rw [unfolded, List.length_cons, Nat.pow_succ]
    omega

/-- The magnitude of the sample that sixteen bits are (R23, R24). -/
theorem magnitude_sampleValue {bits : List Bool} (sixteen : bits.length = 16) : magnitude (sampleValue bits) = portMagnitude bits := by
  have small : bitsToNat bits.reverse < 65536 := by
    have := bitsToNat_lt bits.reverse
    rwa [List.length_reverse, sixteen] at this
  unfold portMagnitude
  rw [← bitsToNat_reverse]
  unfold magnitude sampleValue
  simp only [BitVec.toInt, BitVec.toNat_ofNat, Nat.mod_eq_of_lt small]
  split <;> split <;> omega

/-- The front end at a block without a baseline, in QUIET and with no candidate: nothing is confirmed (R25, R26). -/
theorem blockDone_first {c : Configuration} {start : Time} {envelope : Nat} {f : FrontEnd} (history : f.history = [])
    (detector : f.detector = .quiet) (candidate : f.candidate = none) :
    blockDone c start envelope f =
      ({ f with block := ⟨0, 0, 0⟩, history := [envelope], window := (f.window ++ [envelope]).drop (f.window.length + 1 - 32) }, none) := by
  obtain ⟨block, past, window, state, waiting, peak, refractory, sequence, last, lost, ticks⟩ := f
  subst history detector candidate
  rfl

/-- The sample that completes such a block, before the sound check is looked at (R24, R25). -/
theorem takeSample_first {x : BitVec 16} {stamp : Time} {s : State} (full : s.front.block.count = 63) (history : s.front.history = [])
    (detector : s.front.detector = .quiet) (candidate : s.front.candidate = none) :
    takeSample x stamp s =
      passSoundCheck
        { s with
          front :=
            { s.front with
              block := ⟨0, 0, 0⟩, history := [(s.front.block.sum + magnitude x) / 64]
              window :=
                (s.front.window ++ [(s.front.block.sum + magnitude x) / 64]).drop (s.front.window.length + 1 - 32)
              lastSample := s.now, lossReported := false, portTicks := 0 } } := by
  unfold takeSample
  dsimp only
  rw [if_pos (by simp [Block.add, full])]
  unfold completeBlock
  rw [blockDone_first (by exact history) (by exact detector) (by exact candidate)]
  rfl

theorem execSampleTaken_of_read {edges : List SoundEdge} {bits : List Bool} {ago : Nat} {s : State} (read : readPort none edges = some bits)
    (listening : s.listening = true) (recent : ago ≤ s.front.portTicks) :
    execSampleTaken edges ago s = .next (takeSample (sampleValue bits) (s.now - BitVec.ofNat 32 ago) s) := by
  unfold execSampleTaken
  rw [read]
  exact act_of_due (by simp [listening, recent])

/-! ## The joining of the line (R12, R201) -/

theorem execJoinCountComplete_of_counted {n : Nat} {s : State} (joining : s.line.transmitter = .joining) (count : s.line.joinTime = some n)
    (long : 500 ≤ n) (high : 500 ≤ s.line.high) :
    execJoinCountComplete s =
      .next
        (let t := { s with line := { s.line with transmitter := .active, joinTime := none } }
        if s.startup.step = .joining then endFullStart t else t) := by
  refine act_of_due ?_
  simp [joining, LineInterface.joinCount, count, long, high]

end Sys2Proof.Machine
end

section

open Sys2Proof Sys2Proof.Machine

/-- Settles O20: each start step moved on by its command, the end of the checks by what runs and what the station plays. -/
theorem startUpSteps : Obligations.StartUpSteps := by
  unfold Obligations.StartUpSteps
  intro s
  refine ⟨fun step sound long => ?_, fun bits ago step sound listening full history detector candidate early sixteen recent => ?_,
    fun step passed => ?_, fun n joining count long high => ?_, fun not_yet => ?_⟩
  · let t : State := { s with startup.soundCheck := false }
    have ended : execSoundCheckTimeout s = .next (endChecks (if s.front.lossReported then t else raiseFault 6 t)) :=
      act_of_due (by simp [step, sound, long])
    have passes (lost : s.front.lossReported = true) : execSoundCheckTimeout s = .next (endChecks t) := by rw [ended, if_pos lost]
    refine ⟨fun lost valve => ?_, fun lost valve plays => ?_, fun lost valve silent => ?_, fun lost starting report clear => ?_⟩
    · exact (passes lost).trans (congrArg _ (endChecks_of_valve (s := t) valve))
    · exact (passes lost).trans (congrArg _ ((endChecks_of_checked (s := t) step valve rfl).trans (if_pos plays)))
    · exact (passes lost).trans (congrArg _ ((endChecks_of_checked (s := t) step valve rfl).trans (if_neg (ne_true_of_eq_false silent))))
    · have raised : raiseFault 6 t = t.withReport 6 none :=
        raiseFault_withReport ⟨report, clear, isHalted_of_state starting (by simp), running_of_step step (by simp)⟩ (by decide) (by decide)
      obtain ⟨fault, queue, check⟩ := endChecks_keeps (t.withReport 6 none)
      refine ⟨endChecks (t.withReport 6 none), ?_, ?_, check, queue⟩
      · exact ended.trans (by rw [if_neg (by simp [lost]), raised])
      · rw [State.latched, fault]
        exact withReport_latched t 6 none
  · intro envelope front passed
    let t : State := { s with front := front, startup.soundCheck := false }
    have taken : execSampleTaken (portEdges [] [] bits) ago s = .next (endChecks t) := by
      rw [execSampleTaken_of_read (readPort_portEdges sixteen) listening recent, takeSample_first full history detector candidate,
        magnitude_sampleValue sixteen]
      exact congrArg _ (if_pos (by simp [sound, early]))
    refine ⟨fun valve => ?_, fun valve plays => ?_, fun valve silent => ?_⟩
    · exact taken.trans (congrArg _ (endChecks_of_valve (s := t) valve))
    · exact taken.trans (congrArg _ ((endChecks_of_checked (s := t) step valve rfl).trans (if_pos plays)))
    · exact taken.trans (congrArg _ ((endChecks_of_checked (s := t) step valve rfl).trans (if_neg (ne_true_of_eq_false silent))))
  · exact act_of_due (by simp [step, passed])
  · have counted := execJoinCountComplete_of_counted joining count long high
    refine ⟨fun other => ?_, fun step free => ?_, fun step recorded => ?_⟩
    · exact counted.trans (congrArg _ (if_neg other))
    · refine counted.trans (congrArg _ ((if_pos step).trans ?_))
      exact if_neg (by simp [free])
    · refine ⟨_, counted.trans (congrArg _ ((if_pos step).trans (if_pos recorded))), rfl, rfl, rfl, rfl, enterSilenced_mutedEmpty _⟩
  · refine act_of_not_due ?_
    rcases not_yet with none_counted | low | ⟨n, count, short⟩
    · simp [LineInterface.joinCount, none_counted]
    · cases h : s.line.joinTime with
      | none => simp [LineInterface.joinCount, h]
      | some n => simp [LineInterface.joinCount, h, low]
    · simp [LineInterface.joinCount, count, short]

end

section
/-! Entry into play, the readers set up, and seeks (R46, R50 to R56, R76, R103, R138, R158). -/

namespace Sys2Proof.Machine

/-! ## Entry into play (R67, R76, R103, R138) -/

/-- BROADEN marks reached: the broaden flag and the mark queue alone change (R115). -/
theorem reachBroaden_eq (limit : Int) (s : State) :
    ∃ queue broaden, reachBroaden limit s = { s with store.queue := queue, follow.broaden := broaden } := by
  unfold reachBroaden
  dsimp only
  split <;> exact ⟨_, _, rfl⟩

/-- A change reported with no gather open and no pool: the mark queue, the broaden flag and the re-time pass alone change (R103). -/
theorem reportAnchor_eq {s : State} (opens : s.gather.opens = []) (pool : s.gather.pool = []) :
    ∃ queue broaden,
      reportAnchor s =
        { s with
          store.queue := queue, follow := { s.follow with broaden := broaden, change := none }, sched := startPass s.sched } := by
  obtain ⟨queue, broaden, reached⟩ := reachBroaden_eq s.position s
  refine ⟨queue, broaden, ?_⟩
  unfold reportAnchor
  rw [reached]
  simp only [opens, pool, GatherUnit.prunePool, List.map_nil, List.filter_nil]
  rw [← opens, ← pool]

/-- The watch taken on: the watch and the mark queue alone change (R138). -/
theorem watchNext_eq (fuel : Nat) (s : State) :
    ∃ queue watch, watchNext fuel s = { s with store.queue := queue, follow.watch := watch } := by
  induction fuel generalizing s with
  | zero => exact ⟨_, _, rfl⟩
  | succ fuel ih =>
    unfold watchNext
    split
    · exact ⟨_, _, rfl⟩
    · rename_i m _
      split
      · exact ⟨_, _, rfl⟩
      · split
        · obtain ⟨queue, watch, e⟩ := ih (serveHold m.position s)
          exact ⟨queue, watch, e⟩
        · exact ⟨_, _, rfl⟩

/-- The watch begun: it, the barrier and the mark queue alone change (R138, R146). -/
theorem startWatch_eq (s : State) :
    ∃ queue watch,
      startWatch s = { s with store.queue := queue, follow.watch := watch, sched.barrier := watch.map (·.point) } := by
  obtain ⟨queue, watch, watched⟩ := watchNext_eq (Config.markCapacity + 1) s
  refine ⟨queue, watch, ?_⟩
  unfold startWatch settleWatch
  rw [watched]

/-- LEADING in a section on an anchor, before the watch and the report (R67, R76). -/
def State.leadingOn (sect : Nat) (anchor : Anchor) (beat : Nat) (change : Change) (s : State) : State :=
  { s with
    play :=
      { s.play with
        state := .leading, sect := some sect, run := 0, leadLock := false, pendingStart := none, join := none, returnState := none }
    gather := { s.gather with taking := .free, opens := [], closed := [], previousSung := none, pool := [], playStart := s.now }
    follow := .begin anchor beat change
    fault.latches := 0 }

theorem enterPlay_eq_report (sect : Nat) (anchor : Anchor) (beat : Nat) (change : Change) (s : State) :
    enterPlay sect anchor beat change s = reportAnchor (startWatch ((beforeChange s).leadingOn sect anchor beat change)) := rfl

/-- Play entered: which marks are served on the way and what is watched is left open (R67, R76, R103). -/
theorem enterPlay_eq (sect : Nat) (anchor : Anchor) (beat : Nat) (change : Change) (s : State) :
    ∃ queue notes watch broaden,
      enterPlay sect anchor beat change s =
        { s.leadingOn sect anchor beat change with
          store := { s.store with queue := queue, notes := notes }
          follow := { Follower.begin anchor beat change with watch := watch, broaden := broaden, change := none }
          sched := startPass { s.sched with barrier := watch.map (·.point) } } := by
  obtain ⟨inHand, passed, before, -⟩ := beforeChange_cases s
  obtain ⟨_, watch, watched⟩ := startWatch_eq ((beforeChange s).leadingOn sect anchor beat change)
  have still : (startWatch ((beforeChange s).leadingOn sect anchor beat change)).gather =
      ((beforeChange s).leadingOn sect anchor beat change).gather := by rw [watched]
  obtain ⟨queue, broaden, reported⟩ := reportAnchor_eq (congrArg _ still) (congrArg _ still)
  refine ⟨queue, { s.store.notes with inHand := inHand, endPassed := passed }, watch, broaden, ?_⟩
  rw [enterPlay_eq_report, reported, watched, before]
  rfl

/-- The table is visited when an action stands in it that is not HELD (R158). -/
theorem startPass_pass (sc : Scheduler) :
    (startPass sc).pass = if sc.table.toList.any (fun x => x.any Action.live) then some .start else none := by
  refine congrArg (fun f => if sc.table.toList.any f then some Cursor.start else none) ?_
  funext x
  cases x <;> rfl

/-- A state after the completion of a join: LEADING in the section of the target on the join anchor, the follower and the latches cleared, the
rest as it was (R76). -/
def State.Joined (h : Header) (j : JoinAnchor) (s t : State) : Prop :=
  t.play =
      { s.play with
        state := .leading, sect := some (h.sectionOf j.target), run := 0, leadLock := false, pendingStart := none, join := none
        returnState := none } ∧
    t.ruling = some ⟨24 * j.beat, j.time, j.period⟩ ∧ t.follow.nextBeat = some j.target ∧ t.follow.top = 0 ∧
    t.follow.confidence = 0 ∧ t.follow.misses = 0 ∧ t.follow.sticky = 0 ∧ t.follow.culprit = none ∧ t.fault.latches = 0 ∧
    t.gather.playStart = s.now ∧ t.store.seek = s.store.seek ∧ t.store.hymn = s.store.hymn ∧ t.passBegun ∧ t.line = s.line ∧
    t.out = s.out

theorem joinComplete_joined {h : Header} {s : State} (j : JoinAnchor) (header : s.header = some h) : s.Joined h j (joinComplete j s) := by
  have entered : joinComplete j s = enterPlay (h.sectionOf j.target) ⟨24 * j.beat, j.time, j.period⟩ j.target .join s := by
    simp only [joinComplete, header]
  obtain ⟨queue, notes, watch, broaden, e⟩ := enterPlay_eq (h.sectionOf j.target) ⟨24 * j.beat, j.time, j.period⟩ j.target .join s
  rw [entered, e]
  exact ⟨rfl, rfl, rfl, rfl, rfl, rfl, rfl, rfl, rfl, rfl, rfl, rfl, startPass_pass _, rfl, rfl⟩

/-! ## The readers set up (R50 to R56) -/

/-- The note reader settled: the port and the note reader alone change, the start and the planned stops not (R52 to R55). -/
theorem settleNotes_eq (s : State) :
    ∃ port notes, settleNotes s = { s with store := { s.store with port := port, notes := notes } } ∧
      notes.start = s.store.notes.start ∧ notes.planned = s.store.notes.planned := by
  refine iterate_invariant (step := settleNotesStep) (a := s)
    (p := fun t => ∃ port notes, t = { s with store := { s.store with port := port, notes := notes } } ∧
      notes.start = s.store.notes.start ∧ notes.planned = s.store.notes.planned) ?_ 20 ⟨_, _, rfl, rfl, rfl⟩
  rintro _ u ⟨port, notes, rfl, start, planned⟩ turn
  unfold settleNotesStep at turn
  split at turn
  · dsimp only at turn
    repeat' split at turn
    all_goals cases turn <;> exact ⟨_, _, rfl, start, planned⟩
  · cases turn

section

variable {hymn : Hymn} {s : State} (loaded : s.store.hymn = some hymn) (running : s.store.marks.phase = .running)
  (spent : s.store.marks.buffer = []) (more : s.store.marks.ended = false) (free : s.store.port.awaits .markBlock = false)
include loaded running spent more free

/-- A block of the stream left to read is asked for (R50). -/
theorem settleMarks_of_block (block : 16 * s.store.marks.block < hymn.header.marks.count) :
    ∃ port, settleMarks s = { s with store.port := port } := by
  let read := blockRead .markBlock 4 hymn.address hymn.header.marks s.store.marks.block
  refine ⟨{ s.store.port with markWaits := some read }.grant, ?_⟩
  simp only [settleMarks, loaded, running, spent, more, free]
  exact if_pos block

/-- The stream read through the last verse has ended (R50). -/
theorem settleMarks_of_end (read : hymn.header.marks.count ≤ 16 * s.store.marks.block)
    (last : hymn.header.verses ≤ s.store.marks.sect ∨ hymn.header.marks.count = 0) :
    settleMarks s = { s with store.marks.ended := true } := by
  have none_left : ¬(decide (s.store.marks.sect < hymn.header.verses) && decide (0 < hymn.header.marks.count)) = true := by
    simp only [Bool.and_eq_true, decide_eq_true_eq]
    omega
  simp only [settleMarks, loaded, running, spent, more, free]
  exact (if_neg (not_lt.2 read)).trans (if_neg none_left)

end

/-- With the operations of the port abandoned, nothing is awaited (R41). -/
theorem abandonAll_awaits (p : FlashPort) (unit : FlashUnit) : p.abandonAll.awaits unit = false := by
  cases h : p.serving <;> simp [FlashPort.awaits, FlashPort.abandonAll, h]

/-- The readers begun at a beat: the marks have ended when the hymn has none (R50, R56). -/
theorem startReaders_eq {h : Header} {s : State} (beat : Nat) (header : s.header = some h)
    (free : s.store.port.awaits .markBlock = false) :
    ∃ port notes,
      startReaders beat s =
          { s with
            store :=
              { s.store with
                port := port, marks := ⟨.running, h.sectionOf beat, 0, [], none, 24 * beat, decide (h.marks.count = 0)⟩
                notes := notes } } ∧
        notes.start = 24 * beat ∧ notes.planned = s.out.stopImage := by
  let begun : State :=
    { s with
      store.marks := ⟨.running, h.sectionOf beat, 0, [], none, 24 * beat, false⟩
      store.notes := ⟨.running, h.sectionOf beat, 0, [], none, 24 * beat, s.out.stopImage, false, false, false, false⟩ }
  have started : startReaders beat s = settleNotes (settleMarks begun) := by simp only [startReaders, header, begun]
  obtain ⟨hymn, loaded, rfl⟩ := Option.map_eq_some_iff.1 header
  rw [started]
  rcases Nat.eq_zero_or_pos hymn.header.marks.count with zero | marks
  · have ended := settleMarks_of_end (s := begun) loaded rfl rfl rfl free (by simp [zero]) (.inr zero)
    obtain ⟨port, notes, settled, kept⟩ := settleNotes_eq (settleMarks begun)
    refine ⟨port, notes, ?_, ?_⟩
    · rw [settled, ended]
      simp [begun, zero]
    · rwa [ended] at kept
  · obtain ⟨_, asked⟩ := settleMarks_of_block (s := begun) loaded rfl rfl rfl free (by simpa [begun] using marks)
    obtain ⟨port, notes, settled, kept⟩ := settleNotes_eq (settleMarks begun)
    refine ⟨port, notes, ?_, ?_⟩
    · rw [settled, asked]
      simp [begun, marks.ne']
    · rwa [asked] at kept

/-! ## Seeks (R56, R76) -/

/-- The stop image stands as the table is emptied with firing (R165). -/
theorem emptyFired_stopImage (s : State) : (emptyFired s).out.stopImage = s.out.stopImage := by simp only [emptyFired, releaseCoils]

theorem readersReady_of_marks {s : State} (queue : s.store.queue = []) (more : s.store.marks.ended = false) : readersReady s = false := by
  simp [readersReady, queue, more, Config.markCapacity]

/-- With the marks ended and no division to read, the readers are ready (R46, R52). -/
theorem readersReady_of_ended {h : Header} {s : State} (header : s.header = some h) (ended : s.store.marks.ended = true)
    (silent : s.readDivision = none) : readersReady s = true := by
  simp [readersReady, notesWait, header, ended, silent]

theorem completeSeek_of_waiting {s : State} (waiting : readersReady s = false) : completeSeek s = s := by
  unfold completeSeek
  split <;> simp [waiting]

/-- The seek of a join completes the join (R56, R76). -/
theorem completeSeek_of_join {n beat : Nat} {j : JoinAnchor} {s : State} (seek : s.store.seek = some beat) (ready : readersReady s = true)
    (state : s.play.state = .loaded) (join : s.play.join = some ⟨n, some j⟩) :
    completeSeek s = joinComplete j { s with store.seek := none } := by
  simp only [completeSeek, seek, ready, state, join, if_true]

/-- A seek with marks to read stands with its readers set up (R56). -/
theorem beginSeek_of_marks {h : Header} {s : State} (beat : Nat) (header : s.header = some h) (marks : 0 < h.marks.count) :
    ∃ port notes,
      beginSeek beat s =
          { emptyFired s with
            store :=
              { s.store with
                port := port, marks := ⟨.running, h.sectionOf beat, 0, [], none, 24 * beat, false⟩, queue := [], notes := notes
                seek := some beat } } ∧
        notes.start = 24 * beat ∧ notes.planned = s.out.stopImage := by
  let sought : State := { emptyFired s with store := { s.store with port := s.store.port.abandonAll, queue := [], seek := some beat } }
  obtain ⟨port, notes, started, start, planned⟩ := startReaders_eq (s := sought) beat header (abandonAll_awaits _ _)
  have begun : beginSeek beat s = completeSeek (startReaders beat sought) := rfl
  rw [decide_eq_false marks.ne'] at started
  rw [begun, started]
  exact ⟨port, notes, completeSeek_of_waiting (readersReady_of_marks rfl rfl), start, planned.trans (emptyFired_stopImage s)⟩

/-- The seek of a join with nothing to read completes the join at once (R56, R76). -/
theorem beginSeek_of_nothing {h : Header} {n : Nat} {j : JoinAnchor} {s : State} (beat : Nat) (header : s.header = some h)
    (marks : h.marks.count = 0) (silent : s.readDivision = none) (state : s.play.state = .loaded)
    (join : s.play.join = some ⟨n, some j⟩) :
    ∃ store, beginSeek beat s = joinComplete j { emptyFired s with store := store } ∧ store.hymn = s.store.hymn ∧ store.seek = none := by
  let sought : State := { emptyFired s with store := { s.store with port := s.store.port.abandonAll, queue := [], seek := some beat } }
  have begun : beginSeek beat s = completeSeek (startReaders beat sought) := rfl
  obtain ⟨store, started, hymn, ended, seek⟩ : ∃ store : ScoreStore, startReaders beat sought = { sought with store := store } ∧
      store.hymn = s.store.hymn ∧ store.marks.ended = true ∧ store.seek = some beat := by
    obtain ⟨port, notes, started, -⟩ := startReaders_eq (s := sought) beat header (abandonAll_awaits _ _)
    exact ⟨_, started, rfl, decide_eq_true marks, rfl⟩
  have held : State.header { sought with store := store } = some h := by
    exact (congrArg (Option.map Hymn.header) hymn).trans header
  rw [begun, started, completeSeek_of_join seek (readersReady_of_ended held ended silent) state join]
  exact ⟨_, rfl, hymn, rfl⟩

end Sys2Proof.Machine
end

section
/-! The claims of two peers for one hymn, and the join made from them (R75, R76, R87). -/

namespace Sys2Proof.Machine

/-! ## Two elements of a list -/

theorem filterMap_eq_singleton {α β : Type} {f : α → Option β} {x : β} {l : List α} {i : Nat} (bound : i < l.length)
    (here : f l[i] = some x) (others : ∀ k (_ : k < l.length), k ≠ i → f l[k] = none) : l.filterMap f = [x] := by
  induction l generalizing i with
  | nil => cases bound
  | cons a l ih =>
    cases i with
    | zero =>
      have rest : l.filterMap f = [] := by
        refine List.filterMap_eq_nil_iff.2 fun b mem => ?_
        obtain ⟨k, short, rfl⟩ := List.mem_iff_getElem.1 mem
        exact others (k + 1) (Nat.succ_lt_succ short) (Nat.succ_ne_zero k)
      have head : f a = some x := here
      rw [List.filterMap_cons_some head, rest]
    | succ i =>
      have head : f a = none := others 0 (Nat.succ_pos _) (Nat.succ_ne_zero i).symm
      rw [List.filterMap_cons_none head]
      exact ih (Nat.lt_of_succ_lt_succ bound) here fun k short off => others (k + 1) (Nat.succ_lt_succ short) (by omega)

theorem filterMap_eq_pair {α β : Type} {f : α → Option β} {x y : β} {l : List α} {i j : Nat} (order : i < j) (bound : j < l.length)
    (first : f l[i] = some x) (second : f l[j] = some y) (others : ∀ k (_ : k < l.length), k ≠ i → k ≠ j → f l[k] = none) :
    l.filterMap f = [x, y] := by
  induction l generalizing i j with
  | nil => cases bound
  | cons a l ih =>
    obtain ⟨j, rfl⟩ := Nat.exists_eq_succ_of_ne_zero (Nat.ne_zero_of_lt order)
    have inside := Nat.lt_of_succ_lt_succ bound
    cases i with
    | zero =>
      have rest : l.filterMap f = [y] := filterMap_eq_singleton inside second fun k short off =>
        others (k + 1) (Nat.succ_lt_succ short) (Nat.succ_ne_zero k) (by omega)
      have head : f a = some x := first
      rw [List.filterMap_cons_some head, rest]
    | succ i =>
      have head : f a = none := others 0 (Nat.succ_pos _) (Nat.succ_ne_zero i).symm (Nat.succ_ne_zero j).symm
      rw [List.filterMap_cons_none head]
      exact ih (Nat.lt_of_succ_lt_succ order) inside first second fun k short offFirst offSecond =>
        others (k + 1) (Nat.succ_lt_succ short) (by omega) (by omega)

/-! ## The claims that count (R75, R76) -/

theorem countingClaim_of {s : State} {n : Nat} {p : Peer} {c : Claim} (present : p.present = true) (claim : p.claim = some c)
    (hymn : c.fields.hymn = n) (low : 1 ≤ n) (high : n ≤ 1023) (barred : s.play.barred ≠ some n) (confident : 4 ≤ c.fields.confidence)
    (recent : since s.now c.heard ≤ 2 * c.fields.period) : countingClaim s n p = some c := by
  simp [countingClaim, Option.filter, present, claim, hymn, low, high, barred, confident, recent]

theorem countingClaim_claim {s : State} {n : Nat} {p : Peer} {c : Claim} (counts : countingClaim s n p = some c) :
    p.claim = some c ∧ c.fields.hymn = n := by
  unfold countingClaim at counts
  split at counts
  · obtain ⟨claim, test⟩ := Option.filter_eq_some_iff.1 counts
    simp only [Bool.and_eq_true, beq_iff_eq] at test
    exact ⟨claim, test.1.1.1.1.1⟩
  · cases counts

/-- In the list of the peer table too, no third peer holds a claim. -/
theorem claim_of_third {v : Vector Peer 16} {p q : Station} (others : ∀ r : Station, r ≠ p → r ≠ q → (v[r]).claim = none) (k : Nat)
    (short : k < v.toList.length) (offFirst : k ≠ p) (offSecond : k ≠ q) : (v.toList[k]).claim = none := by
  have station : k < 16 := by simpa using short
  simpa using others ⟨k, station⟩ (fun e => offFirst (congrArg Fin.val e)) fun e => offSecond (congrArg Fin.val e)

theorem countingClaim_of_no_claim {s : State} {n : Nat} {p : Peer} (claim : p.claim = none) : countingClaim s n p = none := by
  simp [countingClaim, claim]

section

variable {s : State} {n : Nat} {p q : Station} {c d : Claim} (order : p < q) (first : countingClaim s n s.gather.peers[p] = some c)
  (second : countingClaim s n s.gather.peers[q] = some d) (others : ∀ r, r ≠ p → r ≠ q → (s.gather.peers[r]).claim = none)
include order first second others

/-- Two peers' claims count, in rising station number. -/
theorem countingClaims_pair : countingClaims s n = [c, d] := by
  refine filterMap_eq_pair (i := p) (j := q) order (by simp) (by simpa using first) (by simpa using second) fun k short offFirst offSecond =>
    countingClaim_of_no_claim (claim_of_third others k short offFirst offSecond)

/-- The hymn that both claims name is the one hymn a request is formed for (R75). -/
theorem joinHymns_pair : joinHymns s = [n] := by
  obtain ⟨firstHeld, firstNames⟩ := countingClaim_claim first
  obtain ⟨secondHeld, secondNames⟩ := countingClaim_claim second
  have named : s.gather.peers.toList.filterMap (fun p => p.claim.map (·.fields.hymn)) = [n, n] := by
    refine filterMap_eq_pair (i := p) (j := q) order (by simp) ?_ ?_ fun k short offFirst offSecond => ?_
    · simpa [firstNames] using congrArg (Option.map (·.fields.hymn)) firstHeld
    · simpa [secondNames] using congrArg (Option.map (·.fields.hymn)) secondHeld
    · exact congrArg (Option.map (·.fields.hymn)) (claim_of_third others k short offFirst offSecond)
  simp [joinHymns, named, countingClaims_pair order first second others]

/-- The claim of the higher confidence is chosen, of equals the lower station's (R76). -/
theorem chooseClaim_pair : chooseClaim s n = some (if c.fields.confidence < d.fields.confidence then d else c) := by
  rw [chooseClaim, countingClaims_pair order first second others]
  simp only [leastBy, decide_eq_true_eq, apply_ite some]

end

/-! ## The join (R75, R76) -/

/-- A request formed for the one hymn that counts (R75). -/
theorem testJoin_of_one {s : State} {n : Nat} (state : s.play.state = .idle ∨ s.play.state = .loaded) (free : s.play.join = none)
    (one : joinHymns s = [n]) :
    testJoin s =
      if s.loadedNumber = some n then joinStart n { s with play.join := some ⟨n, none⟩ }
      else beginLoad n { s with play.join := some ⟨n, none⟩ } := by
  unfold testJoin
  rw [if_pos ⟨state, free⟩, one]

theorem testJoin_of_busy {s : State} (busy : s.play.state ≠ .idle ∧ s.play.state ≠ .loaded ∨ s.play.join.isSome = true) :
    testJoin s = s := by
  refine if_neg ?_
  rintro ⟨state, free⟩
  rcases busy with ⟨awake, unloaded⟩ | standing
  · exact state.elim awake unloaded
  · simp [free] at standing

section

variable {s : State} {n : Nat} {c : Claim} {h : Header} (chosen : chooseClaim s n = some c) (header : s.header = some h)
include chosen header

/-- Near the hymn's end the join is given up (R76). -/
theorem joinStart_of_late (late : h.endBeat ≤ c.fields.beat + 2 + 2) : joinStart n s = { s with play.join := none } := by
  simp only [joinStart, chosen, header]
  exact if_pos late

/-- Else a seek goes two beats past the claim (R76). -/
theorem joinStart_of_early (early : c.fields.beat + 2 + 2 < h.endBeat) :
    joinStart n s =
      beginSeek (c.fields.beat + 2)
        { s with
          play.join := some ⟨n, some ⟨c.fields.beat, c.beatTime, h.clampPeriod c.fields.period, c.fields.beat + 2⟩⟩ } := by
  simp only [joinStart, chosen, header]
  exact if_neg (not_le.2 early)

end

/-! ## A PULSE frame taken (R14, R19, R87) -/

theorem pulseFrom_of_late {w : WireFrame} {fields : PulseFields} {s : State} (late : 2000 < w.age) :
    pulseFrom w fields s = hearPeer w.sender s := if_pos late

/-- Within the age limit the sender's claim is replaced and the join trigger tested. -/
theorem pulseFrom_of_fresh {w : WireFrame} {fields : PulseFields} {s : State} (fresh : w.age ≤ 2000) :
    pulseFrom w fields s =
      testJoin
        { s with
          gather.peers :=
            s.gather.peers.set w.sender
              ⟨true, s.line.markLatch,
                if (s.gather.peers[w.sender]).present then (s.gather.peers[w.sender]).weight else min s.cfg.peerDefault s.cfg.weightMax,
                some ⟨fields, s.line.markLatch - BitVec.ofNat 32 w.age, s.line.markLatch⟩⟩ } := by
  refine (if_neg (not_lt.2 fresh)).trans (congrArg testJoin ?_)
  simp [storeClaim, hearPeer_eq, eventTimeOf]

/-! ## The marks of a block below a seek's target (R50, R56) -/

/-- Records of a verse that are valid and in order, all of them below the place a seek discards below. -/
structure MarkReader.Passing (h : Header) (m : MarkReader) : Prop where
  running : m.phase = .running
  verse : 1 ≤ m.sect
  valid : ∀ x ∈ m.buffer, x.passes h.length
  below : ∀ x ∈ m.buffer, 24 * (h.verseStart m.sect + x.beat) + x.sub < m.discardBelow
  after : ∀ p, m.lastValid = some p → ∀ x ∈ m.buffer, p < 24 * x.beat + x.sub
  sorted : m.buffer.Pairwise fun x y => 24 * x.beat + x.sub < 24 * y.beat + y.sub

/-- The mark reader past the record at the head of its buffer. -/
def MarkReader.past (m : MarkReader) (r : MarkRecord) : MarkReader :=
  { m with buffer := m.buffer.tail, lastValid := some (versePosition r.beat r.sub) }

theorem MarkReader.Passing.past {h : Header} {m : MarkReader} {r : MarkRecord} {rest : List MarkRecord} (passing : m.Passing h)
    (buffer : m.buffer = r :: rest) : (m.past r).Passing h := by
  obtain ⟨running, verse, valid, below, -, sorted⟩ := passing
  rw [buffer] at valid below sorted
  have tail : (m.past r).buffer = rest := by simp [MarkReader.past, buffer]
  rw [List.pairwise_cons] at sorted
  refine ⟨running, verse, ?_, ?_, ?_, ?_⟩ <;> rw [tail]
  · exact fun x mem => valid x (List.mem_cons_of_mem r mem)
  · exact fun x mem => below x (List.mem_cons_of_mem r mem)
  · rintro p last x mem
    cases last
    exact sorted.1 x mem
  · exact sorted.2

theorem markGood_of_passes {h : Header} {last : Option Nat} {r : MarkRecord} (passes : r.passes h.length)
    (after : ∀ p, last = some p → p < 24 * r.beat + r.sub) : markGood h last r = true := by
  obtain ⟨flagged, beat, sub, hold⟩ := passes
  have hold_fits : r.hold = false ∨ ((1 ≤ r.holdOffset ∧ r.holdOffset ≤ 191) ∧ 1 ≤ r.holdBeats) ∧ r.holdBeats ≤ 8 := by
    cases held : r.hold
    · exact .inl rfl
    · obtain ⟨low, high, one, eight⟩ := hold held
      exact .inr ⟨⟨⟨low, high⟩, one⟩, eight⟩
  have order : last.all (fun p => decide (p < versePosition r.beat r.sub)) = true := by
    cases last with
    | none => rfl
    | some p => exact decide_eq_true (after p rfl)
  simp only [markGood, Bool.and_eq_true, Bool.or_eq_true, decide_eq_true_eq, Bool.not_eq_true']
  exact ⟨⟨⟨⟨or_assoc.2 flagged, beat⟩, sub⟩, hold_fits⟩, order⟩

/-- A record below the target is passed over (R56). -/
theorem markStep_of_passing {h : Header} {s : State} {r : MarkRecord} {rest : List MarkRecord} (header : s.header = some h)
    (queue : s.store.queue = []) (passing : s.store.marks.Passing h) (buffer : s.store.marks.buffer = r :: rest) :
    markStep s = some { s with store.marks := s.store.marks.past r } := by
  obtain ⟨running, verse, valid, below, after, -⟩ := passing
  rw [buffer] at valid below after
  have mem : r ∈ r :: rest := List.mem_cons_self
  have good := markGood_of_passes (valid r mem) fun p last => after p last r mem
  have place : h.place s.store.marks.sect r.beat r.sub < s.store.marks.discardBelow := by
    rw [Header.place, if_neg (by omega)]
    exact below r mem
  have later : s.store.marks.sect ≠ 0 := by omega
  simp [markStep, header, buffer, running, queue, Config.markCapacity, later, good, place, MarkReader.past]

/-- A block all below the target is passed over to its end (R50, R56). -/
theorem iterate_markStep_of_passing {h : Header} {s : State} {fuel : Nat} (header : s.header = some h) (queue : s.store.queue = [])
    (passing : s.store.marks.Passing h) (enough : s.store.marks.buffer.length ≤ fuel) :
    ∃ last, iterate markStep fuel s = { s with store.marks := { s.store.marks with buffer := [], lastValid := last } } := by
  induction fuel generalizing s with
  | zero =>
    have spent := List.eq_nil_of_length_eq_zero (Nat.le_zero.1 enough)
    exact ⟨s.store.marks.lastValid, by rw [← spent]; rfl⟩
  | succ fuel ih =>
    cases buffer : s.store.marks.buffer with
    | nil =>
      have waits : markStep s = none := by simp [markStep, header, buffer]
      refine ⟨s.store.marks.lastValid, ?_⟩
      rw [← buffer, iterate, waits]
    | cons r rest =>
      rw [buffer] at enough
      obtain ⟨last, e⟩ := ih (s := { s with store.marks := s.store.marks.past r }) header queue (passing.past buffer)
        (by simpa [MarkReader.past, buffer] using enough)
      refine ⟨last, ?_⟩
      rw [iterate, markStep_of_passing header queue passing buffer]
      exact e

end Sys2Proof.Machine
end

section
/-! The join begun by a PULSE frame, and completed by the last mark block of its seek (R75, R76, R87). -/

namespace Sys2Proof.Machine

/-- The entry written in the peer table is the one read for its station, and every other stands. -/
theorem peers_set_self (v : Vector Peer 16) (p : Station) (x : Peer) : (v.set p x)[p] = x := Vector.getElem_set_self _

theorem peers_set_other (v : Vector Peer 16) {p r : Station} (x : Peer) (off : r ≠ p) : (v.set p x)[r] = v[r] :=
  Vector.getElem_set_ne _ _ fun e => off (Fin.ext e.symm)

/-- Two peers' claims for a hymn form its request and give the claim the join is made from (R75, R76). -/
theorem two_claims {s : State} {n : Nat} {p q : Station} {c d : Claim} (off : q ≠ p) (own : countingClaim s n s.gather.peers[p] = some c)
    (other : countingClaim s n s.gather.peers[q] = some d) (others : ∀ r, r ≠ q → r ≠ p → (s.gather.peers[r]).claim = none) :
    joinHymns s = [n] ∧
      chooseClaim s n =
        some (if c.fields.confidence < d.fields.confidence ∨ d.fields.confidence = c.fields.confidence ∧ q < p then d else c) := by
  rcases lt_or_gt_of_ne off with lower | higher
  · refine ⟨joinHymns_pair lower other own others, (chooseClaim_pair lower other own others).trans (congrArg some ?_)⟩
    by_cases more : d.fields.confidence < c.fields.confidence
    · rw [if_pos more, if_neg (by omega)]
    · rw [if_neg more, if_pos ((lt_or_eq_of_le (not_lt.1 more)).imp_right fun same => ⟨same.symm, lower⟩)]
  · have others' (r : Station) (offOwn : r ≠ p) (offOther : r ≠ q) := others r offOther offOwn
    refine ⟨joinHymns_pair higher own other others', (chooseClaim_pair higher own other others').trans (congrArg some ?_)⟩
    simp only [not_lt_of_gt higher, and_false, or_false]

/-- The end of the hymn is two beats past the last beat a join is made for (R76). -/
theorem endBeat_le_iff (h : Header) (target : Nat) : h.endBeat ≤ target + 2 ↔ h.verseStart h.verses + h.length - 2 ≤ target := by
  rw [Header.endBeat]
  omega

/-! ## The last mark block of a seek (R40, R50, R56) -/

/-- The one read in flight completes: the port is free again, and the data are handed on (R40). -/
theorem completeRead_of_only {units : List FlashUnit} {bytes : List Byte} {r : FlashRead} (use : State → State) {s : State}
    (port : s.store.port = .only r) (asked : r.unit ∈ units) (length : r.length = bytes.length) :
    completeRead units bytes use s = .next (use { s with store.port := .initial }) := by
  have completes : s.store.port.completes units bytes.length = true := by
    simp [FlashPort.completes, port, FlashPort.only, asked, length]
  have kept : s.store.port.abandoned = false := by rw [port]; rfl
  have free : s.store.port.done = .initial := by rw [port]; rfl
  refine (act_of_due completes).trans (congrArg Host.Outcome.next ?_)
  rw [if_neg (ne_true_of_eq_false kept), free]

theorem moving_of_loaded {s : State} (state : s.play.state = .loaded) : s.moving = false := by simp [State.moving, state]

theorem inPlay_of_loaded {s : State} (state : s.play.state = .loaded) : s.inPlay = false := by
  simp [State.inPlay, moving_of_loaded state, state]

theorem testExhausted_of_still {s : State} (still : s.moving = false) : testExhausted s = s := by simp [testExhausted, still]

/-- In LOADED, with no load in progress, the mark reader taken on leaves the seek to be looked at (R56). -/
theorem runMarks_of_settled {s t : State} (settled : settleMarks (iterate markStep 40 s) = t) (state : t.play.state = .loaded)
    (loader : t.store.loader = .idle) : runMarks s = completeSeek t := by
  unfold runMarks
  rw [settled]
  dsimp only
  rw [if_neg (ne_true_of_eq_false (inPlay_of_loaded state)), testExhausted_of_still (moving_of_loaded state)]
  exact if_neg (by simp [loader])

/-- The last records of the stream passed over in LOADED: the marks have ended, and the seek is looked at (R50, R56). -/
theorem runMarks_of_passing {h : Header} {s : State} (header : s.header = some h) (queue : s.store.queue = [])
    (passing : s.store.marks.Passing h) (few : s.store.marks.buffer.length ≤ 16) (more : s.store.marks.ended = false)
    (free : s.store.port.awaits .markBlock = false) (read : h.marks.count ≤ 16 * s.store.marks.block) (last : h.verses ≤ s.store.marks.sect)
    (state : s.play.state = .loaded) (loader : s.store.loader = .idle) :
    ∃ marks : MarkReader, runMarks s = completeSeek { s with store.marks := marks } ∧ marks.ended = true := by
  obtain ⟨hymn, loaded, rfl⟩ := Option.map_eq_some_iff.1 header
  obtain ⟨lastValid, passed⟩ := iterate_markStep_of_passing (fuel := 40) header queue passing (by omega)
  have ended := settleMarks_of_end (s := { s with store.marks := { s.store.marks with buffer := [], lastValid := lastValid } }) loaded
    passing.running rfl more free read (.inl last)
  exact ⟨{ s.store.marks with buffer := [], lastValid := lastValid, ended := true },
    runMarks_of_settled ((congrArg settleMarks passed).trans ended) state loader, rfl⟩

/-- A block whose check passes is taken into the buffer (R50). -/
theorem takeMarkBlock_of_checked {bytes : List Byte} {s : State} (check : checked bytes = true) :
    takeMarkBlock bytes s =
      runMarks { s with store.marks := { s.store.marks with block := s.store.marks.block + 1, buffer := (blockWords 4 bytes).map parseMark } } :=
  if_pos check

end Sys2Proof.Machine
end

section

open Sys2Proof Sys2Proof.Machine

/-- Settles O27: a PULSE frame by its age, the play state and the claims of two peers; a join completed at once, or by the block that ends its
seek. -/
theorem pulseClaimStored : Obligations.PulseClaimStored := by
  unfold Obligations.PulseClaimStored
  constructor
  · intro bytes w fields s running off framing awake judged other body ended old weight claim peers
    have taken : execPulseReceived bytes s = .next (pulseFrom w fields (endOfFrame bytes s)) := by
      have frame := peerFrame_of_valid (receiving_of running off framing) judged other
      exact (execPulseReceived_of_frame frame body).trans (by rw [if_neg (by simp [awake])])
    let heard : State := { s with line := ended, gather.peers := peers }
    have stored (fresh : w.age ≤ 2000) : execPulseReceived bytes s = .next (testJoin heard) :=
      taken.trans (congrArg _ (pulseFrom_of_fresh fresh))
    refine ⟨fun late => ?_, fun fresh busy => ?_, ?_⟩
    · exact taken.trans (congrArg _ ((pulseFrom_of_late late).trans (hearPeer_eq _ _)))
    · exact (stored fresh).trans (congrArg _ (testJoin_of_busy (s := heard) busy))
    intro q d off present held others fresh free barred low high same confident confident' recent recent'
    have own : countingClaim heard fields.hymn peers[w.sender] = some claim := by
      rw [peers_set_self]
      exact countingClaim_of rfl rfl rfl low high barred confident recent
    have theirs : countingClaim heard fields.hymn peers[q] = some d := by
      rw [peers_set_other _ _ off]
      exact countingClaim_of present held same low high barred confident' recent'
    have no_third (r : Station) (offOther : r ≠ q) (offOwn : r ≠ w.sender) : (peers[r]).claim = none := by
      rw [peers_set_other _ _ offOwn]
      exact others r offOther offOwn
    obtain ⟨one, -⟩ := two_claims (s := heard) off own theirs no_third
    let asked : State := { heard with play.join := some ⟨fields.hymn, none⟩ }
    obtain ⟨-, choice⟩ := two_claims (s := asked) off own theirs no_third
    refine ⟨fun idle unloaded => ?_, fun h state loaded header => ?_⟩
    · have formed := (testJoin_of_one (s := heard) (.inl idle) free one).trans (if_neg (by exact unloaded ▸ nofun))
      exact ⟨beginLoad fields.hymn asked, (stored fresh).trans (congrArg _ formed), rfl, rfl, rfl, rfl, rfl, rfl⟩
    intro chosen target anchor last
    have formed :=
      (stored fresh).trans (congrArg Host.Outcome.next ((testJoin_of_one (s := heard) (.inr state) free one).trans (if_pos loaded)))
    let joining : State := { heard with play.join := some ⟨fields.hymn, some anchor⟩ }
    have sought (early : target < last) : execPulseReceived bytes s = .next (beginSeek target joining) :=
      have before : target + 2 < h.endBeat := not_le.1 fun late => not_le.2 early ((endBeat_le_iff h _).1 late)
      formed.trans (congrArg _ (joinStart_of_early (s := asked) choice header before))
    refine ⟨fun late => ?_, fun early marks => ?_, fun early marks silent => ?_⟩
    · refine (formed.trans (congrArg _ (joinStart_of_late (s := asked) choice header ((endBeat_le_iff h _).2 late)))).trans ?_
      have unchanged : { s.play with join := none } = s.play := by rw [← free]
      exact congrArg (fun play => Host.Outcome.next { heard with play := play }) unchanged
    · obtain ⟨port, notes, begun, start, planned⟩ := beginSeek_of_marks (s := joining) target header marks
      refine ⟨_, (sought early).trans (congrArg _ begun), ?_⟩
      exact ⟨rfl, rfl, rfl, rfl, rfl, rfl, start, planned, rfl, rfl, rfl, rfl, rfl⟩
    · obtain ⟨store, begun, hymn, seek⟩ := beginSeek_of_nothing (s := joining) target header marks silent state rfl
      have held' : State.header { emptyFired joining with store := store } = some h :=
        (congrArg (Option.map Hymn.header) hymn).trans header
      obtain ⟨play, ruling, nextBeat, -, -, -, sticky, culprit, latches, playStart, seek', hymn', pass, line, -⟩ :=
        joinComplete_joined anchor held'
      refine ⟨_, (sought early).trans (congrArg _ begun), play, ruling, nextBeat, sticky, culprit, latches, playStart, ?_⟩
      exact ⟨seek'.trans seek, hymn'.trans hymn, pass, line⟩
  · intro bytes r h n target j s port unit length state join seek loader silent header running sect verses buffer more read check below passes
      after sorted few queue
    let records := (blockWords 4 bytes).map parseMark
    let marks : MarkReader := { s.store.marks with block := s.store.marks.block + 1, buffer := records }
    let taken : State := { s with store := { s.store with port := .initial, marks := marks } }
    have passing : marks.Passing h := by
      refine ⟨running, sect ▸ verses, passes, ?_, after, sorted⟩
      intro x mem
      have := below x mem
      rwa [← sect] at this
    obtain ⟨settled, ran, ended⟩ :=
      runMarks_of_passing (s := taken) header queue passing (by simpa [taken, marks, records] using few) more rfl read sect.ge state loader
    let found : State := { taken with store.marks := settled }
    have executed : execMarkBlockRead bytes s = .next (joinComplete j { found with store.seek := none }) := by
      refine (completeRead_of_only _ port (by simp [unit]) length).trans (congrArg _ ?_)
      refine (takeMarkBlock_of_checked check).trans (ran.trans ?_)
      exact completeSeek_of_join (s := found) seek (readersReady_of_ended (s := found) header ended silent) state join
    exact ⟨_, executed, joinComplete_joined (s := { found with store.seek := none }) j header⟩

end

section
/-! Samples and blocks (R22 to R36): what the edges at the port read, what a sample adds to its block, and what a completed block leaves. -/

namespace Sys2Proof.Machine

/-! ## The edges at the port (R23) -/

/-- Bits outside a sample are ignored. -/
theorem readPort_outside (outside : List Bool) (edges : List SoundEdge) :
    readPort none (outside.map .bit ++ edges) = readPort none edges := by
  induction outside with
  | nil => rfl
  | cons b outside ih => exact ih

/-- The bits of a sample that is not complete yet are kept. -/
theorem readPort_short {before short : List Bool} (few : before.length + short.length < 16) (edges : List SoundEdge) :
    readPort (some before) (short.map .bit ++ edges) = readPort (some (before ++ short)) edges := by
  induction short generalizing before with
  | nil => simp
  | cons b short ih =>
    simp only [List.length_cons] at few
    have early : before.length < 15 := by omega
    have rest := ih (before := before ++ [b]) (by simp; omega)
    simpa [readPort, early] using rest

/-- A word sync edge begins a sample, whatever stood before it. -/
theorem readPort_wordSync (before : Option (List Bool)) (edges : List SoundEdge) :
    readPort before (.wordSync :: edges) = readPort (some []) edges := by
  cases before <;> rfl

/-- Samples cut short by the next word sync edge are discarded. -/
theorem readPort_cut {cut : List (List Bool)} (short : ∀ bits ∈ cut, bits.length < 16) (before : Option (List Bool))
    (edges : List SoundEdge) :
    readPort before (cut.flatMap (fun bits => .wordSync :: bits.map .bit) ++ .wordSync :: edges) = readPort (some []) edges := by
  induction cut generalizing before with
  | nil => exact readPort_wordSync before edges
  | cons bits cut ih =>
    simp only [List.flatMap_cons, List.append_assoc, List.cons_append]
    rw [readPort_wordSync, readPort_short (by simpa using short bits List.mem_cons_self)]
    exact ih (fun bits mem => short bits (List.mem_cons_of_mem _ mem)) _

/-- What the edges read that bring a sample (R23). -/
theorem readPort_portEdges_of_cut {outside bits : List Bool} {cut : List (List Bool)} (short : ∀ bits ∈ cut, bits.length < 16)
    (sixteen : bits.length = 16) : readPort none (portEdges outside cut bits) = some bits := by
  unfold portEdges
  rw [List.append_assoc, readPort_outside, readPort_cut short]
  exact readPort_bits (before := []) (by simpa using sixteen) (by rintro rfl; cases sixteen)

/-- While the front end is not active, and of a word sync edge before the port was read, no sample is taken (R36, log 46). -/
theorem execSampleTaken_of_unread {edges : List SoundEdge} {ago : Nat} {s : State}
    (unread : s.listening = false ∨ s.front.portTicks < ago) : execSampleTaken edges ago s = .next s := by
  unfold execSampleTaken
  split
  · rfl
  · refine act_of_not_due ?_
    rcases unread with deaf | early
    · simp [deaf]
    · simp [early]

/-! ## A sample and its block (R24, R35) -/

/-- The front end with a sample added to its block (R24, R35). -/
def FrontEnd.sampled (f : FrontEnd) (sample : BitVec 16) (stamp now : Time) : FrontEnd :=
  { f with block := f.block.add sample stamp, lastSample := now, lossReported := false, portTicks := 0 }

/-- A front end judged, with the envelope of the completed block entered in the history and the window that stood before (R25, R31). -/
def FrontEnd.entered (f : FrontEnd) (envelope : Nat) : FrontEnd :=
  { f with
    block := ⟨0, 0, 0⟩, history := (f.history ++ [envelope]).drop (f.history.length + 1 - 4)
    window := (f.window ++ [envelope]).drop (f.window.length + 1 - 32) }

theorem takeSample_of_open {x : BitVec 16} {stamp : Time} {s : State} (room : s.front.block.count < 63) :
    takeSample x stamp s = { s with front := s.front.sampled x stamp s.now } := by
  refine if_neg ?_
  simp only [Block.add, Config.blockSamples]
  omega

theorem takeSample_of_full {x : BitVec 16} {stamp : Time} {s : State} (full : s.front.block.count = 63) :
    takeSample x stamp s =
      completeBlock (s.front.block.add x stamp) { s with front := s.front.sampled x stamp s.now } := by
  refine if_pos ?_
  simp [Block.add, full, Config.blockSamples]

/-! ## The detector (R26 to R30) -/

/-- The front end without what the detector writes. -/
def FrontEnd.unjudged (f : FrontEnd) : FrontEnd := { f with detector := .quiet, candidate := none, peak := 0, refractory := none }

theorem settleOnset_unjudged (c : Configuration) (start : Time) (first base count largest : Nat) (f : FrontEnd) :
    (settleOnset c start first base count largest f).1.unjudged = f.unjudged := by
  unfold settleOnset
  split <;> rfl

theorem settleRelease_unjudged (c : Configuration) (start : Time) (peak count : Nat) (f : FrontEnd) :
    (settleRelease c start peak count f).1.unjudged = f.unjudged := by
  unfold settleRelease
  split <;> rfl

theorem testOnset_unjudged (c : Configuration) (start : Time) (envelope : Nat) (f : FrontEnd) :
    (testOnset c start envelope f).1.unjudged = f.unjudged := by
  unfold testOnset
  extract_lets idle
  split
  · rfl
  · split
    · exact settleOnset_unjudged _ _ _ _ _ _ _
    · rfl

/-- The detector writes its state, the candidate, the peak and the refractory expiry, and nothing else of the front end (R26 to R30). -/
theorem detect_unjudged (c : Configuration) (start : Time) (envelope : Nat) (f : FrontEnd) :
    (detect c start envelope f).1.unjudged = f.unjudged := by
  unfold detect
  split
  · split
    · split
      · exact settleOnset_unjudged _ _ _ _ _ _ _
      · exact testOnset_unjudged _ _ _ _
    · exact testOnset_unjudged _ _ _ _
  · dsimp only
    split
    · split
      · exact settleRelease_unjudged _ _ _ _ _
      · rfl
    · split
      · exact settleRelease_unjudged _ _ _ _ _
      · rfl

/-! ## A completed block (R24, R25, R31, R32) -/

@[simp] theorem endChecks_front (s : State) : (endChecks s).front = s.front := by
  unfold endChecks
  split
  · split <;> rfl
  · rfl

@[simp] theorem passSoundCheck_front (s : State) : (passSoundCheck s).front = s.front := by
  unfold passSoundCheck
  split
  · exact endChecks_front _
  · rfl

@[simp] theorem silence_front (s : State) : (silence s).front = s.front := by
  rcases silence_cases s with ⟨-, e⟩ | ⟨-, e⟩ | ⟨-, -, e⟩ <;> rw [e]
  rfl

@[simp] theorem latchAndReport_front (ch : FaultNo) (s : State) : (latchAndReport ch s).front = s.front := by
  rcases latchAndReport_cases ch s with ⟨-, e⟩ | ⟨-, e⟩ <;> rw [e]
  rfl

@[simp] theorem raiseFault_front (ch : FaultNo) (s : State) : (raiseFault ch s).front = s.front := by
  rcases raiseFault_cases ch s with ⟨-, e⟩ | ⟨-, -, ⟨-, e⟩ | ⟨-, e⟩ | ⟨-, -, e⟩ | ⟨-, -, e⟩⟩ <;> rw [e]
  · exact latchAndReport_front ch s
  · rcases leadReaction_cases (latchAndReport ch s) with e | ⟨p, e, -⟩ <;> rw [e] <;> exact latchAndReport_front ch s
  · rfl
  · rw [silence_front]
    rcases nameSilencing_cases ch s (latchAndReport ch s) with e | e <;> rw [e] <;> exact latchAndReport_front ch s

@[simp] theorem exceptionDefault_front (e : FollowerException) (s : State) : (exceptionDefault e s).front = s.front := by
  unfold exceptionDefault
  split
  · rfl
  · dsimp only
    split <;> rfl
  · rfl

@[simp] theorem takeException_front (e : FollowerException) (c : Option (Station × BitVec 8)) (s : State) :
    (takeException e c s).front = s.front := by
  rcases takeException_cases e c s with ⟨-, h⟩ | ⟨-, ⟨-, h⟩ | ⟨-, h⟩⟩ <;> rw [h]
  · exact exceptionDefault_front _ _
  · rw [raiseFault_front]
    split <;> exact exceptionDefault_front _ _

@[simp] theorem deliver_front (o : Observation) (s : State) : (deliver o s).front = s.front := by
  rcases deliver_cases o s with ⟨-, h⟩ | ⟨-, -, h⟩ | ⟨-, -, _, _, -, h⟩ <;> rw [h]
  exact takeException_front _ _ _

@[simp] theorem offerFrame_front (body : FrameBody) (t : Time) (s : State) : (offerFrame body t s).front = s.front := by
  rcases offerFrame_cases body t s with ⟨-, h⟩ | ⟨-, h⟩ <;> rw [h]

/-- An observation handed on takes a sequence number at most of the front end (R32). -/
theorem handOn_front (o : Confirmed) (s : State) : ∃ n, (handOn o s).front = { s.front with sequence := n } := by
  unfold handOn
  split
  · exact ⟨s.front.sequence + 1, by simp⟩
  · exact ⟨s.front.sequence, rfl⟩

/-- A block judged, its envelope entered in the history and the window as they stood (R25, R31). -/
theorem blockDone_eq (c : Configuration) (start : Time) (envelope : Nat) (f : FrontEnd) :
    blockDone c start envelope f = ((detect c start envelope f).1.entered envelope, (detect c start envelope f).2) := by
  have past := detect_unjudged c start envelope f
  have history : (detect c start envelope f).1.history = f.history := (congrArg FrontEnd.history past :)
  have window : (detect c start envelope f).1.window = f.window := (congrArg FrontEnd.window past :)
  unfold FrontEnd.entered
  rw [history, window]
  rfl

/-- What a completed block leaves of the front end apart from the judgement: its envelope entered, and a sequence number taken at most. -/
theorem completeBlock_unjudged (b : Block) (s : State) :
    ∃ n, (completeBlock b s).front.unjudged = { (s.front.entered (b.sum / 64)).unjudged with sequence := n } := by
  have entered (f g : FrontEnd) (same : f.unjudged = g.unjudged) :
      (f.entered (b.sum / 64)).unjudged = (g.entered (b.sum / 64)).unjudged :=
    congrArg (fun past => (past.entered (b.sum / 64)).unjudged) same
  have judged := entered _ _ (detect_unjudged s.cfg b.start (b.sum / 64) s.front)
  rw [← judged]
  unfold completeBlock
  rw [blockDone_eq]
  dsimp only
  split
  · obtain ⟨n, handed⟩ := handOn_front ‹_› (passSoundCheck _)
    exact ⟨n, by rw [handed, passSoundCheck_front]; rfl⟩
  · exact ⟨_, by rw [passSoundCheck_front]⟩

/-- A block completed with no sound check to pass. -/
theorem completeBlock_of_judged {b : Block} {s : State} {f : FrontEnd} {found : Option Confirmed} (unchecked : s.startup.soundCheck = false)
    (judged : detect s.cfg b.start (b.sum / 64) s.front = (f, found)) :
    completeBlock b s =
      found.elim { s with front := f.entered (b.sum / 64) } fun o => handOn o { s with front := f.entered (b.sum / 64) } := by
  have passed (g : FrontEnd) : passSoundCheck { s with front := g } = { s with front := g } := if_neg (by simp [unchecked])
  unfold completeBlock
  rw [blockDone_eq, judged]
  dsimp only
  rw [passed]
  cases found <;> rfl

/-! ## The judgement of a block (R26 to R30, R32) -/

/-- What the onset test asks of an envelope against a baseline (R26, R27). -/
theorem onsetPasses_iff (c : Configuration) (envelope base : Nat) :
    onsetPasses c envelope base = true ↔ c.onsetFloor ≤ envelope ∧ c.onsetRatio * base ≤ 16 * envelope := by
  simp [onsetPasses]

/-- No candidate written where none stands. -/
theorem FrontEnd.candidate_eq {f : FrontEnd} (free : f.candidate = none) : { f with candidate := none } = f := by
  obtain ⟨block, history, window, detector, candidate, peak, refractory, sequence, last, lost, ticks⟩ := f
  subst free
  rfl

/-- What a block in QUIET must be to begin a candidate: one with a baseline, which passes the test and lies past the refractory expiry (R26). -/
def FrontEnd.begins (c : Configuration) (start : Time) (envelope : Nat) (f : FrontEnd) : Prop :=
  f.history.length = 4 ∧ (c.onsetFloor ≤ envelope ∧ c.onsetRatio * (f.history.sum / 4) ≤ 16 * envelope) ∧
    ∀ expiry, f.refractory = some expiry → 0 ≤ since (blockEvent c start) expiry

section
variable {c : Configuration} {start : Time} {envelope : Nat} {f : FrontEnd}

theorem testOnset_of_begins (begins : f.begins c start envelope) :
    testOnset c start envelope f = settleOnset c start envelope (f.history.sum / 4) 1 envelope { f with candidate := none } := by
  obtain ⟨full, loud, past⟩ := begins
  have passes := (onsetPasses_iff c envelope (f.history.sum / 4)).2 loud
  unfold testOnset baseline
  cases expires : f.refractory with
  | none => simp [full, passes]
  | some expiry => simp [full, passes, past expiry expires]

theorem testOnset_of_not_begins (refused : ¬f.begins c start envelope) :
    testOnset c start envelope f = ({ f with candidate := none }, none) := by
  unfold testOnset baseline
  by_cases full : f.history.length = 4
  · cases passes : onsetPasses c envelope (f.history.sum / 4)
    · simp [full, passes]
    · have loud := (onsetPasses_iff c envelope (f.history.sum / 4)).1 passes
      cases expires : f.refractory with
      | none => exact absurd ⟨full, loud, by simp [expires]⟩ refused
      | some expiry =>
        have early : since (blockEvent c start) expiry < 0 :=
          not_le.1 fun past => refused ⟨full, loud, fun t is => Option.some.inj (expires.symm.trans is) ▸ past⟩
        simp [full, early]
  · simp [full]

/-- In QUIET a block is tested afresh when no candidate stands, and when it fails the standing one (R26, R27). -/
theorem detect_of_fresh (quiet : f.detector = .quiet)
    (fresh :
      f.candidate = none ∨
        ∃ begun first base count largest, f.candidate = some (.onset begun first base count largest) ∧
          ¬(c.onsetFloor ≤ envelope ∧ c.onsetRatio * base ≤ 16 * envelope)) :
    detect c start envelope f = testOnset c start envelope f := by
  rcases fresh with free | ⟨begun, first, base, count, largest, standing, low⟩
  · simp [detect, quiet, free]
  · simp [detect, quiet, standing, (onsetPasses_iff c envelope base).not.2 low]

/-- In QUIET a block that passes the test of the standing candidate counts on (R27). -/
theorem detect_of_standing {begun : Time} {first base count largest : Nat} (quiet : f.detector = .quiet)
    (standing : f.candidate = some (.onset begun first base count largest))
    (loud : c.onsetFloor ≤ envelope ∧ c.onsetRatio * base ≤ 16 * envelope) :
    detect c start envelope f = settleOnset c begun first base (count + 1) (max largest envelope) f := by
  simp [detect, quiet, standing, (onsetPasses_iff c envelope base).2 loud]

/-- In SOUNDING with no candidate a block low against the peak begins one, and another raises the peak at most (R29). -/
theorem detect_of_sounding (sounding : f.detector = .sounding) (free : f.candidate = none) :
    detect c start envelope f =
      let g := { f with peak := max f.peak envelope }
      if c.releaseRatio * envelope ≤ max f.peak envelope then settleRelease c start (max f.peak envelope) 1 g
      else ({ g with candidate := none }, none) := by
  simp [detect, sounding, free]

/-- In SOUNDING a standing candidate is judged against the peak it recorded (R29). -/
theorem detect_of_releasing {begun : Time} {recorded count : Nat} (sounding : f.detector = .sounding)
    (standing : f.candidate = some (.release begun recorded count)) :
    detect c start envelope f =
      let g := { f with peak := max f.peak envelope }
      if c.releaseRatio * envelope ≤ recorded then settleRelease c begun recorded (count + 1) g
      else ({ g with candidate := none }, none) := by
  simp [detect, sounding, standing]

theorem settleOnset_of_few {first base count largest : Nat} (few : count < c.persistence) :
    settleOnset c start first base count largest f = ({ f with candidate := some (.onset start first base count largest) }, none) :=
  if_neg (not_le.2 few)

theorem settleOnset_of_enough {first base count largest : Nat} (enough : c.persistence ≤ count) :
    settleOnset c start first base count largest f =
      ({ f with
          detector := .sounding, candidate := none, peak := largest
          refractory := some (blockEvent c start + BitVec.ofNat 32 c.refractory) },
        some ⟨.onset, blockEvent c start, strengthOf first⟩) := by
  rw [← BitVec.ofInt_natCast]
  exact if_pos enough

theorem settleRelease_of_few {peak count : Nat} (few : count < c.persistence) :
    settleRelease c start peak count f = ({ f with candidate := some (.release start peak count) }, none) := if_neg (not_le.2 few)

theorem settleRelease_of_enough {peak count : Nat} (enough : c.persistence ≤ count) :
    settleRelease c start peak count f =
      ({ f with detector := .quiet, candidate := none }, some ⟨.release, blockEvent c start, strengthOf peak⟩) := if_pos enough

end

/-- An observation confirmed out of play is none (R32). -/
theorem handOn_out_of_play {o : Confirmed} {s : State} (out : s.inPlay = false) : handOn o s = s := if_neg (by simp [out])

/-- An observation confirmed in play, with room in the gather queue: the sequence number taken, the observation at the tail, its HEARD frame
offered (R32). -/
theorem handOn_of_room {o : Confirmed} {s : State} (inPlay : s.inPlay = true) (room : s.gather.queue.length < 32) :
    handOn o s =
      { s with
        front.sequence := s.front.sequence + 1
        gather.queue := s.gather.queue ++ [⟨.own, o.kind, o.time, s.front.sequence, s.cfg.selfWeight⟩]
        line.queue := (enqueue s.line.queue ⟨.heard o.kind s.front.sequence o.strength, o.time, 0, 0⟩).1 } := by
  have awake : s.isHalted = false := by simpa [State.isHalted, State.voice] using awake_of_inPlay inPlay
  let t : State := { s with front.sequence := s.front.sequence + 1 }
  have delivered (p : Observation) : deliver p t = { t with gather.queue := t.gather.queue ++ [p] } := deliver_of_room (s := t) inPlay room
  refine (if_pos inPlay).trans ?_
  dsimp only
  rw [delivered]
  exact if_neg (by simpa [State.isHalted] using awake)

/-- The block of a station that its sixty-fourth sample completes (R24). -/
theorem add_of_full {b : Block} {bits : List Bool} (full : b.count = 63) (sixteen : bits.length = 16) (stamp : Time) :
    b.add (sampleValue bits) stamp = ⟨64, b.sum + portMagnitude bits, b.start⟩ := by
  simp [Block.add, full, magnitude_sampleValue sixteen]

/-- The sixty-fourth sample, with no sound check to pass: the block is judged, and what is confirmed is handed on. -/
theorem execSampleTaken_of_judged {edges : List SoundEdge} {ago : Nat} {bits : List Bool} {s : State} {f : FrontEnd}
    {found : Option Confirmed} (read : readPort none edges = some bits) (sixteen : bits.length = 16) (listening : s.listening = true)
    (recent : ago ≤ s.front.portTicks) (full : s.front.block.count = 63) (unchecked : s.startup.soundCheck = false)
    (judged :
      detect s.cfg s.front.block.start ((s.front.block.sum + portMagnitude bits) / 64)
        (s.front.sampled (sampleValue bits) (s.now - BitVec.ofNat 32 ago) s.now) = (f, found)) :
    execSampleTaken edges ago s =
      .next
        (let t := { s with front := f.entered ((s.front.block.sum + portMagnitude bits) / 64) }
        found.elim t fun o => handOn o t) := by
  rw [execSampleTaken_of_read read listening recent, takeSample_of_full full, add_of_full full sixteen]
  exact congrArg _ (completeBlock_of_judged (by exact unchecked) (by exact judged))

end Sys2Proof.Machine

open Sys2Proof Sys2Proof.Machine

/-- Settles O30: the edges read the sample, the sample adds to its block, and a completed block is entered whatever the detector makes of it. -/
theorem samplesFormBlocks : Obligations.SamplesFormBlocks := by
  unfold Obligations.SamplesFormBlocks
  refine ⟨fun edges ago s unread => execSampleTaken_of_unread unread, ?_⟩
  intro outside cut ago bits s listening short sixteen recent edges stamp magnitude start envelope history window
  have read : readPort none edges = some bits := readPort_portEdges_of_cut short sixteen
  refine ⟨?_, fun room => ?_, fun full => ?_, fun full unchecked quiet free low => ?_⟩
  · simp [State.ownLevel, listening, Config.windowLength]
  · refine (execSampleTaken_of_read read listening recent).trans (congrArg _ ?_)
    rw [takeSample_of_open room, FrontEnd.sampled, Block.add, magnitude_sampleValue sixteen]
  · refine ⟨_, execSampleTaken_of_read read listening recent, ?_⟩
    rw [takeSample_of_full full, add_of_full full sixteen]
    obtain ⟨n, done⟩ :=
      completeBlock_unjudged ⟨64, s.front.block.sum + magnitude, s.front.block.start⟩
        { s with front := s.front.sampled (sampleValue bits) stamp s.now }
    exact ⟨(congrArg FrontEnd.block done :), (congrArg FrontEnd.history done :), (congrArg FrontEnd.window done :),
      (congrArg FrontEnd.lastSample done :), (congrArg FrontEnd.lossReported done :), (congrArg FrontEnd.portTicks done :)⟩
  · let f := s.front.sampled (sampleValue bits) stamp s.now
    have judged : detect s.cfg s.front.block.start envelope f = (f, none) := by
      rw [detect_of_fresh (f := f) quiet (.inl free), testOnset_of_not_begins fun ⟨_, loud, _⟩ => absurd loud.1 (not_le.2 low),
        FrontEnd.candidate_eq (f := f) free]
    exact execSampleTaken_of_judged read sixteen listening recent full unchecked judged

end

section

open Sys2Proof Sys2Proof.Machine

/-- Settles O31: each block is judged by the detector's own cases, and what is confirmed is handed on in play only. -/
theorem observationsMade : Obligations.ObservationsMade := by
  unfold Obligations.ObservationsMade
  intro ago bits s listening full unchecked sixteen recent edges start envelope early front observed base loud fresh begins onset peak release
  let f : FrontEnd := s.front.sampled (sampleValue bits) (s.now - BitVec.ofNat 32 ago) s.now
  have taken {g : FrontEnd} {found : Option Confirmed} (judged : detect s.cfg start envelope f = (g, found)) :
      exec (.sampleTaken edges ago) s =
        .next (found.elim { s with front := g.entered envelope } fun o => handOn o { s with front := g.entered envelope }) :=
    execSampleTaken_of_judged (readPort_portEdges sixteen) sixteen listening recent full unchecked judged
  have confirmed {g : FrontEnd} {kind : ObsKind} {begun : Time} {strength : Nat}
      (judged : detect s.cfg start envelope f = (g, some ⟨kind, early begun, min 255 (strength / 128)⟩))
      (numbered : g.sequence = s.front.sequence) :
      (s.inPlay = true → s.gather.queue.length < 32 →
        exec (.sampleTaken edges ago) s = observed (g.entered envelope) kind (early begun) (min 255 (strength / 128))) ∧
      (s.inPlay = false → exec (.sampleTaken edges ago) s = .next { s with front := g.entered envelope }) := by
    refine ⟨fun inPlay room => (taken judged).trans (congrArg _ ?_), fun out => (taken judged).trans (congrArg _ ?_)⟩
    · refine (handOn_of_room (s := { s with front := g.entered envelope }) inPlay room).trans ?_
      have entered : (g.entered envelope).sequence = s.front.sequence := numbered
      dsimp only
      rw [entered]
    · exact handOn_out_of_play (s := { s with front := g.entered envelope }) out
  refine ⟨fun quiet isFresh => ?_, fun begun first base count largest quiet standing isLoud => ?_, fun sounding free => ?_,
    fun begun recorded count sounding standing => ?_⟩
  · have tested : detect s.cfg start envelope f = testOnset s.cfg start envelope f := detect_of_fresh (f := f) quiet isFresh
    have begun (is : begins) := tested.trans (testOnset_of_begins (f := f) is)
    refine ⟨fun is long => ?_, fun is short => ?_, fun refused => ?_⟩
    · exact taken ((begun is).trans (settleOnset_of_few long))
    · exact confirmed ((begun is).trans (settleOnset_of_enough short)) rfl
    · exact taken (tested.trans (testOnset_of_not_begins (f := f) refused))
  · have counts := detect_of_standing (c := s.cfg) (start := start) (f := f) quiet standing isLoud
    refine ⟨fun few => ?_, fun enough => ?_⟩
    · exact taken (counts.trans (settleOnset_of_few few))
    · exact confirmed (counts.trans (settleOnset_of_enough enough)) rfl
  · have judged := detect_of_sounding (c := s.cfg) (start := start) (envelope := envelope) (f := f) sounding free
    refine ⟨fun low long => ?_, fun low short => ?_, fun high => ?_⟩
    · exact taken (judged.trans ((if_pos low).trans (settleRelease_of_few long)))
    · exact confirmed (judged.trans ((if_pos low).trans (settleRelease_of_enough short))) rfl
    · refine taken (g := { f with peak := peak }) (found := none) (judged.trans ((if_neg (not_le.2 high)).trans ?_))
      exact congrArg (·, none) (FrontEnd.candidate_eq (f := { f with peak := peak }) free)
  · have judged := detect_of_releasing (c := s.cfg) (start := start) (envelope := envelope) (f := f) sounding standing
    refine ⟨fun low few => ?_, fun low enough => ?_, fun high => ?_⟩
    · exact taken (judged.trans ((if_pos low).trans (settleRelease_of_few few)))
    · exact confirmed (judged.trans ((if_pos low).trans (settleRelease_of_enough enough))) rfl
    · exact taken (judged.trans (if_neg (not_le.2 high)))

end

section
/-! The loss of the sound input, and what no sample is (R23, R34). -/

namespace Sys2Proof.Machine

/-- Whether an edge at the sound port is a data bit. -/
def isBit : SoundEdge → Bool
  | .bit _ => true
  | .wordSync => false

/-- A raise of a latched channel that reacts by REPORT changes nothing (R184). -/
theorem raiseFault_of_latched {ch : FaultNo} {s : State} (report : s.cfg.reactions[ch] = .report) (latched : s.latched ch = true) :
    raiseFault ch s = s := by
  rcases raiseFault_cases ch s with ⟨-, e⟩ | ⟨-, -, ⟨-, e⟩ | ⟨lead, -⟩ | ⟨silence, -⟩ | ⟨silence, -⟩⟩
  · exact e
  · rw [e, latchAndReport, if_pos latched]
  · rw [report] at lead; cases lead
  · rw [report] at silence; cases silence
  · rw [report] at silence; cases silence

/-- A listening station is not HALTED, and released (R36). -/
theorem listening_iff (s : State) : s.listening = true ↔ s.configured = true ∧ s.cfg.listen = true ∧ s.isHalted = false := by
  simp [State.listening, and_assoc]

theorem running_of_configured {s : State} (configured : s.configured = true) : s.running = true := by
  unfold State.configured at configured
  cases step : s.startup.step <;> simp_all [State.running]

/-- A sample takes sixteen bits, those read of it before included (R23). -/
theorem readPort_bits_le {edges : List SoundEdge} {before : Option (List Bool)} {bits : List Bool} (read : readPort before edges = some bits) :
    16 ≤ (before.getD []).length + edges.countP isBit := by
  induction edges generalizing before with
  | nil => cases before <;> cases read
  | cons e edges ih =>
    cases e with
    | wordSync =>
      have := ih (before := some []) (by cases before <;> exact read)
      simp [isBit] at this ⊢
      omega
    | bit level =>
      have counted : (SoundEdge.bit level :: edges).countP isBit = edges.countP isBit + 1 := List.countP_cons_of_pos rfl
      rw [counted]
      cases before with
      | none =>
        have := ih (before := none) read
        omega
      | some bits =>
        simp only [readPort] at read
        split at read
        · have := ih read
          simp at this ⊢
          omega
        · simp
          omega

theorem execSampleTaken_of_no_sample {edges : List SoundEdge} {ago : Nat} {s : State} (none_read : readPort none edges = none) :
    execSampleTaken edges ago s = .next s := by
  unfold execSampleTaken
  rw [none_read]
  rfl

end Sys2Proof.Machine

open Sys2Proof Sys2Proof.Machine

/-- Settles O32: the front end reset when the loss is due, SOUND raised or not by what stood before; too few bits read no sample. -/
theorem soundInputLost : Obligations.SoundInputLost := by
  unfold Obligations.SoundInputLost
  intro s front
  refine ⟨fun listening long => ?_, fun quiet => act_of_not_due ?_, fun edges ago few => execSampleTaken_of_no_sample ?_⟩
  · obtain ⟨configured, -, awake⟩ := (listening_iff s).1 listening
    let t : State := { s with front := front }
    have lost : execSoundInputLost s = .next (if s.front.lossReported then t else raiseFault 6 t) :=
      act_of_due (by simpa [listening] using long)
    have again (reported : s.front.lossReported = true) : execSoundInputLost s = .next t := by rw [lost, if_pos reported]
    have first (fresh : s.front.lossReported = false) : execSoundInputLost s = .next (raiseFault 6 t) := by
      rw [lost, if_neg (by simp [fresh])]
    refine ⟨fun reported => ⟨again reported, by simp [State.ownLevel, front, Config.windowLength]⟩, first, fun fresh report clear => ?_,
      fun fresh report latched => ?_⟩
    · exact (first fresh).trans (congrArg _
        (raiseFault_withReport (s := t) ⟨report, clear, awake, running_of_configured configured⟩ (by decide) (by decide)))
    · exact (first fresh).trans (congrArg _ (raiseFault_of_latched (s := t) report latched))
  · rcases quiet with deaf | early
    · simp [deaf]
    · simpa [Config.soundLossTicks] using fun _ => early
  · refine Option.eq_none_iff_forall_ne_some.2 fun bits read => ?_
    have sixteen : 16 ≤ edges.countP isBit := by simpa using readPort_bits_le read
    exact absurd few (not_lt.2 (sixteen.trans (List.countP_congr fun e _ => by cases e <;> rfl).le))

end

section
/-! The end of the configuration read (R195 to R198). -/

namespace Sys2Proof.Machine

/-- Whatever the reaction, a raise leaves its channel latched in a released station that is not HALTED (R184). -/
theorem raiseFault_latched {ch : FaultNo} {s : State} (awake : s.isHalted = false) (running : s.running = true) :
    (raiseFault ch s).latched ch = true := by
  have latches (t : State) : (latch ch t).latched ch = true := by simp [State.latched, channelBit]
  have reported : (latchAndReport ch s).latched ch = true := by
    rcases latchAndReport_cases ch s with ⟨latched, e⟩ | ⟨-, e⟩ <;> rw [e]
    · exact latched
    · exact latches s
  rcases raiseFault_cases ch s with ⟨halted | held, -⟩ | ⟨-, -, ⟨-, e⟩ | ⟨-, e⟩ | ⟨-, -, e⟩ | ⟨-, -, e⟩⟩
  · rw [awake] at halted; cases halted
  · rw [running] at held; cases held
  · rwa [e]
  · rw [e]
    rcases leadReaction_cases (latchAndReport ch s) with e | ⟨p, e, -⟩ <;> rw [e] <;> exact reported
  · rw [e]
    exact latches s
  · have named : (nameSilencing ch s (latchAndReport ch s)).latched ch = true := by
      rcases nameSilencing_cases ch s (latchAndReport ch s) with e | e <;> rw [e] <;> exact reported
    rw [e]
    rcases silence_cases (nameSilencing ch s (latchAndReport ch s)) with ⟨-, e⟩ | ⟨-, e⟩ | ⟨-, -, e⟩ <;> rw [e] <;> exact named

/-- A running sound check holds the end of the checks back (R198). -/
theorem endChecks_of_sound {s : State} (sound : s.startup.soundCheck = true) : endChecks s = s := by
  simp [endChecks, sound]

/-- The section read while it is awaited: its record taken, CONFIG raised or not, and the checks ended that do not run (R195, R196). -/
theorem execConfigurationSectionRead_of_awaited {bytes : List Byte} {address : Nat} {s : State} (step : s.startup.step = .read)
    (port : s.store.port = { FlashPort.initial with serving := some ⟨.configuration, address, bytes.length⟩ }) :
    execConfigurationSectionRead bytes s =
      .next
        (let t := endConfiguration (sectionConfig bytes) s
        endChecks (if sectionRaises bytes then raiseFault 5 t else t)) := by
  refine (act_of_due ?_).trans (congrArg _ (if_pos ?_))
  · simp [port, FlashPort.completes]
  · simp [step, port, FlashPort.initial]

/-- A division byte is 0 to 7, NONE, or raises CONFIG (R197). -/
theorem sectionDivisionBad_iff (bytes : List Byte) : sectionDivisionBad bytes = true ↔ 8 ≤ field bytes 0 1 ∧ field bytes 0 1 ≠ 255 := by
  simp [sectionDivisionBad]

/-- The end of the checks as the configuration read finds them: joining at once when neither role runs one (R198, R201). -/
theorem endChecks_endConfiguration (c : Configuration) (s : State) :
    endChecks (endConfiguration c s) =
      { endConfiguration c s with
        startup.step := if c.play || c.listen then .checks else .joining
        line.joinTime := if c.play || c.listen then s.line.joinTime else some 0 } := by
  cases play : c.play
  · cases listen : c.listen
    · refine (endChecks_of_checked rfl ?_ listen).trans (if_neg (ne_true_of_eq_false play))
      simp [endConfiguration, play]
    · exact endChecks_of_sound listen
  · refine endChecks_of_valve ?_
    simp [endConfiguration, play]

theorem mapVec_getElem {α β : Type} {n : Nat} (f : α → β) (v : Vector α n) (i : Fin n) : (mapVec f v)[i] = f v[i] := by
  simp [mapVec]

/-- The port as a read leaves it with nothing waiting (R40). -/
theorem done_of_only (r : FlashRead) : { FlashPort.initial with serving := some r }.done = FlashPort.initial := rfl

end Sys2Proof.Machine

open Sys2Proof Sys2Proof.Machine

/-- Settles O19: the record taken by the section's check, and the CONFIG that a damaged section or a bad division raises. -/
theorem configurationTaken : Obligations.ConfigurationTaken := by
  unfold Obligations.ConfigurationTaken
  intro bytes address s step starting port
  have read := execConfigurationSectionRead_of_awaited step port
  refine ⟨fun good division => ?_, fun damaged => ?_, fun good high other => ?_⟩
  · have config : sectionConfig bytes = parseSection bytes := if_pos good
    have silent : sectionRaises bytes = false := by
      have fine : sectionDivisionBad bytes = false := by
        rw [← Bool.not_eq_true, sectionDivisionBad_iff]
        omega
      simp [sectionRaises, good, fine]
    have ended := read.trans (congrArg _ (congrArg endChecks (if_neg (ne_true_of_eq_false silent))))
    intro c
    rw [endChecks_endConfiguration, config] at ended
    refine ⟨_, ended, rfl, rfl, rfl, ?_, rfl, rfl, rfl, rfl, rfl, rfl, rfl, rfl, fun p => mapVec_getElem _ _ p⟩
    simp [endConfiguration, port, done_of_only]
  · have config : sectionConfig bytes = .defaults := if_neg (ne_true_of_eq_false damaged)
    let t : State := endConfiguration .defaults s
    have awake : t.isHalted = false := isHalted_of_state (s := t) starting (by simp)
    have running : t.running = true := rfl
    have report : t.cfg.reactions[(5 : FaultNo)] = .report := show Configuration.defaults.reactions[(5 : FaultNo)] = .report by decide
    have ended : exec (.configurationSectionRead bytes) s = .next (endChecks (raiseFault 5 t)) := by
      refine read.trans ?_
      rw [config]
      exact congrArg _ (congrArg endChecks (if_pos (by simp [sectionRaises, damaged])))
    cases latched : t.latched 5
    · rw [raiseFault_withReport (s := t) ⟨report, latched, awake, running⟩ (by decide) (by decide), endChecks_of_sound rfl] at ended
      exact ⟨_, ended, rfl, rfl, withReport_latched t 5 none, starting, fun _ => rfl⟩
    · rw [raiseFault_of_latched (s := t) report latched, endChecks_of_sound rfl] at ended
      exact ⟨_, ended, rfl, rfl, latched, starting, fun clear => absurd latched (ne_true_of_eq_false clear)⟩
  · let t : State := endConfiguration (parseSection bytes) s
    have ended : exec (.configurationSectionRead bytes) s = .next (endChecks (raiseFault 5 t)) := by
      refine read.trans ?_
      rw [show sectionConfig bytes = parseSection bytes from if_pos good]
      exact congrArg _ (congrArg endChecks (if_pos (by simp [sectionRaises, (sectionDivisionBad_iff bytes).2 ⟨high, other⟩])))
    have stands : (endChecks (raiseFault 5 t)).standing = t.standing := by simp
    have config : (endChecks (raiseFault 5 t)).startup.config = parseSection bytes := congrArg Standing.config stands
    refine ⟨_, ended, config, ?_, ?_⟩
    · rw [State.cfg, config]
      exact dif_neg (not_lt.2 high)
    · rw [State.latched, (endChecks_keeps _).1]
      exact raiseFault_latched (s := t) (isHalted_of_state (s := t) starting (by simp)) rfl

end

section
/-! What every operation keeps of what a station hears and hands on (R22, R32): no command but a sample taken makes an observation of the
station's own, offers a HEARD frame, or puts an envelope in the history of a QUIET detector. -/

namespace Sys2Proof.Machine

/-- What a station hears and hands on: the front end, the frames it holds, the observations that wait. -/
structure Ear where
  front : FrontEnd
  queue : List QueuedFrame
  onLine : Option LineFrame
  observations : List Observation

/-- The ear of a state. -/
def State.ear (s : State) : Ear := ⟨s.front, s.line.queue, s.line.onLine, s.gather.queue⟩

/-- The detector QUIET with an empty history (R22). -/
def Ear.deaf (e : Ear) : Prop := e.front.detector = .quiet ∧ e.front.history = []

/-- HEARD frames held, in the queue and on the line. -/
def Ear.heard (e : Ear) : Nat := e.queue.countP QueuedFrame.isHeard + (e.onLine.toList.map (·.frame)).countP QueuedFrame.isHeard

/-- From one ear to the other a deaf one stays deaf, with no more HEARD frames and no new observation of its own. -/
structure Ear.Hushed (e f : Ear) : Prop where
  deaf : e.deaf → f.deaf
  heard : f.heard ≤ e.heard
  own : ∀ o ∈ f.observations, o.source = .own → o ∈ e.observations

/-- From the first state to the second the same. It speaks of the ears alone, so whatever leaves the ear as it was keeps it. -/
def Hushed (b s : State) : Prop := b.ear.Hushed s.ear

variable {b s t : State}

theorem Hushed.refl (s : State) : Hushed s s := ⟨id, le_rfl, fun _ mem _ => mem⟩

theorem Hushed.trans {u : State} (h : Hushed b s) (k : Hushed s u) : Hushed b u :=
  ⟨k.deaf ∘ h.deaf, k.heard.trans h.heard, fun o mem own => h.own o (k.own o mem own) own⟩

/-- Another transmit queue, with no more HEARD frames in it. -/
theorem Hushed.queue (q : List QueuedFrame) (h : Hushed b s)
    (fewer : q.countP QueuedFrame.isHeard ≤ s.line.queue.countP QueuedFrame.isHeard) : Hushed b { s with line.queue := q } :=
  ⟨h.deaf, (Nat.add_le_add_right fewer _).trans h.heard, h.own⟩

/-- Other observations waiting, with none of the station's own among the new ones. -/
theorem Hushed.observations (waiting : List Observation) (h : Hushed b s)
    (known : ∀ o ∈ waiting, o.source = .own → o ∈ s.gather.queue) : Hushed b { s with gather.queue := waiting } :=
  ⟨h.deaf, h.heard, fun o mem own => h.own o (known o mem own) own⟩

/-- No observation waiting. -/
theorem Hushed.emptied (h : Hushed b s) : Hushed b { s with gather.queue := [] } := h.observations [] nofun

/-- Another gather unit with the same observations waiting. -/
theorem Hushed.gather (g : GatherUnit) (h : Hushed b s) (same : g.queue = s.gather.queue) : Hushed b { s with gather := g } := by
  refine ⟨h.deaf, h.heard, fun o mem => h.own o ?_⟩
  have waits : o ∈ g.queue := mem
  rwa [same] at waits

/-- No frame on the line. -/
theorem Hushed.offLine (h : Hushed b s) : Hushed b { s with line.onLine := none } :=
  ⟨h.deaf, (Nat.add_le_add_left (Nat.zero_le _) _).trans h.heard, h.own⟩

/-- Nothing heard, nothing held, nothing waiting. -/
theorem hushed_of_silent (deaf : s.ear.deaf) (queue : s.line.queue = []) (line : s.line.onLine = none) (waiting : s.gather.queue = []) :
    Hushed b s := by
  refine ⟨fun _ => deaf, ?_, fun o mem => ?_⟩
  · simp [Ear.heard, State.ear, queue, line]
  · have waits : o ∈ s.gather.queue := mem
    rw [waiting] at waits
    cases waits

/-- Either branch of a choice. -/
theorem hushed_ite {c : Prop} [Decidable c] (h : Hushed b s) (k : Hushed b t) : Hushed b (if c then s else t) := by
  split
  · exact h
  · exact k

/-! ## The transmit queue (R9, R15, R16) -/

/-- An offer of a frame that is no HEARD brings none into the queue. -/
theorem countP_enqueue_le {f : QueuedFrame} (other : f.isHeard = false) (q : List QueuedFrame) :
    (enqueue q f).1.countP QueuedFrame.isHeard ≤ q.countP QueuedFrame.isHeard := by
  have rest : (if f.isPulse then q.filter (fun g => !g.isPulse) else q).Sublist q := by
    split
    · exact List.filter_sublist
    · exact .refl q
  rcases enqueue_cases q f with ⟨-, e⟩ | ⟨-, e⟩ | ⟨-, -, r, room, e⟩ | ⟨-, ⟨r, room, e⟩ | ⟨-, e⟩⟩ <;> rw [e]
  · rw [List.countP_cons_of_neg (by simp [other])]
    exact (makeRoom_sublist room).countP_le
  · rw [List.countP_append, List.countP_singleton, if_neg (by simp [other])]
    exact ((makeRoom_sublist room).trans rest).countP_le
  · exact rest.countP_le

/-- A frame that returns from a clash brings no HEARD frame but itself (R9). -/
theorem countP_requeue_le (q : List QueuedFrame) (f : QueuedFrame) :
    (requeue q f).1.countP QueuedFrame.isHeard ≤ (f :: q).countP QueuedFrame.isHeard := by
  rcases requeue_cases q f with e | ⟨r, room, e⟩ <;> rw [e]
  · exact (List.sublist_cons_self f q).countP_le
  · have first : (putFirst f r).Perm (f :: r) := by
      unfold putFirst
      split
      · exact .refl _
      · split
        · exact .swap _ _ _
        · exact .refl _
    rw [first.countP_eq]
    exact ((makeRoom_sublist room).cons_cons f).countP_le

theorem offerFrame_hushed {body : FrameBody} {time : Time} (h : Hushed b s) (other : body.kind ≠ 1) : Hushed b (offerFrame body time s) := by
  rcases offerFrame_cases body time s with ⟨-, e⟩ | ⟨-, e⟩ <;> rw [e]
  · exact h
  · exact h.queue _ (countP_enqueue_le (by simpa [QueuedFrame.isHeard] using other) _)

theorem faultFrameLeft_hushed {f : QueuedFrame} (h : Hushed b s) : Hushed b (faultFrameLeft f s) := by
  rcases faultFrameLeft_cases f s with e | ⟨-, -, e⟩ <;> rw [e] <;> exact h

/-! ## Faults, exceptions and observations (R83, R120, R184 to R190) -/

theorem enterSilenced_hushed (h : Hushed b s) : Hushed b (enterSilenced s) := h.emptied

theorem enterHalted_hushed (h : Hushed b s) : Hushed b (enterHalted s) := by
  refine ⟨h.deaf, ?_, nofun⟩
  simp [Ear.heard, State.ear]

theorem silence_hushed (h : Hushed b s) : Hushed b (silence s) := by
  rcases silence_cases s with ⟨-, e⟩ | ⟨-, e⟩ | ⟨-, -, e⟩ <;> rw [e]
  · exact h
  · exact h
  · exact enterSilenced_hushed h

theorem leadReaction_hushed (h : Hushed b s) : Hushed b (leadReaction s) := by
  rcases leadReaction_cases s with e | ⟨p, e, -⟩ <;> rw [e] <;> exact h

theorem faultBody_kind (s : State) (ch : FaultNo) : (faultBody s ch).kind = 5 := by
  unfold faultBody
  split
  · split <;> rfl
  · split <;> rfl

theorem latchAndReport_hushed {ch : FaultNo} (h : Hushed b s) : Hushed b (latchAndReport ch s) := by
  rcases latchAndReport_cases ch s with ⟨-, e⟩ | ⟨-, e⟩ <;> rw [e]
  · exact h
  · exact h.queue _ (countP_enqueue_le (by simp [QueuedFrame.isHeard, faultBody_kind]) _)

theorem nameSilencing_hushed {ch : FaultNo} {before : State} (h : Hushed b s) : Hushed b (nameSilencing ch before s) := by
  rcases nameSilencing_cases ch before s with e | e <;> rw [e] <;> exact h

theorem raiseFault_hushed {ch : FaultNo} (h : Hushed b s) : Hushed b (raiseFault ch s) := by
  rcases raiseFault_cases ch s with ⟨-, e⟩ | ⟨-, -, ⟨-, e⟩ | ⟨-, e⟩ | ⟨-, -, e⟩ | ⟨-, -, e⟩⟩ <;> rw [e]
  · exact h
  · exact latchAndReport_hushed h
  · exact leadReaction_hushed (latchAndReport_hushed h)
  · exact enterHalted_hushed (s := latch ch s) h
  · exact silence_hushed (nameSilencing_hushed (latchAndReport_hushed h))

theorem exceptionDefault_hushed {e : FollowerException} (h : Hushed b s) : Hushed b (exceptionDefault e s) := by
  unfold exceptionDefault
  split
  · exact h
  · exact hushed_ite h h
  · exact h

theorem takeException_hushed {e : FollowerException} {c : Option (Station × BitVec 8)} (h : Hushed b s) :
    Hushed b (takeException e c s) := by
  have default : Hushed b (exceptionDefault e { s with follow.sticky := s.follow.sticky ||| (1#7 <<< e.bit) }) :=
    exceptionDefault_hushed h
  rcases takeException_cases e c s with ⟨-, eq⟩ | ⟨-, ⟨-, eq⟩ | ⟨-, eq⟩⟩ <;> rw [eq]
  · exact h
  · exact default
  · exact raiseFault_hushed (hushed_ite default default)

theorem takeExceptionIf_hushed {cond : Bool} {e : FollowerException} {c : Option (Station × BitVec 8)} (h : Hushed b s) :
    Hushed b (takeExceptionIf cond e c s) := hushed_ite (takeException_hushed h) h

/-- The observation of a peer delivered (R83, R84). -/
theorem deliver_hushed {o : Observation} (h : Hushed b s) (peer : o.source ≠ .own) : Hushed b (deliver o s) := by
  have known (waiting : List Observation) (sub : ∀ p ∈ waiting, p ∈ s.gather.queue) :
      ∀ p ∈ waiting ++ [o], p.source = .own → p ∈ s.gather.queue := by
    intro p mem own
    rcases List.mem_append.1 mem with mem | mem
    · exact sub p mem
    · exact absurd (List.mem_singleton.1 mem ▸ own) peer
  rcases deliver_cases o s with ⟨-, e⟩ | ⟨-, -, e⟩ | ⟨-, -, head, rest, queue, e⟩ <;> rw [e]
  · exact h
  · exact h.observations _ (known _ fun p mem => mem)
  · exact takeException_hushed (h.observations _ (known _ fun p mem => queue ▸ List.mem_cons_of_mem head mem))

/-! ## Marks, windows and readers (R40, R50 to R56, R103, R138) -/

theorem reachBroaden_hushed {limit : Int} (h : Hushed b s) : Hushed b (reachBroaden limit s) := hushed_ite h h

theorem reportAnchor_hushed (h : Hushed b s) : Hushed b (reportAnchor s) := reachBroaden_hushed (limit := s.position) h

theorem stage_hushed {f : State → State} (effect : ∀ {u}, Hushed b u → Hushed b (f u)) (h : Hushed b s) : Hushed b (stage f s) :=
  hushed_ite (effect h) h

theorem watchNext_hushed {fuel : Nat} (h : Hushed b s) : Hushed b (watchNext fuel s) := by
  induction fuel generalizing s with
  | zero => exact h
  | succ fuel ih =>
    unfold watchNext
    split
    · exact h
    · split
      · exact h
      · exact hushed_ite (ih h) h

theorem settleWatch_hushed (h : Hushed b s) : Hushed b (settleWatch s) := watchNext_hushed h

theorem settleMarks_hushed (h : Hushed b s) : Hushed b (settleMarks s) := by
  unfold settleMarks
  split
  · dsimp only
    refine hushed_ite ?_ h
    split
    · exact h
    · exact hushed_ite h h
  · exact h

theorem settleNotesStep_hushed (h : Hushed b s) (turn : settleNotesStep s = some t) : Hushed b t := by
  unfold settleNotesStep at turn
  split at turn
  · dsimp only at turn
    repeat' split at turn
    all_goals cases turn <;> exact h
  · cases turn

theorem settleNotes_hushed (h : Hushed b s) : Hushed b (settleNotes s) := iterate_invariant (fun _ _ => settleNotesStep_hushed) 20 h

theorem beforeChange_hushed (h : Hushed b s) : Hushed b (beforeChange s) := by
  obtain ⟨_, _, e, -⟩ := beforeChange_cases s
  rw [e]
  exact h

theorem noteEnd_hushed (h : Hushed b s) : Hushed b (noteEnd s) := hushed_ite h h

theorem startReaders_hushed {beat : Nat} (h : Hushed b s) : Hushed b (startReaders beat s) := by
  unfold startReaders
  split
  · exact h
  · exact settleNotes_hushed (settleMarks_hushed h)

/-! ## Play, seeks, joins and loads (R43, R46, R56, R67, R75 to R78) -/

theorem enterPlay_hushed {sect : Nat} {a : Anchor} {beat : Nat} {c : Change} (h : Hushed b s) : Hushed b (enterPlay sect a beat c s) :=
  reportAnchor_hushed (settleWatch_hushed (beforeChange_hushed h))

theorem joinComplete_hushed {j : JoinAnchor} (h : Hushed b s) : Hushed b (joinComplete j s) := by
  unfold joinComplete
  split
  · exact enterPlay_hushed h
  · exact h

theorem completeSeek_hushed (h : Hushed b s) : Hushed b (completeSeek s) := by
  unfold completeSeek
  split
  · refine hushed_ite ?_ h
    dsimp only
    split
    · exact joinComplete_hushed h
    · exact h
  · exact h

theorem beginSeek_hushed {beat : Nat} (h : Hushed b s) : Hushed b (beginSeek beat s) := completeSeek_hushed (startReaders_hushed h)

theorem playBegin_hushed {mark : Time} (h : Hushed b s) : Hushed b (playBegin mark s) := by
  let cleared : State := { s with play := { s.play with pendingStart := none, join := none } }
  have sought : Hushed b (if cleared.store.seek.any (· != 0) then beginSeek 0 cleared else cleared) := hushed_ite (beginSeek_hushed h) h
  unfold playBegin
  dsimp only
  split
  · exact enterPlay_hushed sought
  · exact sought

theorem joinStart_hushed {hymn : Nat} (h : Hushed b s) : Hushed b (joinStart hymn s) := by
  unfold joinStart
  split
  · exact hushed_ite h (beginSeek_hushed h)
  · exact h

theorem stopPlay_hushed (h : Hushed b s) : Hushed b (stopPlay s) := beginSeek_hushed h.emptied

theorem testHymnEnd_hushed (h : Hushed b s) : Hushed b (testHymnEnd s) := hushed_ite (stopPlay_hushed h) h

theorem beginLoad_hushed {hymn : Nat} (h : Hushed b s) : Hushed b (beginLoad hymn s) := h

theorem loadFailed_hushed (h : Hushed b s) : Hushed b (loadFailed s) := raiseFault_hushed h

theorem loadComplete_hushed (h : Hushed b s) : Hushed b (loadComplete s) := by
  unfold loadComplete
  dsimp only
  split
  · exact playBegin_hushed h
  · exact joinStart_hushed h
  · exact h

theorem testPrimed_hushed (h : Hushed b s) : Hushed b (testPrimed s) := by
  unfold testPrimed
  split
  · exact hushed_ite (loadComplete_hushed h) h
  · exact completeSeek_hushed h

/-- A join request formed (R75). -/
theorem formJoin_hushed {n : Nat} (h : Hushed b s) :
    Hushed b
      (if s.loadedNumber = some n then joinStart n { s with play.join := some ⟨n, none⟩ }
        else beginLoad n { s with play.join := some ⟨n, none⟩ }) :=
  hushed_ite (joinStart_hushed h) h

theorem testJoin_hushed (h : Hushed b s) : Hushed b (testJoin s) := by
  have opened : Hushed b s.takeFree.2 := h
  unfold testJoin
  split
  · dsimp only
    split
    · exact h
    · exact formJoin_hushed h
    · exact formJoin_hushed opened
  · exact h

/-! ## The action table (R149 to R161) -/

theorem testReleased_hushed {e : EntryNo} (h : Hushed b s) : Hushed b (testReleased e s) := by
  unfold testReleased
  split
  · split
    · exact hushed_ite h h
    · exact h
  · exact h

theorem applyNoteOn_hushed {e : EntryNo} {key : Key} {a : Action} {due : Time} (h : Hushed b s) :
    Hushed b (applyNoteOn e key a due s) := by
  unfold applyNoteOn
  split
  · exact raiseFault_hushed h
  · dsimp only
    split
    · exact testReleased_hushed h
    · exact h

theorem fireAtOnce_hushed {e : EntryNo} {a : Action} {due : Time} (h : Hushed b s) : Hushed b (fireAtOnce e a due s) := by
  unfold fireAtOnce
  dsimp only
  split
  · exact hushed_ite (raiseFault_hushed h) (applyNoteOn_hushed h)
  · exact h
  · split <;> exact h

theorem testEntry_hushed {e : EntryNo} (h : Hushed b s) : Hushed b (testEntry e s) := by
  unfold testEntry
  split
  · split
    · exact fireAtOnce_hushed h
    · exact h
  · exact h

theorem serveStep_hushed (h : Hushed b s) (turn : serveStep s = some t) : Hushed b t := by
  unfold serveStep at turn
  repeat' split at turn
  all_goals cases turn <;> exact h

theorem settleTable_hushed (h : Hushed b s) : Hushed b (settleTable s) :=
  testHymnEnd_hushed (iterate_invariant (fun _ _ => serveStep_hushed) 8 h)

theorem setBarrier_hushed {new : Option Nat} (h : Hushed b s) : Hushed b (setBarrier new s) := by
  unfold setBarrier
  dsimp only
  split
  · exact h
  · refine settleTable_hushed ?_
    split
    · exact foldl_invariant (fun _ _ => testEntry_hushed) _ h
    · exact h

theorem rewatch_hushed (h : Hushed b s) : Hushed b (rewatch s) := hushed_ite (setBarrier_hushed (settleWatch_hushed h)) (settleWatch_hushed h)

theorem timeEntry_hushed {e : EntryNo} (h : Hushed b s) : Hushed b (timeEntry e s) := by
  unfold timeEntry
  split <;> exact h

theorem insertPair_hushed {key : Key} {p q : Nat} (h : Hushed b s) : Hushed b (insertPair key p q s) := by
  unfold insertPair
  split
  · exact h
  · dsimp only
    split
    · exact h
    · split
      · exact settleTable_hushed (testEntry_hushed (testEntry_hushed (timeEntry_hushed (timeEntry_hushed h))))
      · exact h

theorem insertStop_hushed {stop : StopNo} {coil : Coil} {p : Nat} (h : Hushed b s) : Hushed b (insertStop stop coil p s) := by
  unfold insertStop
  split
  · exact h
  · exact hushed_ite (settleTable_hushed (testEntry_hushed (timeEntry_hushed h))) h

/-! ## The hypothesis stack, gathers and holds (R99, R129 to R136, R143) -/

theorem writePeriod_hushed {p : Int} {c : Option (Station × BitVec 8)} (h : Hushed b s) : Hushed b (writePeriod p c s) :=
  takeExceptionIf_hushed h

theorem confirmTop_hushed (h : Hushed b s) : Hushed b (confirmTop s) := testHymnEnd_hushed h

theorem push_hushed {p : Nat} {time : Time} (h : Hushed b s) : Hushed b (push p time s) :=
  takeExceptionIf_hushed (beforeChange_hushed h)

theorem pop_hushed (h : Hushed b s) : Hushed b (pop s) := beforeChange_hushed h

theorem testExhausted_hushed (h : Hushed b s) : Hushed b (testExhausted s) := hushed_ite (confirmTop_hushed h) h

/-- A gather closed at its quorum takes nothing from the observations that wait (R94). -/
theorem closeAtQuorum_queue (quorum mark : Nat) (u : GatherUnit) : (closeAtQuorum quorum mark u).queue = u.queue := by
  unfold closeAtQuorum
  split
  · split <;> rfl
  · rfl

theorem abandonBefore_hushed {p : Nat} (h : Hushed b s) : Hushed b (abandonBefore p s) :=
  h.gather _ (foldl_keeps GatherUnit.queue (f := fun u (g : Gather) => u.recordClosed g.window) (fun _ _ => rfl) _ _)

theorem adoptCluster_hushed {p : Nat} {c : Cluster} (h : Hushed b s) : Hushed b (adoptCluster p c s) := by
  have abandoned : Hushed b (abandonBefore p { s with gather.taking := .free }) := abandonBefore_hushed h
  have opened := hushed_ite (c := gatherBegun (abandonBefore p { s with gather.taking := .free }).gather p) abandoned
    (show Hushed b (openGather p (abandonBefore p { s with gather.taking := .free })) from abandoned)
  unfold adoptCluster
  dsimp only
  split
  · exact opened.gather _ (closeAtQuorum_queue _ _ _)
  · exact opened

theorem slip_hushed {p : Nat} {time : Time} (h : Hushed b s) : Hushed b (slip p time s) := by
  unfold slip
  dsimp only
  refine stage_hushed (fun k => ?_) (stage_hushed (fun k => settleTable_hushed k) (push_hushed h))
  split
  · exact hushed_ite (rewatch_hushed k) (rewatch_hushed k)
  · exact rewatch_hushed k

theorem acceptCluster_hushed {p : Option Nat} {c : Cluster} (h : Hushed b s) : Hushed b (acceptCluster p c s) := by
  unfold acceptCluster
  split
  · exact testExhausted_hushed (adoptCluster_hushed h)
  · exact h
  · exact h

theorem releaseSteps_hushed (h : Hushed b s) : Hushed b (releaseSteps s) := by
  unfold releaseSteps
  split
  · exact h
  · refine stage_hushed (fun k => rewatch_hushed k) (testHymnEnd_hushed ?_)
    dsimp only
    split <;> exact beforeChange_hushed h

/-! ## Observations taken (R91 to R98) -/

theorem poolOnset_hushed {o : Observation} (h : Hushed b s) : Hushed b (poolOnset o s) := by
  unfold poolOnset
  dsimp only
  split
  · exact h
  · split <;> exact h

theorem judgeOnset_hushed {o : Observation} (h : Hushed b s) : Hushed b (judgeOnset o s) := by
  unfold judgeOnset
  split
  · exact hushed_ite h (h.gather _ (closeAtQuorum_queue _ _ _))
  · exact hushed_ite h (hushed_ite (takeException_hushed h) (poolOnset_hushed h))

/-- The next observation taken (R85). -/
theorem nextTaken_hushed (s : State) : Hushed s { s with gather.queue := s.gather.queue.tail } :=
  (Hushed.refl s).observations _ fun _ mem _ => List.mem_of_mem_tail mem

/-! ## Closes, clusters, beats and holds (R107 to R118, R131 to R144) -/

theorem writeClose_hushed {g : Gather} {st : PlayState} {mean : Int} (h : Hushed b s) : Hushed b (writeClose g st mean s) :=
  stage_hushed (fun k => writePeriod_hushed k) (takeExceptionIf_hushed (beforeChange_hushed h))

theorem clearCulprit_hushed {period : Nat} {time : Time} {mean : Int} {ms : List Observation} (h : Hushed b s) :
    Hushed b (clearCulprit period time mean ms s) := by
  unfold clearCulprit
  split
  · split <;> exact h
  · exact h

theorem acceptClose_hushed {mark : Nat} {w : Vector Peer 16 → Vector Peer 16} (h : Hushed b s) : Hushed b (acceptClose mark w s) := by
  rcases acceptClose_cases mark w s with e | ⟨-, e⟩ <;> rw [e] <;> exact h

theorem judgeMatched_hushed {g : Gather} {mean : Int} (h : Hushed b s) : Hushed b (judgeMatched g mean s) := by
  unfold judgeMatched
  split
  · exact h
  · exact hushed_ite (pop_hushed h) (hushed_ite h (confirmTop_hushed h))

/-- The end of a close, with a report or without (R111). -/
theorem closeEnd_hushed {moved : Prop} [Decidable moved] (h : Hushed b s) : Hushed b ((if moved then reportAnchor else endChange) s) := by
  split
  · exact reportAnchor_hushed h
  · exact h

theorem applyMatched_hushed {g : Gather} {st : PlayState} (h : Hushed b s) : Hushed b (applyMatched g st s) := by
  unfold applyMatched
  dsimp only
  refine testExhausted_hushed (acceptClose_hushed (stage_hushed closeEnd_hushed (stage_hushed clearCulprit_hushed ?_)))
  split
  · exact stage_hushed judgeMatched_hushed (writeClose_hushed h)
  · exact h

theorem applyVoid_hushed {g : Gather} {st : PlayState} (h : Hushed b s) : Hushed b (applyVoid g st s) := by
  unfold applyVoid
  dsimp only
  refine testExhausted_hushed (acceptClose_hushed (stage_hushed closeEnd_hushed (hushed_ite (stage_hushed pop_hushed ?_) ?_)))
  · exact stage_hushed (fun k => takeExceptionIf_hushed k) (takeException_hushed h)
  · exact stage_hushed (fun k => takeExceptionIf_hushed k) (takeException_hushed h)

theorem clusterAhead_hushed {c : Cluster} (h : Hushed b s) : Hushed b (clusterAhead c s) := by
  unfold clusterAhead
  split
  · exact acceptCluster_hushed (stage_hushed reportAnchor_hushed (slip_hushed h))
  · exact acceptCluster_hushed h

theorem clusterInHold_hushed {c : Cluster} (h : Hushed b s) : Hushed b (clusterInHold c s) := by
  have released := releaseSteps_hushed h
  unfold clusterInHold
  split
  · exact h
  · dsimp only
    split
    · exact acceptCluster_hushed (stage_hushed reportAnchor_hushed (stage_hushed slip_hushed released))
    · exact acceptCluster_hushed (stage_hushed reportAnchor_hushed released)

theorem rebase_hushed {beat : Nat} (h : Hushed b s) : Hushed b (rebase beat s) := noteEnd_hushed (beforeChange_hushed h)

theorem sectionStage_hushed {beat : Nat} (h : Hushed b s) : Hushed b (sectionStage beat s) := by
  unfold sectionStage
  split
  · exact h
  · dsimp only
    split
    · exact writePeriod_hushed h
    · exact h

theorem broadenStage_hushed {beat : Nat} (h : Hushed b s) : Hushed b (broadenStage beat s) := by
  have reached := reachBroaden_hushed (limit := (24 * beat : Nat)) h
  unfold broadenStage
  dsimp only
  split
  · exact writePeriod_hushed reached
  · exact reached

theorem couplingStage_hushed {beat : Nat} (h : Hushed b s) : Hushed b (couplingStage beat s) := by
  unfold couplingStage
  dsimp only
  split
  · exact h
  · exact stage_hushed writePeriod_hushed (takeExceptionIf_hushed h)

theorem pulseStage_hushed {beat : Nat} {time : Time} {code : Tempo} (h : Hushed b s) : Hushed b (pulseStage beat time code s) :=
  offerFrame_hushed (s := { s with follow.resyncPending := false }) h (by simp [FrameBody.kind])

theorem swellStage_hushed (h : Hushed b s) : Hushed b (swellStage s) := by
  unfold swellStage
  split <;> exact h

theorem beatStages_hushed {beat : Nat} (h : Hushed b s) : Hushed b (beatStages beat s) :=
  stage_hushed reportAnchor_hushed (stage_hushed swellStage_hushed (stage_hushed pulseStage_hushed
    (stage_hushed couplingStage_hushed (stage_hushed broadenStage_hushed (stage_hushed sectionStage_hushed (rebase_hushed h))))))

/-- The gathers of marks after a hold point withdrawn take nothing from the observations that wait (R101). -/
theorem withdrawAfter_queue (point : Nat) (u : GatherUnit) : (withdrawAfter point u).queue = u.queue := by
  unfold withdrawAfter
  dsimp only
  split <;> rfl

theorem takeHold_hushed {w : Watch} (h : Hushed b s) : Hushed b (takeHold w s) := by
  have broadened := reachBroaden_hushed (limit := w.point) (s := { beforeChange s with follow.change := some .hold }) (beforeChange_hushed h)
  exact reportAnchor_hushed (settleWatch_hushed (settleTable_hushed (broadened.gather _ (withdrawAfter_queue _ _))))

/-! ## Start-up and cues (R62 to R70, R80, R198 to R202) -/

theorem endChecks_hushed (h : Hushed b s) : Hushed b (endChecks s) := hushed_ite (hushed_ite h h) h

theorem endFullStart_hushed (h : Hushed b s) : Hushed b (endFullStart s) :=
  hushed_ite (enterSilenced_hushed (s := { s with startup.step := .done, play.state := .idle }) h) h

theorem offerCue_hushed {c : Cue} (h : Hushed b s) : Hushed b (offerCue c s) := offerFrame_hushed h (by simp [FrameBody.kind])

theorem offerSelect_hushed (h : Hushed b s) : Hushed b (offerSelect s) := offerCue_hushed (c := .select) h

theorem takeSelect_hushed {n : Nat} (h : Hushed b s) : Hushed b (takeSelect n s) := by
  unfold takeSelect
  split <;> exact h

theorem takeStart_hushed {n : Nat} (h : Hushed b s) : Hushed b (takeStart n s) := by
  unfold takeStart
  split
  · exact hushed_ite h h
  · exact hushed_ite (playBegin_hushed h) h
  · exact h

theorem leaveSilenced_hushed (h : Hushed b s) : Hushed b (leaveSilenced s) := by
  unfold leaveSilenced
  dsimp only
  split
  · exact beginSeek_hushed h
  · exact h

theorem takeStop_hushed (h : Hushed b s) : Hushed b (takeStop s) := by
  unfold takeStop
  dsimp only
  split
  case h_1 | h_2 | h_3 => exact stopPlay_hushed h
  case h_5 => exact hushed_ite (beginSeek_hushed h) h
  case h_6 => exact hushed_ite h (leaveSilenced_hushed h)
  all_goals exact h

/-- A restarted station has heard nothing, and holds no frame (R70, R203). -/
theorem restarted_hushed (b s : State) : Hushed b (restarted s) := by
  refine hushed_of_silent ⟨rfl, rfl⟩ ?_ ?_ rfl
  · unfold restarted restartLine
    dsimp only
    split <;> rfl
  · unfold restarted restartLine
    dsimp only
    split <;> rfl

theorem restartStation_hushed (b s : State) : Hushed b (restartStation s) :=
  hushed_ite (offerSelect_hushed (restarted_hushed b s)) (restarted_hushed b s)

theorem takeCue_hushed {c : Cue} {n : Nat} (h : Hushed b s) : Hushed b (takeCue c n s) := by
  cases c with
  | select => exact takeSelect_hushed h
  | start => exact takeStart_hushed h
  | stop => exact takeStop_hushed h
  | restart => exact hushed_ite h (restartStation_hushed b s)

/-! ## The re-time pass and the channels (R154, R158, R159) -/

theorem endPass_hushed (h : Hushed b s) : Hushed b (endPass s) := by
  unfold endPass
  split
  · split <;> exact h
  · exact h

theorem visitWaiting_hushed {e : EntryNo} {a : Action} (h : Hushed b s) : Hushed b (visitWaiting e a s) :=
  settleTable_hushed (testEntry_hushed h)

theorem visitArmed_hushed {e : EntryNo} {c : ChannelNo} {a : Action} (h : Hushed b s) : Hushed b (visitArmed e c a s) :=
  hushed_ite (settleTable_hushed (fireAtOnce_hushed h)) (hushed_ite h (settleTable_hushed h))

theorem visit_hushed {e : EntryNo} (h : Hushed b s) : Hushed b (visit e s) := by
  unfold visit
  split
  · exact h
  · dsimp only
    split
    · exact visitWaiting_hushed h
    · exact visitArmed_hushed h
    · exact h

theorem applyExpired_hushed {c : ChannelNo} {e : EntryNo} {time : Time} (h : Hushed b s) : Hushed b (applyExpired c e time s) := by
  unfold applyExpired
  split
  · exact h
  · split
    · exact applyNoteOn_hushed h
    · exact h
    · exact h

/-! ## The output stage (R171 to R173) -/

theorem returnMismatched_hushed (h : Hushed b s) : Hushed b (returnMismatched s) :=
  endChecks_hushed (hushed_ite (raiseFault_hushed h) h)

theorem latchFrame_hushed {frame returned : BitVec 96} (h : Hushed b s) : Hushed b (latchFrame frame returned s) := by
  have checked : Hushed b (returnCheck returned { s with out.frame := none }) := by
    unfold returnCheck
    split
    · exact hushed_ite h (hushed_ite (endChecks_hushed h) (returnMismatched_hushed h))
    · exact h
  exact checked

theorem assertionTaken_hushed (h : Hushed b s) : Hushed b (assertionTaken s) := by
  unfold assertionTaken
  split
  · exact h
  · exact h
  · exact offerFrame_hushed (enterSilenced_hushed h) (by simp [FrameBody.kind])

/-! ## The score store (R43 to R54) -/

theorem probe_hushed {hymn low high : Nat} (h : Hushed b s) : Hushed b (probe hymn low high s) := by
  unfold probe
  split
  · exact loadFailed_hushed h
  · exact h

theorem takeEntry_hushed {hymn low high at_ : Nat} {e : DirectoryEntry} (h : Hushed b s) : Hushed b (takeEntry hymn low high at_ e s) :=
  hushed_ite (loadFailed_hushed h) (hushed_ite h (hushed_ite (probe_hushed h) (probe_hushed h)))

theorem takeDirectory_hushed {bytes : List Byte} (h : Hushed b s) : Hushed b (takeDirectory bytes s) := by
  unfold takeDirectory
  split
  · exact hushed_ite (loadFailed_hushed h) (probe_hushed h)
  · exact takeEntry_hushed h
  · exact h

theorem takeHeader_hushed {bytes : List Byte} (h : Hushed b s) : Hushed b (takeHeader bytes s) := by
  unfold takeHeader
  split
  · exact hushed_ite h (loadFailed_hushed h)
  · exact h

theorem takePlan_hushed {bytes : List Byte} (h : Hushed b s) : Hushed b (takePlan bytes s) := by
  unfold takePlan
  split
  · split
    · exact testPrimed_hushed (startReaders_hushed h)
    · exact loadFailed_hushed h
  · exact h

theorem markStep_hushed (h : Hushed b s) (turn : markStep s = some t) : Hushed b t := by
  unfold markStep at turn
  split at turn
  · dsimp only at turn
    split at turn
    · cases turn
    · split at turn
      · cases turn
        exact h
      · split at turn
        · cases turn
          exact h
        · split at turn
          · split at turn <;> cases turn <;> exact h
          · cases turn
            exact raiseFault_hushed h
  · cases turn

theorem runMarks_hushed (h : Hushed b s) : Hushed b (runMarks s) := by
  have turned : Hushed b (settleMarks (iterate markStep 40 s)) := settleMarks_hushed (iterate_invariant (fun _ _ => markStep_hushed) 40 h)
  exact testPrimed_hushed (testExhausted_hushed (hushed_ite (rewatch_hushed turned) turned))

theorem takeMarkBlock_hushed {bytes : List Byte} (h : Hushed b s) : Hushed b (takeMarkBlock bytes s) :=
  hushed_ite (runMarks_hushed h) (runMarks_hushed (raiseFault_hushed h))

theorem noteStep_hushed (h : Hushed b s) (turn : noteStep s = some t) : Hushed b t := by
  unfold noteStep at turn
  split at turn
  · cases turn
  · dsimp only at turn
    split at turn
    · exact settleNotesStep_hushed h turn
    · split at turn
      · cases turn
      · split at turn
        · cases turn
          exact h
        · split at turn
          · cases turn
            exact h
          · split at turn
            · cases turn
              exact raiseFault_hushed h
            · split at turn <;> cases turn
              exact h

theorem runNotes_hushed (h : Hushed b s) : Hushed b (runNotes s) :=
  testPrimed_hushed (iterate_invariant (fun _ _ => noteStep_hushed) 60 h)

theorem takeNoteBlock_hushed {bytes : List Byte} (h : Hushed b s) : Hushed b (takeNoteBlock bytes s) :=
  hushed_ite (runNotes_hushed h) (runNotes_hushed (raiseFault_hushed h))

theorem insertNote_hushed (h : Hushed b s) : Hushed b (insertNote s) := by
  unfold insertNote
  split
  · exact runNotes_hushed (insertPair_hushed h)
  · exact h

theorem stopStep_hushed (h : Hushed b s) (turn : stopStep s = some t) : Hushed b t := by
  unfold stopStep at turn
  split at turn
  · cases turn
    exact insertStop_hushed h
  · cases turn

end Sys2Proof.Machine
end

section
namespace Sys2Proof.Machine

variable {b s t : State}

/-! ## Frames sent and received (R6 to R10, R17 to R20) -/

/-- The frame that returns from a clash was on the line (R9, R10). -/
theorem returnClashed_hushed {f : QueuedFrame} (h : Hushed b s)
    (held : (f :: s.line.queue).countP QueuedFrame.isHeard + (s.line.onLine.toList.map (·.frame)).countP QueuedFrame.isHeard ≤ b.ear.heard) :
    Hushed b (returnClashed f s) := by
  have back : Hushed b { s with line.queue := (requeue s.line.queue { f with clashes := f.clashes + 1 }).1 } := by
    refine ⟨h.deaf, (Nat.add_le_add_right ?_ _).trans held, h.own⟩
    have returned := countP_requeue_le s.line.queue { f with clashes := f.clashes + 1 }
    rwa [List.countP_cons] at returned ⊢
  unfold returnClashed
  dsimp only
  split
  · exact faultFrameLeft_hushed (raiseFault_hushed h)
  · split
    · rename_i q e
      rw [e] at back
      exact back
    · rename_i q e
      rw [e] at back
      exact faultFrameLeft_hushed back

theorem heardFrom_hushed {w : WireFrame} {k : ObsKind} {n : BitVec 8} (h : Hushed b s) : Hushed b (heardFrom w k n s) :=
  hushed_ite (takeException_hushed h) (deliver_hushed (s := hearPeer w.sender s) h nofun)

theorem pulseFrom_hushed {w : WireFrame} {f : PulseFields} (h : Hushed b s) : Hushed b (pulseFrom w f s) :=
  hushed_ite h (testJoin_hushed h)

theorem takeHalt_hushed (h : Hushed b s) : Hushed b (takeHalt s) := hushed_ite h (enterSilenced_hushed h)

theorem cueFrom_hushed {w : WireFrame} {c : Cue} {n : Nat} (h : Hushed b s) : Hushed b (cueFrom w c n s) := by
  unfold cueFrom
  split
  · split
    · exact takeCue_hushed h
    · exact h
  · exact takeCue_hushed (s := hearPeer w.sender s) h

theorem completeOwn_hushed {f : QueuedFrame} (h : Hushed b s) : Hushed b (completeOwn f s) := by
  unfold completeOwn
  split
  · exact takeCue_hushed h
  · exact faultFrameLeft_hushed h
  · exact h

/-! ## The commands -/

/-- A command whose effect is hushed keeps the ear hushed, whether its event can happen or not (log 2). -/
theorem act_hushed {due : Bool} (h : due = true → Hushed s t) : Answers Hushed s (act s due t) := by
  intro u e
  rcases act_cases e with ⟨happens, rfl⟩ | ⟨-, rfl⟩
  · exact h happens
  · exact .refl u

/-- A command whose event cannot happen. -/
theorem act_false_hushed (s t : State) : Answers Hushed s (act s false t) := act_hushed nofun

theorem completeRead_hushed {units : List FlashUnit} {bytes : List Byte} {use : State → State} (h : ∀ {u}, Hushed s u → Hushed s (use u)) :
    Answers Hushed s (completeRead units bytes use s) :=
  act_hushed fun _ => hushed_ite (.refl s) (h (.refl s))

theorem receiveCue_hushed {c : Cue} {bytes : List Byte} : Answers Hushed s (receiveCue c bytes s) := by
  unfold receiveCue
  split
  · split
    · exact act_hushed fun _ => cueFrom_hushed (.refl s)
    · exact act_false_hushed s s
  · exact act_false_hushed s s

/-- A frame that goes on the line leaves the queue (R6, R7). -/
theorem execSyncMarkBegin_hushed (s : State) : Answers Hushed s (execSyncMarkBegin s) := by
  refine act_hushed fun due => ?_
  simp only [Bool.and_eq_true, Option.isNone_iff_eq_none] at due
  obtain ⟨⟨⟨-, offLine⟩, -⟩, -⟩ := due
  cases passed : s.line.queue.dropWhile (tooOld s.now) with
  | nil => exact (Hushed.refl s).queue [] (Nat.zero_le _)
  | cons f rest =>
    have sub : (f :: rest).Sublist s.line.queue := passed ▸ List.dropWhile_sublist _
    refine ⟨id, ?_, fun o mem _ => mem⟩
    have fewer := sub.countP_le (p := QueuedFrame.isHeard)
    simpa [Ear.heard, State.ear, lowBit, offLine, List.countP_cons] using fewer

/-- The frame on the line takes its age, and stays what it is (R8, R13). -/
theorem execFrameMark_hushed (n : Nat) (s : State) : Answers Hushed s (execFrameMark n s) := by
  refine act_hushed fun _ => ⟨id, ?_, fun o mem _ => mem⟩
  cases line : s.line.onLine <;> simp [Ear.heard, State.ear, lowBit, line]

theorem execFrameClash_hushed (bit : Nat) (level : Bool) (s : State) : Answers Hushed s (execFrameClash bit level s) := by
  unfold execFrameClash
  split
  · exact act_false_hushed s s
  · rename_i f onLine
    refine act_hushed fun _ => returnClashed_hushed (Hushed.refl s).offLine ?_
    simp [Ear.heard, State.ear, onLine, List.countP_cons]

theorem execFrameComplete_hushed (s : State) : Answers Hushed s (execFrameComplete s) := by
  unfold execFrameComplete
  split
  · exact act_false_hushed s s
  · exact act_hushed fun _ => completeOwn_hushed (Hushed.refl s).offLine

theorem execLineQuiet_hushed (n : Nat) (s : State) : Answers Hushed s (execLineQuiet n s) := by
  refine act_hushed fun _ => ?_
  unfold levelSeen
  split <;> exact Hushed.refl s

/-- A frame of a peer, whose effect is hushed (R19). -/
theorem peerEffect_hushed {bytes : List Byte} {u : State} (h : Hushed s u) :
    Answers Hushed s (act s true (if s.isHalted then endOfFrame bytes s else u)) :=
  act_hushed fun _ => hushed_ite (Hushed.refl s) h

theorem execHeardReceived_hushed (bytes : List Byte) (s : State) : Answers Hushed s (execHeardReceived bytes s) := by
  unfold execHeardReceived
  split
  · split
    · exact peerEffect_hushed (heardFrom_hushed (Hushed.refl s))
    · exact act_false_hushed s s
  · exact act_false_hushed s s

theorem execPulseReceived_hushed (bytes : List Byte) (s : State) : Answers Hushed s (execPulseReceived bytes s) := by
  unfold execPulseReceived
  split
  · split
    · exact peerEffect_hushed (pulseFrom_hushed (Hushed.refl s))
    · exact act_false_hushed s s
  · exact act_false_hushed s s

theorem execHaltReceived_hushed (bytes : List Byte) (s : State) : Answers Hushed s (execHaltReceived bytes s) := by
  unfold execHaltReceived
  split
  · split
    · exact peerEffect_hushed (takeHalt_hushed (Hushed.refl s))
    · exact act_false_hushed s s
  · exact act_false_hushed s s

theorem execFaultReceived_hushed (bytes : List Byte) (s : State) : Answers Hushed s (execFaultReceived bytes s) := by
  unfold execFaultReceived
  split
  · split
    · exact peerEffect_hushed (Hushed.refl s)
    · exact act_false_hushed s s
  · exact act_false_hushed s s

theorem execInvalidFrame_hushed (bytes : List Byte) (broken : List Bool) (s : State) :
    Answers Hushed s (execInvalidFrame bytes broken s) := by
  unfold execInvalidFrame
  split
  · exact act_false_hushed s s
  all_goals exact act_hushed fun _ => .refl s

theorem execDuplicate_hushed (bytes : List Byte) (s : State) : Answers Hushed s (execDuplicate bytes s) := by
  unfold execDuplicate
  split
  · exact act_hushed fun _ => raiseFault_hushed (Hushed.refl s)
  · exact act_false_hushed s s

/-! ### Start-up, the cue port and the outputs -/

/-- The end of the configuration read moves the watch of the front end and nothing that it has heard (R36, R195). -/
theorem endConfiguration_hushed {c : Configuration} (h : Hushed b s) : Hushed b (endConfiguration c s) := ⟨h.deaf, h.heard, h.own⟩

theorem execConfigurationSectionRead_hushed (bytes : List Byte) (s : State) : Answers Hushed s (execConfigurationSectionRead bytes s) := by
  have taken : Hushed s (endConfiguration (sectionConfig bytes) s) := endConfiguration_hushed (Hushed.refl s)
  exact act_hushed fun _ => hushed_ite (endChecks_hushed (hushed_ite (raiseFault_hushed taken) taken)) (Hushed.refl s)

theorem execButtonPressEdge_hushed (button : Button) (s : State) : Answers Hushed s (execButtonPressEdge button s) :=
  act_hushed fun _ => hushed_ite (hushed_ite (Hushed.refl s) (Hushed.refl s)) (offerCue_hushed (Hushed.refl s))

theorem execValveFrameLatch_hushed (returned : BitVec 96) (s : State) : Answers Hushed s (execValveFrameLatch returned s) := by
  unfold execValveFrameLatch
  split
  · exact act_hushed fun _ => latchFrame_hushed (Hushed.refl s)
  · exact act_false_hushed s s

/-! ### The gather unit and the follower -/

theorem execOnsetTaken_hushed (s : State) : Answers Hushed s (execOnsetTaken s) := by
  unfold execOnsetTaken
  split
  · exact act_hushed fun _ => judgeOnset_hushed (nextTaken_hushed s)
  · exact act_false_hushed s s

theorem execReleaseTaken_hushed (s : State) : Answers Hushed s (execReleaseTaken s) := by
  unfold execReleaseTaken
  split
  · exact act_hushed fun _ => hushed_ite (nextTaken_hushed s) (nextTaken_hushed s)
  · exact act_false_hushed s s

theorem execGatherOpen_hushed (s : State) : Answers Hushed s (execGatherOpen s) := by
  unfold execGatherOpen
  split
  · refine act_hushed fun _ => ?_
    split
    · exact hushed_ite (Hushed.refl s) (Hushed.refl s)
    · exact .refl s
  · exact act_false_hushed s s

theorem execGatherCloseExpiry_hushed (which : Fin 2) (s : State) : Answers Hushed s (execGatherCloseExpiry which s) := by
  unfold execGatherCloseExpiry
  split
  · exact act_hushed fun _ => .refl s
  · exact act_false_hushed s s

theorem execGatherCloseTaken_hushed (s : State) : Answers Hushed s (execGatherCloseTaken s) := by
  unfold execGatherCloseTaken
  split
  · exact act_hushed fun _ => hushed_ite (applyMatched_hushed (Hushed.refl s)) (applyVoid_hushed (Hushed.refl s))
  · exact act_false_hushed s s

theorem execClusterTaken_hushed (s : State) : Answers Hushed s (execClusterTaken s) := by
  unfold execClusterTaken
  split
  · exact act_hushed fun _ => hushed_ite (clusterInHold_hushed (Hushed.refl s)) (clusterAhead_hushed (Hushed.refl s))
  · exact act_false_hushed s s

theorem execBeatEvent_hushed (s : State) : Answers Hushed s (execBeatEvent s) := by
  unfold execBeatEvent
  split
  · exact act_hushed fun _ => beatStages_hushed (Hushed.refl s)
  · exact act_false_hushed s s

theorem execBroadenMarkReached_hushed (s : State) : Answers Hushed s (execBroadenMarkReached s) := by
  unfold execBroadenMarkReached
  split
  · exact act_hushed fun _ => reachBroaden_hushed (Hushed.refl s)
  · exact act_false_hushed s s

theorem execHoldPointReached_hushed (s : State) : Answers Hushed s (execHoldPointReached s) := by
  unfold execHoldPointReached
  split
  · exact act_hushed fun _ => takeHold_hushed (Hushed.refl s)
  · exact act_false_hushed s s

theorem execHoldLimitExpiry_hushed (s : State) : Answers Hushed s (execHoldLimitExpiry s) := by
  unfold execHoldLimitExpiry
  split
  · exact act_hushed fun _ => .refl s
  · exact act_false_hushed s s

theorem execHoldRelease_hushed (s : State) : Answers Hushed s (execHoldRelease s) := by
  unfold execHoldRelease
  split
  · exact act_hushed fun _ => stage_hushed reportAnchor_hushed (releaseSteps_hushed (Hushed.refl s))
  · exact act_false_hushed s s

/-! ### The action scheduler -/

theorem execRetimeVisit_hushed (s : State) : Answers Hushed s (execRetimeVisit s) := by
  unfold execRetimeVisit
  split
  · exact act_false_hushed s s
  · refine act_hushed fun _ => ?_
    split
    · exact endPass_hushed (visit_hushed (Hushed.refl s))
    · exact .refl s

theorem execChannelExpiry_hushed (channel : ChannelNo) (s : State) : Answers Hushed s (execChannelExpiry channel s) := by
  unfold execChannelExpiry
  split
  · exact act_hushed fun _ => settleTable_hushed (applyExpired_hushed (Hushed.refl s))
  · exact act_false_hushed s s

theorem execStopPulseEnd_hushed (channel : ChannelNo) (s : State) : Answers Hushed s (execStopPulseEnd channel s) := by
  unfold execStopPulseEnd
  split
  · exact act_hushed fun _ => settleTable_hushed (Hushed.refl s)
  · exact act_false_hushed s s

/-! ### The front end -/

/-- A station without LISTEN does not listen (R22). -/
theorem not_listening_of_no_listen {s : State} (without : s.cfg.listen = false) : s.listening = false := by simp [State.listening, without]

/-- Without LISTEN the loss watch does not run (R22, R34). -/
theorem execSoundInputLost_of_deaf {s : State} (without : s.cfg.listen = false) : execSoundInputLost s = .next s :=
  act_of_not_due (by simp [not_listening_of_no_listen without])

/-- Without LISTEN the pins are not read (R22). -/
theorem execSampleTaken_of_deaf {s : State} (without : s.cfg.listen = false) (edges : List SoundEdge) (ago : Nat) :
    execSampleTaken edges ago s = .next s := execSampleTaken_of_unread (.inl (not_listening_of_no_listen without))

/-- Every command of a station without LISTEN keeps its ear hushed. The commands stand in groups: those that leave the ear alone, the resets, the
flash reads, the frames sent and received, those that need the front end to listen, and those whose effect is a shared operation. -/
theorem exec_hushed (c : Instr) (s : State) (without : s.cfg.listen = false) : Answers Hushed s (exec c s) := by
  have same := Hushed.refl s
  cases c with
  | offPulsesEnd | peerAbsenceExpiry _ | coilRelease _ _ | valveFrameStart | cutoffPinChange _ | cutoffReleaseEdge | pwmPeriodStart
  | syncMarkRejected _ | lineReleasedHigh => exact act_hushed fun _ => same
  | resetAsserted | fullStart _ => exact act_hushed fun _ => hushed_of_silent ⟨rfl, rfl⟩ rfl rfl rfl
  | lineQuiet n => exact execLineQuiet_hushed n s
  | lineHeldLow _ => exact act_hushed fun _ => hushed_ite same (raiseFault_hushed same)
  | joinCountComplete => exact act_hushed fun _ => hushed_ite (endFullStart_hushed same) same
  | directoryRead _ => exact completeRead_hushed takeDirectory_hushed
  | headerRead _ => exact completeRead_hushed takeHeader_hushed
  | versePlanRead _ => exact completeRead_hushed takePlan_hushed
  | markBlockRead _ => exact completeRead_hushed takeMarkBlock_hushed
  | noteBlockRead _ => exact completeRead_hushed takeNoteBlock_hushed
  | select _ | start _ | stop _ | restart _ => exact receiveCue_hushed
  | syncMarkBegin => exact execSyncMarkBegin_hushed s
  | frameMark n => exact execFrameMark_hushed n s
  | frameClash bit level => exact execFrameClash_hushed bit level s
  | frameComplete => exact execFrameComplete_hushed s
  | heardReceived bytes => exact execHeardReceived_hushed bytes s
  | pulseReceived bytes => exact execPulseReceived_hushed bytes s
  | haltReceived bytes => exact execHaltReceived_hushed bytes s
  | faultReceived bytes => exact execFaultReceived_hushed bytes s
  | invalidFrame bytes broken => exact execInvalidFrame_hushed bytes broken s
  | duplicate bytes => exact execDuplicate_hushed bytes s
  | configurationSectionRead bytes => exact execConfigurationSectionRead_hushed bytes s
  | soundCheckTimeout => exact act_hushed fun _ => endChecks_hushed (hushed_ite same (raiseFault_hushed same))
  | sampleTaken edges ago =>
    intro t e
    cases (execSampleTaken_of_deaf without edges ago).symm.trans e
    exact same
  | soundInputLost =>
    intro t e
    cases (execSoundInputLost_of_deaf without).symm.trans e
    exact same
  | valveFrameLatch returned => exact execValveFrameLatch_hushed returned s
  | assertionEdge => exact act_hushed fun _ => assertionTaken_hushed same
  | hymnNumberStable => exact act_hushed fun _ => offerSelect_hushed same
  | buttonPressEdge button => exact execButtonPressEdge_hushed button s
  | bothHeldRestart => exact act_hushed fun _ => hushed_ite (restartStation_hushed s _) (offerCue_hushed same)
  | debouncedLevelChange _ => exact act_hushed fun _ => hushed_ite same (hushed_ite same same)
  | markAppend => exact act_hushed fun _ => runMarks_hushed same
  | notePairInsert => exact act_hushed fun _ => insertNote_hushed same
  | stopActionInsert => exact act_hushed fun _ => runNotes_hushed (iterate_invariant (fun _ _ => stopStep_hushed) 16 same)
  | endOfScore => exact act_hushed fun _ => testHymnEnd_hushed same
  | onsetTaken => exact execOnsetTaken_hushed s
  | releaseTaken => exact execReleaseTaken_hushed s
  | gatherOpen => exact execGatherOpen_hushed s
  | gatherCloseExpiry which => exact execGatherCloseExpiry_hushed which s
  | gatherCloseTaken => exact execGatherCloseTaken_hushed s
  | clusterTaken => exact execClusterTaken_hushed s
  | beatEvent => exact execBeatEvent_hushed s
  | broadenMarkReached => exact execBroadenMarkReached_hushed s
  | holdPointReached => exact execHoldPointReached_hushed s
  | holdLimitExpiry => exact execHoldLimitExpiry_hushed s
  | holdRelease => exact execHoldRelease_hushed s
  | retimeVisit => exact execRetimeVisit_hushed s
  | actionArm _ => exact act_hushed fun _ => settleTable_hushed same
  | dueTimePassedWaiting _ => exact act_hushed fun _ => settleTable_hushed (testEntry_hushed same)
  | channelExpiry channel => exact execChannelExpiry_hushed channel s
  | stopPulseEnd channel => exact execStopPulseEnd_hushed channel s

end Sys2Proof.Machine

open Sys2Proof Sys2Proof.Machine

/-- Settles O29: a station without LISTEN has no level, no loss watch and no sample, and every command keeps its ear hushed. -/
theorem withoutListenNothingHeard : Obligations.WithoutListenNothingHeard := by
  unfold Obligations.WithoutListenNothingHeard
  intro s without
  refine ⟨by simp [State.ownLevel, not_listening_of_no_listen without], execSoundInputLost_of_deaf without, execSampleTaken_of_deaf without,
    fun c t next => ?_⟩
  have hushed := exec_hushed c s without t next
  exact ⟨fun quiet empty => hushed.deaf ⟨quiet, empty⟩, hushed.heard, hushed.own⟩

end

section
/-! What a command can do to the bearing of a station: its play state, what is left to sound, the load, and the stack of its lines (R46, R59,
R106, R127, R166). Said once as moves; that nothing sounds in SILENCED and HALTED, and that every period stays in its limits, is then shown move
by move. -/

namespace Sys2Proof.Machine

/-- The play state with the join, the start step, what is left to sound, the load, and the stack with the change in hand. -/
structure Bearing where
  play : PlayState
  join : Option Join
  step : StartStep
  table : Vector (Option Action) 64
  counts : Vector Nat 64
  marks : ReaderPhase
  notes : ReaderPhase
  loader : Loader
  seek : Option Nat
  header : Option Header
  slots : Vector (Option Slot) 4
  top : Fin 4
  change : Option Change

/-- The bearing of a state. -/
def State.bearing (s : State) : Bearing :=
  ⟨s.play.state, s.play.join, s.startup.step, s.sched.table, s.out.counts, s.store.marks.phase, s.store.notes.phase, s.store.loader,
    s.store.seek, s.header, s.follow.slots, s.follow.top, s.follow.change⟩

/-- LEADING, FOLLOWING and HOLDING. -/
def PlayState.plays : PlayState → Bool
  | .leading | .following | .holding => true
  | _ => false

/-- SILENCED and HALTED. -/
def PlayState.mute : PlayState → Bool
  | .silenced | .halted => true
  | _ => false

/-- The steps of a load up to the header's read, at which no hymn is held (R43, R44). -/
def Loader.searches : Loader → Bool
  | .count _ | .search _ _ _ _ | .header _ _ _ => true
  | _ => false

/-- The bearing of a station entering SILENCED (R59, R79). -/
def Bearing.silenced (v : Bearing) : Bearing where
  play := .silenced
  join := none
  step := v.step
  table := Vector.replicate 64 none
  counts := Vector.replicate 64 0
  marks := .stopped
  notes := .stopped
  loader := .idle
  seek := none
  header := if v.loader = .idle then v.header else none
  slots := Vector.replicate 4 none
  top := 0
  change := none

/-- What one operation does to the bearing, under the conditions on which the operations do it. `loads` says
whether the full start or a load may come to its end. -/
inductive Move (loads : Prop) (v : Bearing) : Bearing → Prop
  /-- RESET_ASSERTED and FULL_START (R194, R195). -/
  | reset (step : StartStep) (early : step ≠ .done) : Move loads v { State.reset.bearing with step := step }
  /-- A start step before DONE (R195 to R201). -/
  | startStep (step : StartStep) (was : v.step ≠ .done) (early : step ≠ .done) : Move loads v { v with step := step }
  /-- The end of full start (R201). -/
  | fullStartEnds (may : loads) (was : v.step = .joining) : Move loads v { v with step := .done, play := .idle }
  /-- Entry to SILENCED (R79). -/
  | silenced (started : v.play ≠ .starting) : Move loads v v.silenced
  /-- Entry to HALTED (R81). -/
  | halted : Move loads v { v.silenced with play := .halted, step := .done }
  /-- RESTART (R70). -/
  | restarted (started : v.play ≠ .starting) : Move loads v { State.reset.bearing with step := v.step, play := .idle }
  /-- A join request given up, formed, or started with a period within the hymn's limits (R75, R76). -/
  | join (join : Option Join)
      (fits : ∀ j ∈ join, ∀ a ∈ j.anchor, ∃ h p, v.header = some h ∧ a.period = h.clampPeriod p) : Move loads v { v with join := join }
  /-- From one play state in play to another (R71 to R74). -/
  | plays (play : PlayState) (was : v.play.plays = true) (now : play.plays = true) : Move loads v { v with play := play }
  /-- Play stopped (R68, R78). -/
  | stops (was : v.play.plays = true) :
      Move loads v { v with play := .loaded, join := none, slots := Vector.replicate 4 none, top := 0, change := none }
  /-- SILENCED left for LOADED or IDLE (R59, R80). -/
  | wakes (play : PlayState) (marks notes : ReaderPhase) (was : v.play = .silenced) (now : play = .loaded ∨ play = .idle) :
      Move loads v { v with play := play, marks := marks, notes := notes }
  /-- Outside SILENCED and HALTED, or in a load, the table is emptied and the readers are set up (R46, R56, R165). -/
  | seeks (table : Vector (Option Action) 64) (counts : Vector Nat 64) (marks notes : ReaderPhase) (seek : Option Nat)
      (live : v.play.mute = true → v.loader ≠ .idle) : Move loads v { v with table := table, counts := counts, marks := marks, notes := notes, seek := seek }
  /-- A seek completes (R56). -/
  | sought : Move loads v { v with seek := none }
  /-- A load begins (R43, R66). -/
  | loads (n : Nat) (was : v.play = .idle ∨ v.play = .loading ∨ v.play = .loaded) (free : ∀ j ∈ v.join, j.anchor = none) :
      Move loads v { v with play := .loading, loader := .count n, header := none }
  /-- The directory search and the header's read go on, up to a header in range (R43, R44). -/
  | searches (loader : Loader) (was : v.loader.searches = true)
      (now : loader.searches = true ∨ ∃ address h, loader = .plan address h ∧ h.periodInRange = true) : Move loads v { v with loader := loader }
  /-- The verse plan read (R45, R46). -/
  | planned (address : Nat) (h : Header) (was : v.loader = .plan address h) : Move loads v { v with loader := .priming, header := some h }
  /-- The load complete (R46). -/
  | loaded (may : loads) (was : v.loader = .priming) : Move loads v { v with loader := .idle, play := .loaded }
  /-- The load failed (R47). -/
  | loadFails (may : loads) (was : v.loader ≠ .idle) : Move loads v { v with loader := .idle, header := none, play := .idle, join := none }
  /-- Play begins or a join completes (R67, R76). -/
  | begins (h : Header) (a : Anchor) (was : v.play = .loaded) (header : v.header = some h)
      (fits : a.period = h.period ∨ ∃ n j, v.join = some ⟨n, some j⟩ ∧ a.period = j.period) :
      Move loads v
        { v with
          play := .leading, join := none, slots := (Vector.replicate 4 none).set 0 (some ⟨.active, a, none⟩), top := 0, change := none }
  /-- An action of the table is fired, armed, timed or freed (R153, R155). -/
  | fires (e : EntryNo) (table : Vector (Option Action) 64) (counts : Vector Nat 64) (here : v.table[e] ≠ none) :
      Move loads v { v with table := table, counts := counts }
  /-- The running note reader inserts (R149). -/
  | inserts (table : Vector (Option Action) 64) (running : v.notes = .running) : Move loads v { v with table := table }
  /-- Actions change or leave the table, and none enters (R161 to R164). -/
  | holds (table : Vector (Option Action) 64) (fewer : ∀ e : EntryNo, v.table[e] = none → table[e] = none) : Move loads v { v with table := table }
  /-- A change of the ruling anchor taken in hand (R107). -/
  | changes (change : Change) (inPlay : v.play.plays = true) : Move loads v { v with change := some change }
  /-- The change has ended (R103). -/
  | ends : Move loads v { v with change := none }
  /-- The ruling line rewritten with the period it has, or with one within the hymn's limits (R106). -/
  | anchors (a : Anchor)
      (fits : (∀ slot ∈ v.slots[v.top], a.period = slot.anchor.period) ∨ ∀ h ∈ v.header, ∃ p, a.period = h.clampPeriod p) :
      Move loads v { v with slots := v.slots.set v.top ((v.slots[v.top]).map fun slot => { slot with anchor := a }) }
  /-- A hypothesis pushed (R129). -/
  | pushes (f : Follower) (position : Nat) (time : Time) (slots : f.slots = v.slots) (top : f.top = v.top) (inPlay : v.play.plays = true) :
      Move loads v { v with slots := (f.push position time).slots, top := (f.push position time).top }
  /-- The ruling hypothesis popped (R130). -/
  | pops (f : Follower) (slots : f.slots = v.slots) (top : f.top = v.top)
      (provisional : ∃ slot, v.slots[v.top] = some slot ∧ slot.tag = .provisional) :
      Move loads v { v with slots := f.pop.slots, top := f.pop.top }
  /-- The ruling hypothesis confirmed (R131). -/
  | confirms (f : Follower) (slots : f.slots = v.slots) (top : f.top = v.top)
      (provisional : ∃ slot, v.slots[v.top] = some slot ∧ slot.tag = .provisional) : Move loads v { v with slots := f.confirm.slots }

/-- From the first state to the second the bearing goes by moves. It speaks of the bearings alone, so whatever leaves the bearing as it was keeps
it. -/
def Reaches (loads : Prop) (b s : State) : Prop := Relation.ReflTransGen (Move loads) b.bearing s.bearing

variable {loads : Prop} {b s t : State}

theorem Reaches.refl (s : State) : Reaches loads s s := Relation.ReflTransGen.refl

theorem Reaches.move (h : Reaches loads b s) (move : Move loads s.bearing t.bearing) : Reaches loads b t := Relation.ReflTransGen.tail h move

theorem Reaches.trans {u : State} (h : Reaches loads b s) (k : Reaches loads s u) : Reaches loads b u := Relation.ReflTransGen.trans h k

/-- What every move keeps, a state reached keeps. -/
theorem Reaches.keeps {p : Bearing → Prop} (kept : ∀ v w, Move loads v w → p v → p w) (h : Reaches loads b s) (before : p b.bearing) : p s.bearing := by
  unfold Reaches at h
  generalize s.bearing = w at h ⊢
  induction h with
  | refl => exact before
  | tail _ move ih => exact kept _ _ move ih

theorem reaches_ite {c : Prop} [Decidable c] (h : Reaches loads b s) (k : Reaches loads b t) : Reaches loads b (if c then s else t) := by
  split
  · exact h
  · exact k

/-! ## The play states -/

theorem plays_iff_inPlay (s : State) : s.play.state.plays = s.inPlay := by
  unfold State.inPlay State.moving PlayState.plays
  cases s.play.state <;> rfl

theorem mute_iff_muted (s : State) : s.play.state.mute = s.muted := by
  unfold State.muted State.isHalted PlayState.mute
  cases s.play.state <;> rfl

theorem plays_of_moving (moving : s.moving = true) : s.play.state.plays = true := by
  rw [plays_iff_inPlay, State.inPlay, moving]
  rfl

/-! ## What every move keeps -/

/-- Nothing left to sound: no action, no hold count, the readers stopped, no load and no seek (R59, R166). -/
structure Bearing.Empty (v : Bearing) : Prop where
  table : ∀ e : EntryNo, v.table[e] = none
  counts : ∀ key : Key, v.counts[key] = 0
  marks : v.marks = .stopped
  notes : v.notes = .stopped
  loader : v.loader = .idle
  seek : v.seek = none

/-- Nothing left to sound in SILENCED and HALTED. -/
def Bearing.still (v : Bearing) : Prop := v.play.mute = true → v.Empty

theorem silenced_empty (v : Bearing) : v.silenced.Empty := by
  constructor <;> simp [Bearing.silenced]

/-- The one case split over the moves for O9: a move out of SILENCED and HALTED leaves nothing to show, and of the others each finds a table
with an action, a running reader or a load, which an empty station has not. -/
theorem Move.still {v w : Bearing} (move : Move loads v w) (still : v.still) : w.still := by
  intro mute
  cases move with
  | reset | fullStartEnds | restarted | stops | loads | loaded | loadFails | begins => cases mute
  | silenced => exact silenced_empty v
  | halted =>
    obtain ⟨table, counts, marks, notes, loader, seek⟩ := silenced_empty v
    exact ⟨table, counts, marks, notes, loader, seek⟩
  | plays play was now => exact absurd now (by cases play <;> simp_all [PlayState.plays, PlayState.mute])
  | wakes play marks notes was now => rcases now with rfl | rfl <;> cases mute
  | seeks table counts marks notes seek live => exact absurd (still mute).loader (live mute)
  | fires e table counts here => exact absurd ((still mute).table e) here
  | inserts table running =>
    have stopped := (still mute).notes
    rw [running] at stopped
    cases stopped
  | searches loader was now =>
    have idle := (still mute).loader
    rw [idle] at was
    cases was
  | planned address h was =>
    have idle := (still mute).loader
    rw [was] at idle
    cases idle
  | sought =>
    obtain ⟨table, counts, marks, notes, loader, -⟩ := still mute
    exact ⟨table, counts, marks, notes, loader, rfl⟩
  | holds table fewer =>
    obtain ⟨empty, counts, marks, notes, loader, seek⟩ := still mute
    exact ⟨fun e => fewer e (empty e), counts, marks, notes, loader, seek⟩
  | startStep | join | changes | ends | anchors | pushes | pops | confirms =>
    obtain ⟨table, counts, marks, notes, loader, seek⟩ := still mute
    exact ⟨table, counts, marks, notes, loader, seek⟩

/-- With a change in hand the station is in play. -/
def Bearing.changing (v : Bearing) : Prop := v.change.isSome = true → v.play.plays = true

theorem Move.changing {v w : Bearing} (move : Move False v w) (changing : v.changing) : w.changing := by
  intro inHand
  cases move with
  | reset | silenced | halted | restarted | stops | ends | begins => cases inHand
  | plays play was now => exact now
  | changes change inPlay => exact inPlay
  | fullStartEnds may | loaded may | loadFails may => exact may.elim
  | wakes play marks notes was =>
    have plays := changing inHand
    rw [was] at plays
    cases plays
  | loads n was =>
    have plays := changing inHand
    rcases was with was | was | was <;> rw [was] at plays <;> cases plays
  | startStep | join | seeks | sought | searches | planned | fires | inserts | holds | anchors | pushes | pops | confirms =>
    exact changing inHand

end Sys2Proof.Machine
end

section
namespace Sys2Proof.Machine

variable {loads : Prop}

/-! ## The stack, the start and the load (R46, R127, R202) -/

/-- A stack in play (R127): a TOP that is ACTIVE with no FALLBACK in the stack, or PROVISIONAL over a FALLBACK. -/
def StackInPlay (slots : Vector (Option Slot) 4) (top : Fin 4) : Prop :=
  ∃ slot, slots[top] = some slot ∧
    (slot.tag = .active ∧ (∀ i : Fin 4, isFallback slots[i] = false) ∨ slot.tag = .provisional ∧ isFallback slots[top + 1] = true)

/-- A stack out of play: every slot EMPTY, the TOP index 0 (R126). -/
def StackEmpty (slots : Vector (Option Slot) 4) (top : Fin 4) : Prop := (∀ i : Fin 4, slots[i] = none) ∧ top = 0

/-- The stack as the play state has it, a play state once full start is done, and a load only in LOADING. -/
structure Bearing.Placed (v : Bearing) : Prop where
  inPlay : v.play.plays = true → StackInPlay v.slots v.top
  outOfPlay : v.play.plays = false → StackEmpty v.slots v.top
  start : v.step = .done ↔ v.play ≠ .starting
  loader : v.loader ≠ .idle → v.play = .loading

/-- The limits of a hymn hold its nominal period between them (R44, R106). -/
theorem period_between {h : Header} (inRange : h.periodInRange = true) : h.minPeriod ≤ h.period ∧ h.period ≤ h.maxPeriod := by
  simp only [Header.periodInRange, Bool.and_eq_true, decide_eq_true_eq] at inRange
  obtain ⟨low, high⟩ := inRange
  exact ⟨max_le low (by omega), le_min high (by omega)⟩

theorem period_admitted {h : Header} (inRange : h.periodInRange = true) : h.admits h.period = true := by
  obtain ⟨low, high⟩ := period_between inRange
  simp [Header.admits, low, high]

theorem clampInt_between {least greatest : Nat} (le : least ≤ greatest) (p : Int) :
    least ≤ (clampInt least greatest p).toNat ∧ (clampInt least greatest p).toNat ≤ greatest := by
  unfold clampInt
  split
  · omega
  · split <;> omega

/-- A period clamped to a hymn's limits lies within them (R106). -/
theorem clampPeriod_admitted {h : Header} (inRange : h.periodInRange = true) (p : Int) : h.admits (h.clampPeriod p) = true := by
  obtain ⟨low, high⟩ := period_between inRange
  obtain ⟨above, below⟩ := clampInt_between (low.trans high) p
  simp [Header.admits, Header.clampPeriod, above, below]

theorem stackEmpty_replicate : StackEmpty (Vector.replicate 4 none) 0 := ⟨fun i => by simp, rfl⟩

theorem isSome_of_isFallback {x : Option Slot} (h : isFallback x = true) : ∃ slot, x = some slot := by
  cases x with
  | none => cases h
  | some slot => exact ⟨slot, rfl⟩

/-- A slot written is read back, and the others stand. -/
theorem slots_set_self (v : Vector (Option Slot) 4) (i : Fin 4) (x : Option Slot) : (v.set i x)[i] = x := Vector.getElem_set_self _

theorem slots_set_other (v : Vector (Option Slot) 4) {i j : Fin 4} (x : Option Slot) (off : j ≠ i) : (v.set i x)[j] = v[j] :=
  Vector.getElem_set_ne _ _ fun e => off (Fin.ext e.symm)

theorem dropFallbacks_getElem (v : Vector (Option Slot) 4) (i : Fin 4) :
    (dropFallbacks v)[i] = if isFallback v[i] then none else v[i] := mapVec_getElem _ v i

theorem isFallback_dropFallbacks (v : Vector (Option Slot) 4) (i : Fin 4) : isFallback (dropFallbacks v)[i] = false := by
  rw [dropFallbacks_getElem]
  split
  · rfl
  · exact Bool.eq_false_iff.2 ‹_›

/-- A line rewritten keeps its tag, so the stack stays as it is (R128). -/
theorem StackInPlay.anchors {slots : Vector (Option Slot) 4} {top : Fin 4} (h : StackInPlay slots top) (a : Anchor) :
    StackInPlay (slots.set top ((slots[top]).map fun slot => { slot with anchor := a })) top := by
  obtain ⟨slot, here, tags⟩ := h
  have same (i : Fin 4) : isFallback (slots.set top ((slots[top]).map fun slot => { slot with anchor := a }))[i] = isFallback slots[i] := by
    by_cases at_top : i = top
    · rw [at_top, slots_set_self, here]
      rfl
    · rw [slots_set_other _ _ at_top]
  refine ⟨{ slot with anchor := a }, by rw [slots_set_self, here]; rfl, ?_⟩
  simp only [same]
  exact tags

/-- A push leaves a PROVISIONAL TOP over the FALLBACK that ruled before (R129). -/
theorem StackInPlay.pushes {f : Follower} (h : StackInPlay f.slots f.top) (position : Nat) (time : Time) :
    StackInPlay (f.push position time).slots (f.push position time).top := by
  obtain ⟨slot, here, -⟩ := h
  refine ⟨_, slots_set_self _ _ _, .inr ⟨rfl, ?_⟩⟩
  have below : f.top - 1 + 1 = f.top := sub_add_cancel _ _
  have off : f.top ≠ f.top - 1 := by
    generalize f.top = i
    revert i
    decide
  simp only [Follower.push, below]
  rw [slots_set_other _ _ off, slots_set_self, here]
  rfl

/-- A slot given the tag ACTIVE, the FALLBACKs dropped (R130, R131). -/
theorem stackInPlay_of_active {slots : Vector (Option Slot) 4} {i : Fin 4} {slot : Slot} (here : slots[i] = some slot)
    (active : slot.tag = .active) : StackInPlay (dropFallbacks slots) i := by
  have no_fallback : isFallback slots[i] = false := by rw [here]; simp [isFallback, active]
  refine ⟨slot, ?_, .inl ⟨active, isFallback_dropFallbacks slots⟩⟩
  rw [dropFallbacks_getElem, no_fallback, here]
  rfl

theorem StackInPlay.confirms {f : Follower} (h : StackInPlay f.slots f.top) : StackInPlay f.confirm.slots f.top := by
  obtain ⟨slot, here, -⟩ := h
  exact stackInPlay_of_active (slot := { slot with tag := .active }) (by rw [slots_set_self, here]; rfl) rfl

/-- A pop restores the FALLBACK below a PROVISIONAL TOP (R130). -/
theorem StackInPlay.pops {f : Follower} (h : StackInPlay f.slots f.top) (provisional : ∃ slot, f.slots[f.top] = some slot ∧ slot.tag = .provisional) :
    StackInPlay f.pop.slots f.pop.top := by
  obtain ⟨slot, here, tags⟩ := h
  obtain ⟨other, there, tag⟩ := provisional
  cases Option.some.inj (here.symm.trans there)
  have fallback : isFallback f.slots[f.top + 1] = true := by
    rcases tags with ⟨active, -⟩ | ⟨-, fallback⟩
    · rw [tag] at active
      cases active
    · exact fallback
  obtain ⟨below, restored⟩ := isSome_of_isFallback fallback
  have off : f.top + 1 ≠ f.top ∧ f.top + 1 + 1 ≠ f.top + 1 := by
    generalize f.top = i
    revert i
    decide
  have left : (f.slots.set f.top none)[f.top + 1] = some below := by rw [slots_set_other _ _ off.1, restored]
  unfold Follower.pop
  dsimp only
  split
  · rename_i deeper
    refine ⟨{ below with tag := .provisional }, ?_, .inr ⟨rfl, ?_⟩⟩
    · dsimp only
      rw [slots_set_self, left]
      rfl
    · dsimp only
      rw [slots_set_other _ _ off.2]
      exact deeper
  · refine stackInPlay_of_active (slot := { below with tag := .active }) ?_ rfl
    rw [slots_set_self, left]
    rfl

/-- Play begins on a stack of one ACTIVE slot (R67, R128). -/
theorem stackInPlay_of_begin (a : Anchor) : StackInPlay ((Vector.replicate 4 none).set 0 (some ⟨.active, a, none⟩)) 0 := by
  refine ⟨⟨.active, a, none⟩, rfl, .inl ⟨rfl, fun i => ?_⟩⟩
  match i with
  | 0 | 1 | 2 | 3 => rfl

/-- Out of LOADING no load stands. -/
theorem Bearing.Placed.idle {v : Bearing} (h : v.Placed) (out : v.play ≠ .loading) : v.loader = .idle := by
  by_contra load
  exact out (h.loader load)

theorem not_loading_of_plays {play : PlayState} (plays : play.plays = true) : play ≠ .loading := by rintro rfl; cases plays

theorem not_starting_of_plays {play : PlayState} (plays : play.plays = true) : play ≠ .starting := by rintro rfl; cases plays

section

variable {v w : Bearing}

theorem Bearing.Placed.done (h : v.Placed) (started : v.play ≠ .starting) : v.step = .done := h.start.2 started

/-- A station placed out of play. -/
theorem placed_out_of_play (out : w.play.plays = false) (stack : StackEmpty w.slots w.top) (start : w.step = .done ↔ w.play ≠ .starting)
    (loader : w.loader ≠ .idle → w.play = .loading) : w.Placed :=
  ⟨fun plays => absurd plays (ne_true_of_eq_false out), fun _ => stack, start, loader⟩

/-- A station placed in play. -/
theorem placed_in_play (plays : w.play.plays = true) (stack : StackInPlay w.slots w.top) (done : w.step = .done) (idle : w.loader = .idle) :
    w.Placed :=
  ⟨fun _ => stack, fun out => absurd plays (ne_true_of_eq_false out), iff_of_true done (not_starting_of_plays plays),
    fun load => absurd idle load⟩

/-- A station in play with another stack in play. -/
theorem Bearing.Placed.stack (h : v.Placed) (plays : v.play.plays = true) (slots : Vector (Option Slot) 4) (top : Fin 4)
    (stack : StackInPlay slots top) : ({ v with slots := slots, top := top } : Bearing).Placed :=
  placed_in_play plays stack (h.done (not_starting_of_plays plays)) (h.idle (not_loading_of_plays plays))

/-- A station with a slot at its TOP is in play. -/
theorem Bearing.Placed.plays_of_top (h : v.Placed) {slot : Slot} (here : v.slots[v.top] = some slot) : v.play.plays = true := by
  by_contra out
  have empty := (h.outOfPlay (Bool.eq_false_iff.2 out)).1 v.top
  rw [here] at empty
  cases empty

/-- The one case split over the moves for the stack, the start and the load. -/
theorem Move.placed (move : Move loads v w) (h : v.Placed) : w.Placed := by
  cases move with
  | reset step early => exact placed_out_of_play rfl stackEmpty_replicate (iff_of_false early (not_not.2 rfl)) fun load => absurd rfl load
  | startStep step was early =>
    have starting : v.play = .starting := by
      by_contra started
      exact was (h.done started)
    exact ⟨h.inPlay, h.outOfPlay, iff_of_false early (not_not.2 starting), h.loader⟩
  | fullStartEnds may was =>
    have starting : v.play = .starting := by
      by_contra started
      have done := h.done started
      rw [was] at done
      cases done
    exact placed_out_of_play rfl (h.outOfPlay (by rw [starting]; rfl)) (iff_of_true rfl nofun) fun load =>
      absurd (h.idle (by rw [starting]; nofun)) load
  | silenced started => exact placed_out_of_play rfl stackEmpty_replicate (iff_of_true (h.done started) nofun) fun load => absurd rfl load
  | halted => exact placed_out_of_play rfl stackEmpty_replicate (iff_of_true rfl nofun) fun load => absurd rfl load
  | restarted started => exact placed_out_of_play rfl stackEmpty_replicate (iff_of_true (h.done started) nofun) fun load => absurd rfl load
  | plays play was now =>
    exact placed_in_play now (h.inPlay was) (h.done (not_starting_of_plays was)) (h.idle (not_loading_of_plays was))
  | stops was =>
    exact placed_out_of_play rfl stackEmpty_replicate (iff_of_true (h.done (not_starting_of_plays was)) nofun) fun load =>
      absurd (h.idle (not_loading_of_plays was)) load
  | wakes play marks notes was now =>
    have stack := h.outOfPlay (by rw [was]; rfl)
    have done := h.done (by rw [was]; nofun)
    have idle := h.idle (by rw [was]; nofun)
    rcases now with rfl | rfl <;> exact placed_out_of_play rfl stack (iff_of_true done nofun) fun load => absurd idle load
  | loads n was =>
    have stack : StackEmpty v.slots v.top := h.outOfPlay (by rcases was with was | was | was <;> rw [was] <;> rfl)
    have done : v.step = .done := h.done (by rcases was with was | was | was <;> rw [was] <;> nofun)
    exact placed_out_of_play rfl stack (iff_of_true done nofun) fun _ => rfl
  | searches loader was =>
    have loading := h.loader (by intro idle; rw [idle] at was; cases was)
    exact ⟨h.inPlay, h.outOfPlay, h.start, fun _ => loading⟩
  | planned address header was =>
    have loading := h.loader (by rw [was]; nofun)
    exact ⟨h.inPlay, h.outOfPlay, h.start, fun _ => loading⟩
  | loaded may was =>
    have loading := h.loader (by rw [was]; nofun)
    exact placed_out_of_play rfl (h.outOfPlay (by rw [loading]; rfl)) (iff_of_true (h.done (by rw [loading]; nofun)) nofun) fun load =>
      absurd rfl load
  | loadFails may was =>
    have loading := h.loader was
    exact placed_out_of_play rfl (h.outOfPlay (by rw [loading]; rfl)) (iff_of_true (h.done (by rw [loading]; nofun)) nofun) fun load =>
      absurd rfl load
  | begins header a was => exact placed_in_play rfl (stackInPlay_of_begin a) (h.done (by rw [was]; nofun)) (h.idle (by rw [was]; nofun))
  | anchors a =>
    refine ⟨fun plays => (h.inPlay plays).anchors a, fun out => ?_, h.start, h.loader⟩
    obtain ⟨empty, top⟩ := h.outOfPlay out
    refine ⟨fun i => ?_, top⟩
    by_cases at_top : i = v.top
    · rw [at_top, slots_set_self, empty]
      rfl
    · rw [slots_set_other _ _ at_top, empty]
  | pushes f position time slots top plays =>
    have stack : StackInPlay f.slots f.top := slots ▸ top ▸ h.inPlay plays
    exact h.stack plays _ _ (stack.pushes position time)
  | pops f slots top provisional =>
    obtain ⟨slot, here, tag⟩ := provisional
    have plays := h.plays_of_top here
    have stack : StackInPlay f.slots f.top := slots ▸ top ▸ h.inPlay plays
    exact h.stack plays _ _ (stack.pops ⟨slot, by simpa only [slots, top] using here, tag⟩)
  | confirms f slots top provisional =>
    obtain ⟨slot, here, tag⟩ := provisional
    have plays := h.plays_of_top here
    have stack : StackInPlay f.slots f.top := slots ▸ top ▸ h.inPlay plays
    exact h.stack plays _ _ (top ▸ stack.confirms)
  | join | seeks | sought | fires | inserts | holds | changes | ends => exact ⟨h.inPlay, h.outOfPlay, h.start, h.loader⟩

end

/-! ## The periods (R44, R76, R106) -/

/-- The periods of the stack and of the join anchor within the limits of the hymn held; no join anchor and no hymn before a load has come to
priming. -/
structure Bearing.Measured (v : Bearing) : Prop where
  inRange : ∀ h ∈ v.header, h.periodInRange = true
  slots : ∀ h ∈ v.header, ∀ i : Fin 4, ∀ slot ∈ v.slots[i], h.admits slot.anchor.period = true
  join : ∀ h ∈ v.header, ∀ j ∈ v.join, ∀ a ∈ j.anchor, h.admits a.period = true
  noJoin : v.header = none → ∀ j ∈ v.join, j.anchor = none
  searching : v.loader.searches = true → v.header = none
  planning : ∀ address h, v.loader = .plan address h → v.header = none ∧ h.periodInRange = true

variable {v w : Bearing}

/-- Whatever stands in the slots after a rewriting of some of them with periods that fit, the periods fit. -/
theorem admitted_set {slots : Vector (Option Slot) 4} {h : Header} (all : ∀ i : Fin 4, ∀ slot ∈ slots[i], h.admits slot.anchor.period = true)
    (at_ : Fin 4) (x : Option Slot) (fits : ∀ slot ∈ x, h.admits slot.anchor.period = true) :
    ∀ i : Fin 4, ∀ slot ∈ (slots.set at_ x)[i], h.admits slot.anchor.period = true := by
  intro i slot mem
  by_cases here : i = at_
  · rw [here, slots_set_self] at mem
    exact fits slot mem
  · rw [slots_set_other _ _ here] at mem
    exact all i slot mem

theorem admitted_dropFallbacks {slots : Vector (Option Slot) 4} {h : Header}
    (all : ∀ i : Fin 4, ∀ slot ∈ slots[i], h.admits slot.anchor.period = true) :
    ∀ i : Fin 4, ∀ slot ∈ (dropFallbacks slots)[i], h.admits slot.anchor.period = true := by
  intro i slot mem
  rw [dropFallbacks_getElem] at mem
  split at mem
  · cases mem
  · exact all i slot mem

theorem admitted_retag {x : Option Slot} {h : Header} {tag : Tag} (fits : ∀ slot ∈ x, h.admits slot.anchor.period = true) :
    ∀ slot ∈ retag tag x, h.admits slot.anchor.period = true := by
  intro slot mem
  obtain ⟨old, here, rfl⟩ := Option.map_eq_some_iff.1 mem
  exact fits old here

/-- Without a hymn held the periods are measured by nothing; only the join must have no anchor, and a header read be in range. -/
theorem measured_without (without : w.header = none) (noJoin : ∀ j ∈ w.join, j.anchor = none)
    (planning : ∀ address h, w.loader = .plan address h → h.periodInRange = true) : w.Measured where
  inRange h mem := by rw [without] at mem; cases mem
  slots h mem := by rw [without] at mem; cases mem
  join h mem := by rw [without] at mem; cases mem
  noJoin _ := noJoin
  searching _ := without
  planning address h plan := ⟨without, planning address h plan⟩

/-- With every slot EMPTY and no join anchor only the header is measured. -/
theorem measured_empty (inRange : ∀ h ∈ w.header, h.periodInRange = true) (empty : ∀ i : Fin 4, w.slots[i] = none)
    (noJoin : ∀ j ∈ w.join, j.anchor = none) (ready : w.loader = .idle ∨ w.loader = .priming) : w.Measured where
  inRange := inRange
  slots h _ i slot mem := by rw [empty i] at mem; cases mem
  join h _ j here a mem := by rw [noJoin j here] at mem; cases mem
  noJoin _ := noJoin
  searching searches := by rcases ready with ready | ready <;> rw [ready] at searches <;> cases searches
  planning address h plan := by rcases ready with ready | ready <;> rw [ready] at plan <;> cases plan

theorem Bearing.Measured.stack (k : v.Measured) (slots : Vector (Option Slot) 4) (top : Fin 4)
    (fits : ∀ h ∈ v.header, ∀ i : Fin 4, ∀ slot ∈ slots[i], h.admits slot.anchor.period = true) :
    ({ v with slots := slots, top := top } : Bearing).Measured :=
  ⟨k.inRange, fits, k.join, k.noJoin, k.searching, k.planning⟩

theorem StackInPlay.admits_push {f : Follower} {h : Header} (stack : StackInPlay f.slots f.top) (position : Nat) (time : Time)
    (all : ∀ i : Fin 4, ∀ slot ∈ f.slots[i], h.admits slot.anchor.period = true) :
    ∀ i : Fin 4, ∀ slot ∈ (f.push position time).slots[i], h.admits slot.anchor.period = true := by
  obtain ⟨ruling, here, -⟩ := stack
  refine admitted_set (admitted_set all _ _ (admitted_retag (all f.top))) _ _ ?_
  rintro _ ⟨⟩
  simpa only [here, Option.map_some, Option.getD_some] using all f.top ruling here

theorem admits_confirm {f : Follower} {h : Header} (all : ∀ i : Fin 4, ∀ slot ∈ f.slots[i], h.admits slot.anchor.period = true) :
    ∀ i : Fin 4, ∀ slot ∈ f.confirm.slots[i], h.admits slot.anchor.period = true :=
  admitted_dropFallbacks (admitted_set all _ _ (admitted_retag (all f.top)))

theorem admits_pop {f : Follower} {h : Header} (all : ∀ i : Fin 4, ∀ slot ∈ f.slots[i], h.admits slot.anchor.period = true) :
    ∀ i : Fin 4, ∀ slot ∈ f.pop.slots[i], h.admits slot.anchor.period = true := by
  have left := admitted_set all f.top none nofun
  have restored (tag : Tag) := admitted_set left (f.top + 1) _ (admitted_retag (tag := tag) (left (f.top + 1)))
  unfold Follower.pop
  dsimp only
  split
  · exact restored .provisional
  · exact admitted_dropFallbacks (restored .active)

/-- The one case split over the moves for the periods. -/
theorem Move.measured (move : Move loads v w) (h : v.Placed) (k : v.Measured) : w.Measured := by
  have empty (out : v.play.plays = false) : ∀ i : Fin 4, v.slots[i] = none := (h.outOfPlay out).1
  have loading (load : v.loader ≠ .idle) : v.play.plays = false := by rw [h.loader load]; rfl
  have silent : v.silenced.Measured := by
    refine measured_empty (fun header mem => k.inRange header ?_) stackEmpty_replicate.1 nofun (.inl rfl)
    unfold Bearing.silenced at mem
    dsimp only at mem
    split at mem
    · exact mem
    · cases mem
  cases move with
  | reset => exact measured_without rfl nofun nofun
  | restarted => exact measured_without rfl nofun nofun
  | silenced => exact silent
  | halted => exact ⟨silent.inRange, silent.slots, silent.join, silent.noJoin, silent.searching, silent.planning⟩
  | stops was =>
    exact measured_empty k.inRange stackEmpty_replicate.1 nofun (.inl (h.idle (not_loading_of_plays was)))
  | join join fits =>
    refine ⟨k.inRange, k.slots, fun header here j mem a anchor => ?_, fun without j mem => ?_, k.searching, k.planning⟩
    · obtain ⟨held, p, same, period⟩ := fits j mem a anchor
      cases Option.some.inj (here.symm.trans same)
      rw [period]
      exact clampPeriod_admitted (k.inRange header here) p
    · refine Option.eq_none_iff_forall_not_mem.2 fun a anchor => ?_
      obtain ⟨held, p, same, -⟩ := fits j mem a anchor
      rw [without] at same
      cases same
  | loads n was free => exact measured_without rfl free nofun
  | searches loader was now =>
    have without := k.searching was
    refine measured_without without (k.noJoin without) fun address header plan => ?_
    rcases now with now | ⟨address', header', now, inRange⟩
    · rw [show loader = _ from plan] at now
      cases now
    · obtain ⟨rfl, rfl⟩ := Loader.plan.inj (plan.symm.trans now)
      exact inRange
  | planned address header was =>
    obtain ⟨without, inRange⟩ := k.planning address header was
    refine measured_empty ?_ (empty (loading (by rw [was]; nofun))) (k.noJoin without) (.inr rfl)
    rintro _ ⟨⟩
    exact inRange
  | loaded may was => exact ⟨k.inRange, k.slots, k.join, k.noJoin, nofun, nofun⟩
  | loadFails may was => exact measured_without rfl nofun nofun
  | begins header a was held fits =>
    refine ⟨k.inRange, fun other mem => ?_, nofun, nofun, k.searching, k.planning⟩
    cases Option.some.inj (mem.symm.trans held)
    refine admitted_set (slots := Vector.replicate 4 none) (fun i slot mem => absurd mem (by simp)) (0 : Fin 4) _ ?_
    rintro _ ⟨⟩
    rcases fits with period | ⟨n, j, joined, period⟩ <;> rw [period]
    · exact period_admitted (k.inRange header held)
    · exact k.join header held _ joined j rfl
  | anchors a fits =>
    refine k.stack _ _ fun header held => admitted_set (k.slots header held) _ _ fun slot mem => ?_
    obtain ⟨old, here, rfl⟩ := Option.map_eq_some_iff.1 mem
    rcases fits with same | clamped
    · rw [same old here]
      exact k.slots header held _ old here
    · obtain ⟨p, period⟩ := clamped header held
      rw [period]
      exact clampPeriod_admitted (k.inRange header held) p
  | pushes f position time slots top plays =>
    have stack : StackInPlay f.slots f.top := slots ▸ top ▸ h.inPlay plays
    exact k.stack _ _ fun header held => stack.admits_push position time (slots ▸ k.slots header held)
  | pops f slots top => exact k.stack _ _ fun header held => admits_pop (slots ▸ k.slots header held)
  | confirms f slots top => exact k.stack _ _ fun header held => admits_confirm (slots ▸ k.slots header held)
  | startStep | fullStartEnds | plays | wakes | seeks | sought | fires | inserts | holds | changes | ends =>
    exact ⟨k.inRange, k.slots, k.join, k.noJoin, k.searching, k.planning⟩

end Sys2Proof.Machine
end

section
namespace Sys2Proof.Machine

variable {loads : Prop} {b s t : State}

/-! ## What leaves the bearing as it was -/

/-- A state with the bearing of one reached is reached. -/
theorem Reaches.same (h : Reaches loads b s) (e : t.bearing = s.bearing) : Reaches loads b t := by
  unfold Reaches
  rw [e]
  exact h

@[simp] theorem takeFree_bearing (s : State) : s.takeFree.2.bearing = s.bearing := rfl

@[simp] theorem offerFrame_bearing (body : FrameBody) (time : Time) (s : State) : (offerFrame body time s).bearing = s.bearing := by
  rcases offerFrame_cases body time s with ⟨-, e⟩ | ⟨-, e⟩ <;> rw [e]
  rfl

@[simp] theorem faultFrameLeft_bearing (f : QueuedFrame) (s : State) : (faultFrameLeft f s).bearing = s.bearing := by
  rcases faultFrameLeft_cases f s with e | ⟨-, -, e⟩ <;> rw [e]
  rfl

@[simp] theorem latch_bearing (ch : FaultNo) (s : State) : (latch ch s).bearing = s.bearing := rfl

@[simp] theorem latchAndReport_bearing (ch : FaultNo) (s : State) : (latchAndReport ch s).bearing = s.bearing := by
  rcases latchAndReport_cases ch s with ⟨-, e⟩ | ⟨-, e⟩ <;> rw [e]
  rfl

@[simp] theorem nameSilencing_bearing (ch : FaultNo) (before s : State) : (nameSilencing ch before s).bearing = s.bearing := by
  rcases nameSilencing_cases ch before s with e | e <;> rw [e]
  rfl

@[simp] theorem reachBroaden_bearing (limit : Int) (s : State) : (reachBroaden limit s).bearing = s.bearing := by
  unfold reachBroaden
  dsimp only
  split <;> rfl

@[simp] theorem watchNext_bearing (fuel : Nat) (s : State) : (watchNext fuel s).bearing = s.bearing := by
  induction fuel generalizing s with
  | zero => rfl
  | succ fuel ih =>
    unfold watchNext
    split
    · rfl
    · split
      · rfl
      · split
        · exact ih _
        · rfl

@[simp] theorem settleWatch_bearing (s : State) : (settleWatch s).bearing = s.bearing := watchNext_bearing _ s

@[simp] theorem startWatch_bearing (s : State) : (startWatch s).bearing = s.bearing := settleWatch_bearing s

@[simp] theorem settleMarks_bearing (s : State) : (settleMarks s).bearing = s.bearing := by
  unfold settleMarks
  split
  · dsimp only
    split
    · split
      · rfl
      · split <;> rfl
    · rfl
  · rfl

theorem settleNotesStep_bearing (s t : State) (h : settleNotesStep s = some t) : t.bearing = s.bearing := by
  unfold settleNotesStep at h
  split at h
  · dsimp only at h
    repeat' split at h
    all_goals cases h <;> rfl
  · cases h

@[simp] theorem settleNotes_bearing (s : State) : (settleNotes s).bearing = s.bearing :=
  iterate_keeps State.bearing settleNotesStep_bearing 20 s

@[simp] theorem noteEnd_bearing (s : State) : (noteEnd s).bearing = s.bearing := by
  unfold noteEnd
  split <;> rfl

@[simp] theorem beforeChange_bearing (s : State) : (beforeChange s).bearing = s.bearing := by
  obtain ⟨_, _, e, -⟩ := beforeChange_cases s
  rw [e]
  rfl

/-- The readers left for a change, with the follower that the change makes. -/
theorem beforeChange_bearing_follow (f : Follower) (s : State) :
    ({ beforeChange s with follow := f } : State).bearing = { s.bearing with slots := f.slots, top := f.top, change := f.change } :=
  congrArg (fun v : Bearing => { v with slots := f.slots, top := f.top, change := f.change }) (beforeChange_bearing s)

theorem reportAnchor_bearing (s : State) : (reportAnchor s).bearing = { s.bearing with change := none } :=
  congrArg (fun v : Bearing => { v with change := none }) (reachBroaden_bearing s.position s)

/-! ## Faults and exceptions (R79, R120, R184 to R190) -/

theorem enterSilenced_bearing (s : State) : (enterSilenced s).bearing = s.bearing.silenced := by
  have header : (if s.store.loader = .idle then s.store.hymn else none).map (·.header) = if s.store.loader = .idle then s.header else none := by
    rw [apply_ite (Option.map _)]
    rfl
  exact congrArg (fun x => { s.bearing.silenced with header := x }) header

theorem enterSilenced_reaches (h : Reaches loads b s) (started : s.play.state ≠ .starting) : Reaches loads b (enterSilenced s) :=
  h.move (enterSilenced_bearing s ▸ .silenced started)

theorem enterHalted_reaches (h : Reaches loads b s) : Reaches loads b (enterHalted s) := by
  have bearing : (enterHalted s).bearing = { s.bearing.silenced with play := .halted, step := .done } :=
    congrArg (fun v : Bearing => { v with play := .halted, step := .done }) (enterSilenced_bearing s)
  exact h.move (bearing ▸ .halted)

theorem silence_reaches (h : Reaches loads b s) : Reaches loads b (silence s) := by
  rcases silence_cases s with ⟨-, e⟩ | ⟨-, e⟩ | ⟨-, started, e⟩ <;> rw [e]
  · exact h
  · exact h
  · exact enterSilenced_reaches h started

theorem leadReaction_reaches (h : Reaches loads b s) : Reaches loads b (leadReaction s) := by
  unfold leadReaction
  split
  · exact h
  · rename_i following
    exact h.move (.plays .leading (congrArg PlayState.plays following) rfl)
  · exact h
  · exact h

theorem raiseFault_reaches {ch : FaultNo} (h : Reaches loads b s) : Reaches loads b (raiseFault ch s) := by
  rcases raiseFault_cases ch s with ⟨-, e⟩ | ⟨-, -, ⟨-, e⟩ | ⟨-, e⟩ | ⟨-, -, e⟩ | ⟨-, -, e⟩⟩ <;> rw [e]
  · exact h
  · exact h.same (latchAndReport_bearing ch s)
  · exact leadReaction_reaches (h.same (latchAndReport_bearing ch s))
  · exact enterHalted_reaches (h.same (latch_bearing ch s))
  · exact silence_reaches (h.same (by simp))

theorem exceptionDefault_reaches {e : FollowerException} (h : Reaches loads b s) : Reaches loads b (exceptionDefault e s) := by
  unfold exceptionDefault
  split
  · exact h
  · dsimp only
    split
    · rename_i following
      exact h.move (.plays .leading (congrArg PlayState.plays following) rfl)
    · exact h
  · exact h

theorem takeException_reaches {e : FollowerException} {c : Option (Station × BitVec 8)} (h : Reaches loads b s) :
    Reaches loads b (takeException e c s) := by
  have default : Reaches loads b (exceptionDefault e { s with follow.sticky := s.follow.sticky ||| (1#7 <<< e.bit) }) :=
    exceptionDefault_reaches h
  rcases takeException_cases e c s with ⟨-, eq⟩ | ⟨-, ⟨-, eq⟩ | ⟨-, eq⟩⟩ <;> rw [eq]
  · exact h
  · exact default
  · exact raiseFault_reaches (reaches_ite default default)

theorem takeExceptionIf_reaches {cond : Bool} {e : FollowerException} {c : Option (Station × BitVec 8)} (h : Reaches loads b s) :
    Reaches loads b (takeExceptionIf cond e c s) := reaches_ite (takeException_reaches h) h

theorem deliver_reaches {o : Observation} (h : Reaches loads b s) : Reaches loads b (deliver o s) := by
  rcases deliver_cases o s with ⟨-, e⟩ | ⟨-, -, e⟩ | ⟨-, -, _, _, -, e⟩ <;> rw [e]
  · exact h
  · exact h
  · exact takeException_reaches h

theorem reportAnchor_reaches (h : Reaches loads b s) : Reaches loads b (reportAnchor s) := h.move (reportAnchor_bearing s ▸ .ends)

/-- A stage of a change runs with the change in hand (R107). -/
theorem stage_reaches_inHand {f : State → State} (effect : s.follow.change.isSome = true → Reaches loads b (f s)) (h : Reaches loads b s) :
    Reaches loads b (stage f s) := by
  rcases stage_cases f s with ⟨inHand, e⟩ | ⟨-, e⟩ <;> rw [e]
  · exact effect inHand
  · exact h

theorem stage_reaches {f : State → State} (effect : ∀ {u}, Reaches loads b u → Reaches loads b (f u)) (h : Reaches loads b s) :
    Reaches loads b (stage f s) := stage_reaches_inHand (fun _ => effect h) h

/-! ## Play, seeks, joins and loads (R43, R46, R56, R67, R75 to R78) -/

theorem startReaders_reaches {beat : Nat} (h : Reaches loads b s) (live : s.play.state.mute = true → s.store.loader ≠ .idle) :
    Reaches loads b (startReaders beat s) := by
  unfold startReaders
  split
  · exact h
  · refine Reaches.same (Reaches.same ?_ (settleMarks_bearing _)) (settleNotes_bearing _)
    exact h.move (.seeks _ _ _ _ _ live)

/-- Play begins on a hymn held, with its nominal period or the join's (R67, R76). -/
theorem enterPlay_reaches {sect beat : Nat} {a : Anchor} {c : Change} {hymn : Header} (h : Reaches loads b s) (loaded : s.play.state = .loaded)
    (held : s.header = some hymn) (fits : a.period = hymn.period ∨ ∃ n j, s.play.join = some ⟨n, some j⟩ ∧ a.period = j.period) :
    Reaches loads b (enterPlay sect a beat c s) := by
  have before := beforeChange_bearing s
  have bearing : (enterPlay sect a beat c s).bearing =
      { s.bearing with
        play := .leading, join := none, slots := (Vector.replicate 4 none).set 0 (some ⟨.active, a, none⟩), top := 0, change := none } := by
    unfold enterPlay
    rw [reportAnchor_bearing, startWatch_bearing, ← before]
    rfl
  exact h.move (bearing ▸ .begins hymn a loaded held fits)

theorem joinComplete_reaches {n : Nat} {j : JoinAnchor} (h : Reaches loads b s) (loaded : s.play.state = .loaded)
    (join : s.play.join = some ⟨n, some j⟩) : Reaches loads b (joinComplete j s) := by
  unfold joinComplete
  split
  · exact enterPlay_reaches h loaded ‹_› (.inr ⟨n, j, join, rfl⟩)
  · exact h

theorem completeSeek_reaches (h : Reaches loads b s) : Reaches loads b (completeSeek s) := by
  have sought : Reaches loads b { s with store.seek := none } := h.move .sought
  unfold completeSeek
  split
  · refine reaches_ite ?_ h
    dsimp only
    split
    · rename_i loaded join
      exact joinComplete_reaches sought loaded join
    · exact sought
  · exact h

theorem beginSeek_reaches {beat : Nat} (h : Reaches loads b s) (live : s.play.state.mute = true → s.store.loader ≠ .idle) :
    Reaches loads b (beginSeek beat s) := by
  have emptied : Reaches loads b
      { emptyFired s with
        store := { (emptyFired s).store with port := (emptyFired s).store.port.abandonAll, queue := [], seek := some beat } } :=
    h.move (.seeks _ _ _ _ _ live)
  exact completeSeek_reaches (startReaders_reaches emptied live)

theorem live_of_state {p : PlayState} (state : s.play.state = p) (awake : p.mute = false) :
    s.play.state.mute = true → s.store.loader ≠ .idle := fun mute => absurd mute (by simp [state, awake])

theorem settleMarks_play (s : State) : (settleMarks s).play = s.play := by
  unfold settleMarks
  split
  · dsimp only
    repeat' split
    all_goals rfl
  · rfl

theorem settleNotesStep_play (s t : State) (turn : settleNotesStep s = some t) : t.play = s.play := by
  unfold settleNotesStep at turn
  split at turn
  · dsimp only at turn
    repeat' split at turn
    all_goals cases turn <;> rfl
  · cases turn

theorem startReaders_play (beat : Nat) (s : State) : (startReaders beat s).play = s.play := by
  unfold startReaders
  split
  · rfl
  · exact (iterate_keeps State.play settleNotesStep_play 20 _).trans (settleMarks_play _)

theorem completeSeek_play (noJoin : s.play.join = none) : (completeSeek s).play = s.play := by
  unfold completeSeek
  split
  · split
    · dsimp only
      split
      · rename_i join
        rw [noJoin] at join
        cases join
      · rfl
    · rfl
  · rfl

/-- A seek with no join request leaves the play controller alone (R56). -/
theorem beginSeek_play (beat : Nat) (noJoin : s.play.join = none) : (beginSeek beat s).play = s.play := by
  unfold beginSeek
  dsimp only
  rw [completeSeek_play, startReaders_play]
  · rfl
  · rw [startReaders_play]
    exact noJoin

theorem playBegin_reaches {mark : Time} (h : Reaches loads b s) (loaded : s.play.state = .loaded) : Reaches loads b (playBegin mark s) := by
  let cleared : State := { s with play := { s.play with pendingStart := none, join := none } }
  have unjoined : Reaches loads b cleared := h.move (.join none nofun)
  have sought : Reaches loads b (if cleared.store.seek.any (· != 0) then beginSeek 0 cleared else cleared) :=
    reaches_ite (beginSeek_reaches unjoined (live_of_state loaded rfl)) unjoined
  have still : (if cleared.store.seek.any (· != 0) then beginSeek 0 cleared else cleared).play = cleared.play := by
    split
    · exact beginSeek_play 0 rfl
    · rfl
  unfold playBegin
  dsimp only
  split
  · exact enterPlay_reaches sought ((congrArg PlayController.state still).trans loaded) ‹_› (.inl rfl)
  · exact sought

theorem joinStart_reaches {hymn : Nat} (h : Reaches loads b s) (awake : s.play.state.mute = false) :
    Reaches loads b (joinStart hymn s) := by
  have unjoined : Reaches loads b { s with play.join := none } := h.move (.join none nofun)
  unfold joinStart
  split
  · rename_i c header _ held
    refine reaches_ite unjoined (beginSeek_reaches (h.move (.join _ ?_)) fun mute => absurd mute (ne_true_of_eq_false awake))
    rintro _ ⟨⟩ _ ⟨⟩
    exact ⟨header, c.fields.period, held, rfl⟩
  · exact unjoined

theorem mute_of_plays {p : PlayState} (plays : p.plays = true) : p.mute = false := by
  cases p with
  | leading | following | holding => rfl
  | starting | idle | loading | loaded | silenced | halted => cases plays

theorem stopPlay_reaches (h : Reaches loads b s) (plays : s.play.state.plays = true) : Reaches loads b (stopPlay s) := by
  have emptied : Reaches loads b (emptyFired s) :=
    h.move (.seeks _ _ _ _ _ fun mute => absurd mute (ne_true_of_eq_false (mute_of_plays plays)))
  exact beginSeek_reaches (emptied.move (.stops plays)) nofun

theorem testHymnEnd_reaches (h : Reaches loads b s) : Reaches loads b (testHymnEnd s) := by
  rcases testHymnEnd_cases s with e | ⟨moving, -, -, e⟩ <;> rw [e]
  · exact h
  · exact stopPlay_reaches h (plays_of_moving moving)

theorem beginLoad_reaches {hymn : Nat} (h : Reaches loads b s)
    (was : s.play.state = .idle ∨ s.play.state = .loading ∨ s.play.state = .loaded) (free : ∀ j ∈ s.play.join, j.anchor = none) :
    Reaches loads b (beginLoad hymn s) := by
  have awake : s.play.state.mute = false := by rcases was with was | was | was <;> rw [was] <;> rfl
  have emptied : Reaches loads b { emptyFired s with store.marks.phase := .idle, store.notes.phase := .idle, store.seek := none } :=
    h.move (.seeks _ _ _ _ _ fun mute => absurd mute (ne_true_of_eq_false awake))
  exact emptied.move (.loads hymn was free)

theorem loadFailed_reaches (h : Reaches True b s) (load : s.store.loader ≠ .idle) : Reaches True b (loadFailed s) :=
  raiseFault_reaches (h.move (.loadFails trivial load))

theorem loadComplete_reaches (h : Reaches True b s) (priming : s.store.loader = .priming) : Reaches True b (loadComplete s) := by
  have loaded : Reaches True b { s with store.loader := .idle, play := { s.play with state := .loaded, joinLoad := none } } :=
    h.move (.loaded trivial priming)
  unfold loadComplete
  dsimp only
  split
  · exact playBegin_reaches loaded rfl
  · exact joinStart_reaches loaded rfl
  · exact loaded

theorem testPrimed_reaches (h : Reaches True b s) : Reaches True b (testPrimed s) := by
  unfold testPrimed
  split
  · exact reaches_ite (loadComplete_reaches h ‹_›) h
  · exact completeSeek_reaches h

/-- A join request formed in IDLE or LOADED (R75). -/
theorem formJoin_reaches {n : Nat} (h : Reaches loads b s) (ready : s.play.state = .idle ∨ s.play.state = .loaded) :
    Reaches loads b
      (if s.loadedNumber = some n then joinStart n { s with play.join := some ⟨n, none⟩ }
        else beginLoad n { s with play.join := some ⟨n, none⟩ }) := by
  have formed : Reaches loads b { s with play.join := some ⟨n, none⟩ } := h.move (.join _ (by rintro _ ⟨⟩; nofun))
  refine reaches_ite (joinStart_reaches formed ?_) (beginLoad_reaches formed ?_ ?_)
  · rcases ready with ready | ready <;> exact congrArg PlayState.mute ready
  · exact ready.imp_right .inr
  · rintro _ ⟨⟩
    rfl

theorem testJoin_reaches (h : Reaches loads b s) : Reaches loads b (testJoin s) := by
  have opened : Reaches loads b s.takeFree.2 := h
  unfold testJoin
  split
  · rename_i ready
    dsimp only
    split
    · exact h
    · exact formJoin_reaches h ready.1
    · exact formJoin_reaches opened ready.1
  · exact h

end Sys2Proof.Machine
end

section
namespace Sys2Proof.Machine

variable {loads : Prop} {b s t : State}

/-! ## The action table (R149 to R164) -/

theorem ne_none_of_entry {e : EntryNo} {a : Action} (here : s.sched.table[e] = some a) : s.bearing.table[e] ≠ none := by
  rw [show s.bearing.table[e] = some a from here]
  nofun

theorem applyNoteOff_reaches {e : EntryNo} {key : Key} (h : Reaches loads b s) (here : s.bearing.table[e] ≠ none) :
    Reaches loads b (applyNoteOff e key s) := h.move (.fires e _ _ here)

theorem testReleased_reaches {e : EntryNo} (h : Reaches loads b s) : Reaches loads b (testReleased e s) := by
  unfold testReleased
  split
  · rename_i here _
    split
    · exact reaches_ite (applyNoteOff_reaches h (ne_none_of_entry here)) h
    · exact h
  · exact h

theorem applyNoteOn_reaches {e : EntryNo} {key : Key} {a : Action} {due : Time} (h : Reaches loads b s)
    (here : s.bearing.table[e] ≠ none) : Reaches loads b (applyNoteOn e key a due s) := by
  unfold applyNoteOn
  split
  · exact raiseFault_reaches (h.move (.fires e _ _ here))
  · dsimp only
    split
    · exact testReleased_reaches (h.move (.fires e _ _ here))
    · exact h.move (.fires e _ _ here)

theorem fireAtOnce_reaches {e : EntryNo} {a : Action} {due : Time} (h : Reaches loads b s) (here : s.bearing.table[e] ≠ none) :
    Reaches loads b (fireAtOnce e a due s) := by
  have waits : (setEntry e (some { a with state := .waiting, due := some due }) (freeChannelOf a s.sched)).table[e] ≠ none := by
    simp [setEntry]
  unfold fireAtOnce
  dsimp only
  split
  · exact reaches_ite (raiseFault_reaches (h.move (.fires e _ _ here))) (applyNoteOn_reaches (h.move (.fires e _ _ here)) waits)
  · exact applyNoteOff_reaches (h.move (.fires e _ _ here)) waits
  · split <;> exact h.move (.fires e _ _ here)

theorem testEntry_reaches {e : EntryNo} (h : Reaches loads b s) : Reaches loads b (testEntry e s) := by
  unfold testEntry
  split
  · rename_i here _
    exact reaches_ite (fireAtOnce_reaches h (ne_none_of_entry here)) h
  · exact h

theorem serveStep_reaches (h : Reaches loads b s) (turn : serveStep s = some t) : Reaches loads b t := by
  unfold serveStep at turn
  split at turn
  · rename_i e _ _
    split at turn
    · rename_i here
      repeat' split at turn
      all_goals cases turn
      all_goals exact h.move (.fires e _ _ (ne_none_of_entry here))
    · cases turn
  · cases turn

theorem settleTable_reaches (h : Reaches loads b s) : Reaches loads b (settleTable s) :=
  testHymnEnd_reaches (iterate_invariant (fun _ _ => serveStep_reaches) 8 h)

/-- Actions changed and dropped leave a FREE entry FREE. -/
theorem mapActions_none (change : Action → Option Action) (frees : Action → Bool) (sc : Scheduler) (e : EntryNo) (none : sc.table[e] = none) :
    (mapActions change frees sc).table[e] = .none := by
  have entry : (mapActions change frees sc).table[e] = (sc.table[e]).bind change := mapVec_getElem _ sc.table e
  rw [entry, none]
  rfl

theorem mapActions_reaches {change : Action → Option Action} {frees : Action → Bool} (h : Reaches loads b s) :
    Reaches loads b { s with sched := mapActions change frees s.sched } := h.move (.holds _ (mapActions_none change frees s.sched))

theorem setBarrier_reaches {new : Option Nat} (h : Reaches loads b s) : Reaches loads b (setBarrier new s) := by
  unfold setBarrier
  cases new with
  | none =>
    refine reaches_ite h (settleTable_reaches ?_)
    split
    · exact foldl_invariant (fun _ _ => testEntry_reaches) _ h
    · exact h
  | some p =>
    have unarmed : Reaches loads b { s with sched := unarmFrom p { s.sched with barrier := some p } } :=
      h.move (.holds _ (mapActions_none _ (fun a => a.live && decide (p ≤ a.position)) _))
    refine reaches_ite h (settleTable_reaches ?_)
    split
    · exact foldl_invariant (fun _ _ => testEntry_reaches) _ unarmed
    · exact unarmed

theorem rewatch_reaches (h : Reaches loads b s) : Reaches loads b (rewatch s) :=
  reaches_ite (setBarrier_reaches (h.same (settleWatch_bearing s))) (h.same (settleWatch_bearing s))

theorem timeEntry_reaches {e : EntryNo} (h : Reaches loads b s) : Reaches loads b (timeEntry e s) := by
  unfold timeEntry
  split
  · rename_i here
    exact h.move (.fires e _ _ (ne_none_of_entry here))
  · exact h

theorem insertPair_reaches {key : Key} {p q : Nat} (h : Reaches loads b s) (running : s.store.notes.phase = .running) :
    Reaches loads b (insertPair key p q s) := by
  unfold insertPair
  split
  · exact h
  · dsimp only
    split
    · exact h
    · exact reaches_ite
        (settleTable_reaches (testEntry_reaches (testEntry_reaches (timeEntry_reaches (timeEntry_reaches (h.move (.inserts _ running)))))))
        (h.move (.inserts _ running))

theorem insertStop_reaches {stop : StopNo} {coil : Coil} {p : Nat} (h : Reaches loads b s) (running : s.store.notes.phase = .running) :
    Reaches loads b (insertStop stop coil p s) := by
  unfold insertStop
  split
  · exact h
  · exact reaches_ite (settleTable_reaches (testEntry_reaches (timeEntry_reaches (h.move (.inserts _ running))))) (h.move (.inserts _ running))

/-! ## The ruling line and the hypothesis stack (R106, R128 to R137) -/

/-- The ruling line rewritten with the period it has (R106). -/
theorem setAnchor_reaches {a : Anchor} (h : Reaches loads b s) (same : a.period = s.period) : Reaches loads b (setAnchor a s) := by
  refine h.move (.anchors a (.inl fun slot mem => ?_))
  have ruling : s.follow.slots[s.follow.top] = some slot := mem
  rw [same, State.period, State.anchor, State.ruling, ruling]
  rfl

theorem writePeriod_reaches {p : Int} {c : Option (Station × BitVec 8)} (h : Reaches loads b s) : Reaches loads b (writePeriod p c s) := by
  refine takeExceptionIf_reaches (h.move (.anchors _ (.inr fun header mem => ⟨p, ?_⟩)))
  have held : s.header = some header := mem
  simp only [State.clampPeriod, held]

theorem provisional_slot (provisional : s.provisional = true) :
    ∃ slot, s.bearing.slots[s.bearing.top] = some slot ∧ slot.tag = .provisional := by
  unfold State.provisional at provisional
  split at provisional
  · rename_i slot here
    exact ⟨slot, here, beq_iff_eq.1 provisional⟩
  · cases provisional

/-- A confirmation with the SLIP-held actions freed (R131, R137). -/
theorem confirms_reaches (h : Reaches loads b s) (provisional : s.provisional = true) :
    Reaches loads b { s with follow := s.follow.confirm, sched := freeSlip s.sched } := by
  have confirmed : Reaches loads b { s with follow := s.follow.confirm } :=
    h.move (.confirms s.follow rfl rfl (provisional_slot provisional))
  exact mapActions_reaches confirmed

theorem confirmTop_reaches (h : Reaches loads b s) (provisional : s.provisional = true) : Reaches loads b (confirmTop s) :=
  testHymnEnd_reaches (confirms_reaches h provisional)

theorem push_reaches {p : Nat} {time : Time} (h : Reaches loads b s) (plays : s.play.state.plays = true) :
    Reaches loads b (push p time s) :=
  takeExceptionIf_reaches (h.move (beforeChange_bearing_follow (s.follow.push p time) s ▸ .pushes s.follow p time rfl rfl plays))

theorem pop_change (f : Follower) : f.pop.change = f.change := by
  unfold Follower.pop
  dsimp only
  split <;> rfl

theorem pop_reaches (h : Reaches loads b s) (provisional : s.provisional = true) : Reaches loads b (pop s) := by
  have bearing := beforeChange_bearing_follow s.follow.pop s
  rw [pop_change] at bearing
  exact mapActions_reaches (h.move (bearing ▸ .pops s.follow rfl rfl (provisional_slot provisional)))

theorem testExhausted_reaches (h : Reaches loads b s) : Reaches loads b (testExhausted s) := by
  unfold testExhausted
  split
  · rename_i exhausted
    simp only [Bool.and_eq_true] at exhausted
    exact confirmTop_reaches h exhausted.1.1.2
  · exact h

@[simp] theorem adoptCluster_bearing (p : Nat) (c : Cluster) (s : State) : (adoptCluster p c s).bearing = s.bearing := by
  unfold adoptCluster
  dsimp only
  split <;> split <;> rfl

theorem slip_reaches {p : Nat} {time : Time} (h : Reaches loads b s) (plays : s.play.state.plays = true) : Reaches loads b (slip p time s) := by
  have pushed := push_reaches (p := p) (time := time) h plays
  unfold slip
  dsimp only
  refine stage_reaches (fun k => ?_) (stage_reaches (fun k => settleTable_reaches (mapActions_reaches k)) pushed)
  split
  · exact reaches_ite (rewatch_reaches k) (rewatch_reaches k)
  · exact rewatch_reaches k

theorem acceptCluster_reaches {p : Option Nat} {c : Cluster} (h : Reaches loads b s) : Reaches loads b (acceptCluster p c s) := by
  unfold acceptCluster
  split
  · exact testExhausted_reaches (h.same (adoptCluster_bearing _ _ s))
  · exact h
  · exact h

end Sys2Proof.Machine
end

section
namespace Sys2Proof.Machine

variable {loads : Prop} {b s t : State}

/-! ## Holds and releases (R74, R139, R143, R144) -/

/-- A change of the ruling anchor taken in hand in play (R107). -/
theorem changes_reaches {c : Change} (h : Reaches loads b s) (plays : s.play.state.plays = true) :
    Reaches loads b { s with follow.change := some c } := h.move (.changes c plays)

/-- A change taken in hand as the readers are left for it, with a follower of the same stack (R107). -/
theorem changed_reaches {f : Follower} {c : Change} (h : Reaches loads b s) (plays : s.play.state.plays = true)
    (slots : f.slots = s.follow.slots) (top : f.top = s.follow.top) (change : f.change = some c) :
    Reaches loads b { beforeChange s with follow := f } := by
  have bearing := beforeChange_bearing_follow f s
  rw [slots, top, change] at bearing
  exact h.move (bearing ▸ .changes c plays)

theorem takeReturn_reaches (h : Reaches loads b s) (plays : s.play.state.plays = true) :
    Reaches loads b { s with play := takeReturn s.play } := by
  unfold takeReturn
  split
  · exact h.move (.plays .following plays rfl)
  · exact h.move (.plays .leading plays rfl)

theorem takeReturn_plays (p : PlayController) : (takeReturn p).state.plays = true := by
  unfold takeReturn
  split <;> rfl

/-- A hold ended under a line written at its point: a PROVISIONAL TOP confirmed, the HELD actions and the return state taken (R143). -/
theorem ended_reaches {playStart : Time} (h : Reaches loads b s) (plays : s.play.state.plays = true) :
    let confirmed := if s.provisional then { s with follow := s.follow.confirm, sched := freeSlip s.sched } else s
    Reaches loads b
      { confirmed with
        sched := returnHeld confirmed.sched
        play := takeReturn confirmed.play
        gather := { confirmed.gather with playStart := playStart }.prunePool } := by
  have returned {u : State} (k : Reaches loads b u) (still : u.play = s.play) :
      Reaches loads b
        { u with sched := returnHeld u.sched, play := takeReturn u.play, gather := { u.gather with playStart := playStart }.prunePool } :=
    mapActions_reaches (takeReturn_reaches k (still ▸ plays))
  dsimp only
  split
  · rename_i provisional
    exact returned (confirms_reaches h provisional) rfl
  · exact returned h rfl

/-- A release: the state with the hold ended and the change in hand, in play, then hymn end tested and the watch settled (R143). -/
theorem releaseSteps_cases (plays : s.play.state.plays = true) :
    releaseSteps s = s ∧ s.follow.hold = none ∨
      ∃ t, releaseSteps s = stage (fun u => rewatch { u with follow.watch := none }) (testHymnEnd t) ∧ t.play.state.plays = true ∧
        ∀ (loads : Prop) (b : State), Reaches loads b s → Reaches loads b t := by
  unfold releaseSteps
  cases hold : s.follow.hold with
  | none => exact .inl ⟨rfl, rfl⟩
  | some record =>
    refine .inr ⟨_, rfl, takeReturn_plays _, fun loads b h => ended_reaches (setAnchor_reaches (changed_reaches h plays rfl rfl rfl) rfl) ?_⟩
    exact beforeChange_play s ▸ plays

theorem releaseSteps_reaches (h : Reaches loads b s) (plays : s.play.state.plays = true) : Reaches loads b (releaseSteps s) := by
  rcases releaseSteps_cases plays with ⟨e, -⟩ | ⟨t, e, -, reaches⟩ <;> rw [e]
  · exact h
  · exact stage_reaches (fun k => rewatch_reaches k) (testHymnEnd_reaches (reaches loads b h))

/-- With the change still in hand after a release the station is in play: nothing on its way from the ended hold ends a load or a full start. -/
theorem plays_of_released (plays : s.play.state.plays = true) (hold : s.follow.hold ≠ none)
    (inHand : (releaseSteps s).follow.change.isSome = true) : (releaseSteps s).play.state.plays = true := by
  rcases releaseSteps_cases plays with ⟨-, none⟩ | ⟨t, e, now, -⟩
  · exact absurd none hold
  · rw [e] at inHand ⊢
    have watched : Reaches False t (stage (fun u => rewatch { u with follow.watch := none }) (testHymnEnd t)) :=
      stage_reaches (fun k => rewatch_reaches k) (testHymnEnd_reaches (.refl t))
    exact watched.keeps (fun _ _ => Move.changing) (fun _ => now) inHand

end Sys2Proof.Machine
end

section
namespace Sys2Proof.Machine

variable {loads : Prop} {b s t : State}

/-! ## Observations, closes and clusters (R91 to R99, R108 to R111, R135, R144) -/

@[simp] theorem poolOnset_bearing (o : Observation) (s : State) : (poolOnset o s).bearing = s.bearing := by
  unfold poolOnset
  dsimp only
  split
  · rfl
  · split <;> rfl

theorem judgeOnset_reaches {o : Observation} (h : Reaches loads b s) : Reaches loads b (judgeOnset o s) := by
  unfold judgeOnset
  split
  · exact reaches_ite h h
  · exact reaches_ite h (reaches_ite (takeException_reaches h) (h.same (poolOnset_bearing o s)))

theorem writeClose_reaches {g : Gather} {st : PlayState} {mean : Int} (h : Reaches loads b s) : Reaches loads b (writeClose g st mean s) :=
  stage_reaches (fun k => writePeriod_reaches (setAnchor_reaches k rfl)) (takeExceptionIf_reaches (h.same (beforeChange_bearing s)))

@[simp] theorem clearCulprit_bearing (period : Nat) (time : Time) (mean : Int) (ms : List Observation) (s : State) :
    (clearCulprit period time mean ms s).bearing = s.bearing := by
  unfold clearCulprit
  split
  · split <;> rfl
  · rfl

@[simp] theorem acceptClose_bearing (mark : Nat) (w : Vector Peer 16 → Vector Peer 16) (s : State) :
    (acceptClose mark w s).bearing = s.bearing := by
  rcases acceptClose_cases mark w s with e | ⟨-, e⟩ <;> rw [e]
  rfl

theorem judgeMatched_reaches {g : Gather} {mean : Int} (h : Reaches loads b s) : Reaches loads b (judgeMatched g mean s) := by
  unfold judgeMatched
  split
  · exact h
  · rename_i provisional
    have top : s.provisional = true := by simpa using provisional
    exact reaches_ite (pop_reaches h top) (reaches_ite h (confirmTop_reaches h top))

/-- The end of a close, with a report or without (R111). -/
theorem closeEnd_reaches {moved : Prop} [Decidable moved] (h : Reaches loads b s) :
    Reaches loads b ((if moved then reportAnchor else endChange) s) := by
  split
  · exact reportAnchor_reaches h
  · exact h.move .ends

theorem reportMatched_reaches (h : Reaches loads b s) : Reaches loads b { s with play := reportMatched s.play } := by
  unfold reportMatched
  split
  · rename_i leading
    split
    · exact h
    · split
      · exact h
      · exact h.move (.plays .following (congrArg PlayState.plays leading) rfl)
  · exact h

theorem reportVoid_reaches (h : Reaches loads b s) : Reaches loads b { s with play := reportVoid s.play } := by
  unfold reportVoid
  split <;> exact h

theorem applyMatched_reaches {g : Gather} {st : PlayState} (h : Reaches loads b s) (plays : s.play.state.plays = true) :
    Reaches loads b (applyMatched g st s) := by
  have counted : Reaches loads b
      { s with
        play := reportMatched s.play
        follow := { s.follow with change := some .close, confidence := min 15 (s.follow.confidence + 1), misses := 0 } } :=
    reportMatched_reaches (changes_reaches h plays)
  unfold applyMatched
  dsimp only
  refine testExhausted_reaches (Reaches.same (stage_reaches closeEnd_reaches (stage_reaches (fun k => k.same (clearCulprit_bearing ..)) ?_))
    (acceptClose_bearing ..))
  split
  · exact stage_reaches judgeMatched_reaches (writeClose_reaches counted)
  · exact counted

/-- The pop of a VOID close under a PROVISIONAL TOP (R132). -/
theorem popsAtVoid_reaches {moves : Bool} (h : Reaches loads b s) :
    Reaches loads b (if (moves && s.provisional) = true then stage pop s else s) := by
  split
  · rename_i pops
    exact stage_reaches_inHand (fun _ => pop_reaches h (Bool.and_eq_true_iff.1 pops).2) h
  · exact h

theorem applyVoid_reaches {g : Gather} {st : PlayState} (h : Reaches loads b s) (plays : s.play.state.plays = true) :
    Reaches loads b (applyVoid g st s) := by
  have voided : Reaches loads b { s with play := reportVoid s.play, follow := { s.follow with change := some .close } } :=
    reportVoid_reaches (changes_reaches h plays)
  unfold applyVoid
  dsimp only
  refine testExhausted_reaches (Reaches.same (stage_reaches closeEnd_reaches (popsAtVoid_reaches ?_)) (acceptClose_bearing ..))
  exact stage_reaches (fun k => takeExceptionIf_reaches k) (takeException_reaches voided)

theorem clusterAhead_reaches {c : Cluster} (h : Reaches loads b s) (plays : s.play.state.plays = true) :
    Reaches loads b (clusterAhead c s) := by
  unfold clusterAhead
  split
  · exact acceptCluster_reaches (stage_reaches reportAnchor_reaches (slip_reaches (changes_reaches h plays) plays))
  · exact acceptCluster_reaches h

theorem clusterInHold_reaches {c : Cluster} (h : Reaches loads b s) (plays : s.play.state.plays = true) :
    Reaches loads b (clusterInHold c s) := by
  have released := releaseSteps_reaches h plays
  unfold clusterInHold
  split
  · exact h
  · rename_i hold
    have held : s.follow.hold ≠ none := by rw [hold]; nofun
    dsimp only
    split
    · exact acceptCluster_reaches (stage_reaches reportAnchor_reaches
        (stage_reaches_inHand (fun inHand => slip_reaches released (plays_of_released plays held inHand)) released))
    · exact acceptCluster_reaches (stage_reaches reportAnchor_reaches released)

/-! ## Beats and holds (R113 to R118, R139) -/

theorem rebase_reaches {beat : Nat} (h : Reaches loads b s) (plays : s.play.state.plays = true) : Reaches loads b (rebase beat s) := by
  unfold rebase
  refine Reaches.same ?_ (noteEnd_bearing _)
  exact setAnchor_reaches (changed_reaches h plays rfl rfl rfl) rfl

theorem rebase_play (beat : Nat) (s : State) : (rebase beat s).play = s.play := by simp [rebase]

theorem sectionStage_reaches {beat : Nat} (h : Reaches loads b s) (plays : s.play.state.plays = true) :
    Reaches loads b (sectionStage beat s) := by
  unfold sectionStage
  split
  · exact h
  · have led : Reaches loads b { s with play := { s.play with state := .leading } } := h.move (.plays .leading plays rfl)
    dsimp only
    split
    · exact writePeriod_reaches led
    · exact led

theorem broadenStage_reaches {beat : Nat} (h : Reaches loads b s) : Reaches loads b (broadenStage beat s) := by
  have reached := h.same (reachBroaden_bearing (24 * beat : Nat) s)
  exact reaches_ite (writePeriod_reaches reached) reached

theorem couplingStage_reaches {beat : Nat} (h : Reaches loads b s) : Reaches loads b (couplingStage beat s) :=
  reaches_ite h (stage_reaches writePeriod_reaches (takeExceptionIf_reaches (setAnchor_reaches h rfl)))

theorem pulseStage_reaches {beat : Nat} {time : Time} {code : Tempo} (h : Reaches loads b s) : Reaches loads b (pulseStage beat time code s) :=
  h.same (offerFrame_bearing _ _ { s with follow.resyncPending := false })

theorem swellStage_reaches (h : Reaches loads b s) : Reaches loads b (swellStage s) := by
  unfold swellStage
  split <;> exact h

theorem beatStages_reaches {beat : Nat} (h : Reaches loads b s) (plays : s.play.state.plays = true) : Reaches loads b (beatStages beat s) := by
  have based := rebase_reaches (beat := beat) h plays
  have sectioned : Reaches loads b (stage (sectionStage beat) (rebase beat s)) :=
    stage_reaches_inHand (fun _ => sectionStage_reaches based (rebase_play beat s ▸ plays)) based
  exact stage_reaches reportAnchor_reaches (stage_reaches swellStage_reaches (stage_reaches pulseStage_reaches
    (stage_reaches couplingStage_reaches (stage_reaches broadenStage_reaches sectioned))))

/-- A hold taken under a line written at its point (R74, R101, R139, R162). -/
theorem held_reaches {record : HoldRecord} {p : Nat} {returnState : Option Tempo} {u : GatherUnit} {barrier : Option Nat}
    (h : Reaches loads b s) (plays : s.play.state.plays = true) :
    Reaches loads b
      { s with
        follow := { s.follow with hold := some record, watch := none }
        play := { s.play with state := .holding, returnState := returnState }
        gather := u
        sched := { holdFrom p s.sched with barrier := barrier } } := by
  have holding : Reaches loads b { s with play := { s.play with state := .holding } } := h.move (.plays .holding plays rfl)
  exact holding.move (.holds _ (mapActions_none _ (fun a => a.live && decide (p ≤ a.position)) _))

theorem period_of_bearing (e : t.bearing = s.bearing) : t.period = s.period :=
  congrArg (fun v : Bearing => (((v.slots[v.top]).map Slot.anchor).getD (⟨0, 0, 0⟩ : Anchor)).period) e

theorem takeHold_reaches {w : Watch} (h : Reaches loads b s) (plays : s.play.state.plays = true) : Reaches loads b (takeHold w s) := by
  have changed : Reaches loads b { beforeChange s with follow.change := some .hold } :=
    changes_reaches (h.same (beforeChange_bearing s)) (beforeChange_play s ▸ plays)
  have bearing := reachBroaden_bearing w.point { beforeChange s with follow.change := some .hold }
  have still : (reachBroaden w.point { beforeChange s with follow.change := some .hold }).play.state = s.play.state :=
    (congrArg Bearing.play bearing).trans (congrArg PlayController.state (beforeChange_play s))
  have same : (reachBroaden w.point { beforeChange s with follow.change := some .hold }).period = s.period :=
    (period_of_bearing bearing).trans (by simp [State.period, State.anchor, State.ruling])
  unfold takeHold
  dsimp only
  refine reportAnchor_reaches (Reaches.same (settleTable_reaches ?_) (settleWatch_bearing _))
  exact held_reaches (setAnchor_reaches (changed.same bearing) same.symm) (still ▸ plays)

end Sys2Proof.Machine
end

section
namespace Sys2Proof.Machine

variable {loads : Prop} {b s t : State}

/-! ## Start-up and cues (R62 to R70, R80, R198 to R202) -/

theorem endChecks_reaches (h : Reaches loads b s) : Reaches loads b (endChecks s) := by
  unfold endChecks
  split
  · rename_i ended
    simp only [Bool.and_eq_true, decide_eq_true_eq] at ended
    have early : s.startup.step ≠ .done := by rw [ended.1.1]; nofun
    exact reaches_ite (h.move (.startStep .pulses early nofun)) (h.move (.startStep .joining early nofun))
  · exact h

theorem endFullStart_reaches (h : Reaches True b s) (joining : s.startup.step = .joining) : Reaches True b (endFullStart s) := by
  have idle : Reaches True b { s with startup.step := .done, play.state := .idle } := h.move (.fullStartEnds trivial joining)
  exact reaches_ite (enterSilenced_reaches idle nofun) idle

theorem offerCue_bearing (c : Cue) (s : State) : (offerCue c s).bearing = s.bearing := offerFrame_bearing _ _ s

theorem offerSelect_bearing (s : State) : (offerSelect s).bearing = s.bearing := offerCue_bearing .select s

theorem takeSelect_reaches {n : Nat} (h : Reaches loads b s) : Reaches loads b (takeSelect n s) := by
  have load (was : s.play.state = .idle ∨ s.play.state = .loading ∨ s.play.state = .loaded) :
      Reaches loads b (beginLoad n { s with play := { s.play with pendingStart := none, join := none, barred := none } }) :=
    beginLoad_reaches (h.move (.join none nofun)) was nofun
  unfold takeSelect
  split
  · exact load (.inl ‹_›)
  · exact load (.inr (.inl ‹_›))
  · exact load (.inr (.inr ‹_›))
  · exact h

theorem takeStart_reaches {n : Nat} (h : Reaches loads b s) : Reaches loads b (takeStart n s) := by
  unfold takeStart
  split
  · exact reaches_ite h h
  · exact reaches_ite (playBegin_reaches h ‹_›) h
  · exact h

theorem leaveSilenced_reaches (h : Reaches loads b s) (silenced : s.play.state = .silenced) : Reaches loads b (leaveSilenced s) := by
  refine reaches_ite (beginSeek_reaches (h.move ?_) nofun) (h.move ?_)
  · exact .wakes .loaded _ _ silenced (.inl rfl)
  · exact .wakes .idle _ _ silenced (.inr rfl)

theorem takeStop_reaches (h : Reaches loads b s) : Reaches loads b (takeStop s) := by
  have unjoined : Reaches loads b { s with play.join := none } := h.move (.join none nofun)
  have stops {p : PlayState} (state : s.play.state = p) (plays : p.plays = true) : Reaches loads b (stopPlay s) :=
    stopPlay_reaches h ((congrArg PlayState.plays state).trans plays)
  unfold takeStop
  dsimp only
  split
  case h_1 state => exact stops state rfl
  case h_2 state => exact stops state rfl
  case h_3 state => exact stops state rfl
  case h_4 => exact h.move (.join none nofun)
  case h_5 state => exact reaches_ite (beginSeek_reaches unjoined (live_of_state state rfl)) unjoined
  case h_6 state => exact reaches_ite h (leaveSilenced_reaches h state)
  all_goals exact h

theorem restartStation_reaches (h : Reaches loads b s) (started : s.play.state ≠ .starting) : Reaches loads b (restartStation s) := by
  have restarted : Reaches loads b (restarted s) := h.move (.restarted started)
  exact reaches_ite (restarted.same (offerSelect_bearing _)) restarted

theorem takeCue_reaches {c : Cue} {n : Nat} (h : Reaches loads b s) : Reaches loads b (takeCue c n s) := by
  cases c with
  | select => exact takeSelect_reaches h
  | start => exact takeStart_reaches h
  | stop => exact takeStop_reaches h
  | restart =>
    unfold takeCue
    dsimp only
    split
    · exact h
    · exact restartStation_reaches h ‹_›

/-! ## The re-time pass and the channels (R154, R158, R159) -/

theorem endPass_reaches (h : Reaches loads b s) : Reaches loads b (endPass s) := by
  unfold endPass
  split
  · exact reaches_ite h h
  · exact h

theorem visitWaiting_reaches {e : EntryNo} {a : Action} (h : Reaches loads b s) (here : s.bearing.table[e] ≠ none) :
    Reaches loads b (visitWaiting e a s) := settleTable_reaches (testEntry_reaches (h.move (.fires e _ _ here)))

theorem visitArmed_reaches {e : EntryNo} {c : ChannelNo} {a : Action} (h : Reaches loads b s) (here : s.bearing.table[e] ≠ none) :
    Reaches loads b (visitArmed e c a s) :=
  reaches_ite (settleTable_reaches (fireAtOnce_reaches h here))
    (reaches_ite (h.move (.fires e _ _ here)) (settleTable_reaches (h.move (.fires e _ _ here))))

theorem visit_reaches {e : EntryNo} (h : Reaches loads b s) : Reaches loads b (visit e s) := by
  unfold visit
  split
  · exact h
  · rename_i here
    dsimp only
    split
    · exact visitWaiting_reaches h (ne_none_of_entry here)
    · exact visitArmed_reaches h (ne_none_of_entry here)
    · exact h

theorem applyExpired_reaches {c : ChannelNo} {e : EntryNo} {time : Time} (h : Reaches loads b s) :
    Reaches loads b (applyExpired c e time s) := by
  unfold applyExpired
  split
  · exact h
  · rename_i here
    split
    · exact applyNoteOn_reaches h (ne_none_of_entry here)
    · exact applyNoteOff_reaches h (ne_none_of_entry here)
    · exact h.move (.fires e _ _ (ne_none_of_entry here))

/-! ## The output stage and the sound front end (R24, R32, R171 to R173, R200) -/

theorem returnMismatched_reaches (h : Reaches loads b s) : Reaches loads b (returnMismatched s) :=
  endChecks_reaches (reaches_ite (raiseFault_reaches h) h)

theorem latchFrame_reaches {frame returned : BitVec 96} (h : Reaches loads b s) : Reaches loads b (latchFrame frame returned s) := by
  have checked : Reaches loads b (returnCheck returned { s with out.frame := none }) := by
    unfold returnCheck
    split
    · exact reaches_ite h (reaches_ite (endChecks_reaches h) (returnMismatched_reaches h))
    · exact h
  exact checked

theorem assertionTaken_reaches (h : Reaches loads b s) : Reaches loads b (assertionTaken s) := by
  unfold assertionTaken
  split
  · exact h
  · exact h
  · rename_i started _
    exact (enterSilenced_reaches h started).same (offerFrame_bearing _ _ _)

theorem handOn_reaches {o : Confirmed} (h : Reaches loads b s) : Reaches loads b (handOn o s) := by
  refine reaches_ite (Reaches.same ?_ (offerFrame_bearing _ _ _)) h
  exact deliver_reaches h

theorem completeBlock_reaches {block : Block} (h : Reaches loads b s) : Reaches loads b (completeBlock block s) := by
  have passed {front : FrontEnd} : Reaches loads b (passSoundCheck { s with front := front }) := reaches_ite (endChecks_reaches h) h
  unfold completeBlock
  dsimp only
  split
  · exact handOn_reaches passed
  · exact passed

theorem takeSample_reaches {x : BitVec 16} {stamp : Time} (h : Reaches loads b s) : Reaches loads b (takeSample x stamp s) :=
  reaches_ite (completeBlock_reaches h) h

/-! ## The score store (R43 to R54) -/

theorem probe_reaches {hymn low high : Nat} (h : Reaches True b s) (searching : s.store.loader.searches = true) :
    Reaches True b (probe hymn low high s) := by
  have load : s.store.loader ≠ .idle := by rintro idle; rw [idle] at searching; cases searching
  exact reaches_ite (loadFailed_reaches h load) (h.move (.searches _ searching (.inl rfl)))

theorem takeEntry_reaches {hymn low high at_ : Nat} {e : DirectoryEntry} (h : Reaches True b s) (searching : s.store.loader.searches = true) :
    Reaches True b (takeEntry hymn low high at_ e s) := by
  have load : s.store.loader ≠ .idle := by rintro idle; rw [idle] at searching; cases searching
  exact reaches_ite (loadFailed_reaches h load) (reaches_ite (h.move (.searches _ searching (.inl rfl)))
    (reaches_ite (probe_reaches h searching) (probe_reaches h searching)))

theorem takeDirectory_reaches {bytes : List Byte} (h : Reaches True b s) : Reaches True b (takeDirectory bytes s) := by
  unfold takeDirectory
  split
  · rename_i load
    exact reaches_ite (loadFailed_reaches h (by rw [load]; nofun)) (probe_reaches h (congrArg Loader.searches load))
  · rename_i load
    exact takeEntry_reaches h (congrArg Loader.searches load)
  · exact h

/-- A header in range has its nominal period in range (R44). -/
theorem periodInRange_of_inRange {h : Header} {n length : Nat} (inRange : h.inRange n length = true) : h.periodInRange = true := by
  simp [Header.inRange] at inRange
  simp [Header.periodInRange, inRange]

theorem takeHeader_reaches {bytes : List Byte} (h : Reaches True b s) : Reaches True b (takeHeader bytes s) := by
  unfold takeHeader
  split
  · rename_i load
    dsimp only
    split
    · rename_i good
      exact h.move (.searches _ (congrArg Loader.searches load)
        (.inr ⟨_, _, rfl, periodInRange_of_inRange (Bool.and_eq_true_iff.1 good).2⟩))
    · exact loadFailed_reaches h (by rw [load]; nofun)
  · exact h

theorem takePlan_reaches {bytes : List Byte} (h : Reaches True b s) : Reaches True b (takePlan bytes s) := by
  unfold takePlan
  split
  · rename_i address header load
    split
    · exact testPrimed_reaches (startReaders_reaches (h.move (.planned address header load)) fun _ => nofun)
    · exact loadFailed_reaches h (by rw [load]; nofun)
  · exact h

theorem markStep_reaches (h : Reaches loads b s) (turn : markStep s = some t) : Reaches loads b t := by
  unfold markStep at turn
  split at turn
  · dsimp only at turn
    split at turn
    · cases turn
    · split at turn
      · cases turn
        exact h
      · split at turn
        · cases turn
          exact h
        · split at turn
          · split at turn <;> cases turn <;> exact h
          · cases turn
            exact raiseFault_reaches h
  · cases turn

theorem runMarks_reaches (h : Reaches True b s) : Reaches True b (runMarks s) := by
  have turned : Reaches True b (settleMarks (iterate markStep 40 s)) :=
    Reaches.same (iterate_invariant (fun _ _ => markStep_reaches) 40 h) (settleMarks_bearing _)
  exact testPrimed_reaches (testExhausted_reaches (reaches_ite (rewatch_reaches turned) turned))

theorem takeMarkBlock_reaches {bytes : List Byte} (h : Reaches True b s) : Reaches True b (takeMarkBlock bytes s) :=
  reaches_ite (runMarks_reaches h) (runMarks_reaches (raiseFault_reaches h))

theorem noteStep_reaches (h : Reaches loads b s) (turn : noteStep s = some t) : Reaches loads b t := by
  unfold noteStep at turn
  split at turn
  · cases turn
  · dsimp only at turn
    split at turn
    · exact h.same (settleNotesStep_bearing s t turn)
    · split at turn
      · cases turn
      · split at turn
        · cases turn
          exact h
        · split at turn
          · cases turn
            exact h
          · split at turn
            · cases turn
              exact raiseFault_reaches h
            · split at turn <;> cases turn
              exact h

theorem runNotes_reaches (h : Reaches True b s) : Reaches True b (runNotes s) :=
  testPrimed_reaches (iterate_invariant (fun _ _ => noteStep_reaches) 60 h)

theorem takeNoteBlock_reaches {bytes : List Byte} (h : Reaches True b s) : Reaches True b (takeNoteBlock bytes s) :=
  reaches_ite (runNotes_reaches h) (runNotes_reaches (raiseFault_reaches h))

theorem running_of_noteInHand {x : NoteRecord × Nat} (inHand : noteInHand s = some x) : s.store.notes.phase = .running := by
  unfold noteInHand at inHand
  split at inHand
  · split at inHand
    · rename_i ready
      simp only [Bool.and_eq_true, decide_eq_true_eq] at ready
      exact ready.1.1
    · cases inHand
  · cases inHand

theorem insertNote_reaches (h : Reaches True b s) : Reaches True b (insertNote s) := by
  unfold insertNote
  split
  · rename_i inHand
    have running := running_of_noteInHand inHand
    exact runNotes_reaches (insertPair_reaches h running)
  · exact h

theorem running_of_stopInHand {x : StopNo × Coil × Nat} (inHand : stopInHand s = some x) : s.store.notes.phase = .running := by
  unfold stopInHand at inHand
  split at inHand
  · split at inHand
    · rename_i ready
      simp only [Bool.and_eq_true, decide_eq_true_eq] at ready
      exact ready.1.1
    · cases inHand
  · cases inHand

theorem stopStep_reaches (h : Reaches loads b s) (turn : stopStep s = some t) : Reaches loads b t := by
  unfold stopStep at turn
  split at turn
  · rename_i inHand
    have running := running_of_stopInHand inHand
    cases turn
    exact insertStop_reaches h running
  · cases turn

/-! ## Frames sent and received (R8 to R10, R17 to R20) -/

theorem returnClashed_reaches {f : QueuedFrame} (h : Reaches loads b s) : Reaches loads b (returnClashed f s) := by
  unfold returnClashed
  dsimp only
  split
  · exact (raiseFault_reaches h).same (faultFrameLeft_bearing _ _)
  · split
    · exact h
    · exact Reaches.same h (faultFrameLeft_bearing _ _)

theorem heardFrom_reaches {w : WireFrame} {k : ObsKind} {n : BitVec 8} (h : Reaches loads b s) : Reaches loads b (heardFrom w k n s) :=
  reaches_ite (takeException_reaches h) (deliver_reaches h)

theorem pulseFrom_reaches {w : WireFrame} {f : PulseFields} (h : Reaches loads b s) : Reaches loads b (pulseFrom w f s) :=
  reaches_ite h (testJoin_reaches h)

theorem takeHalt_reaches (h : Reaches loads b s) : Reaches loads b (takeHalt s) := by
  unfold takeHalt
  split
  · exact h
  · exact enterSilenced_reaches h ‹_›

theorem cueFrom_reaches {w : WireFrame} {c : Cue} {n : Nat} (h : Reaches loads b s) : Reaches loads b (cueFrom w c n s) := by
  unfold cueFrom
  split
  · split
    · exact takeCue_reaches h
    · exact h
  · exact takeCue_reaches (s := hearPeer w.sender s) h

theorem completeOwn_reaches {f : QueuedFrame} (h : Reaches loads b s) : Reaches loads b (completeOwn f s) := by
  unfold completeOwn
  split
  · exact takeCue_reaches h
  · exact h.same (faultFrameLeft_bearing f s)
  · exact h

/-! ## The commands -/

/-- A command whose effect is reached, whether its event can happen or not (log 2). -/
theorem act_reaches {due : Bool} (h : due = true → Reaches loads s t) : Answers (Reaches loads) s (act s due t) := by
  intro u e
  rcases act_cases e with ⟨happens, rfl⟩ | ⟨-, rfl⟩
  · exact h happens
  · exact .refl u

theorem act_false_reaches (s t : State) : Answers (Reaches loads) s (act s false t) := act_reaches nofun

theorem completeRead_reaches {units : List FlashUnit} {bytes : List Byte} {use : State → State}
    (h : ∀ {u}, Reaches loads s u → Reaches loads s (use u)) : Answers (Reaches loads) s (completeRead units bytes use s) :=
  act_reaches fun _ => reaches_ite (.refl s) (h (.refl s))

theorem receiveCue_reaches {c : Cue} {bytes : List Byte} : Answers (Reaches loads) s (receiveCue c bytes s) := by
  unfold receiveCue
  split
  · split
    · exact act_reaches fun _ => cueFrom_reaches (.refl s)
    · exact act_false_reaches s s
  · exact act_false_reaches s s

theorem execSyncMarkBegin_reaches (s : State) : Answers (Reaches loads) s (execSyncMarkBegin s) := by
  refine act_reaches fun _ => ?_
  split <;> exact Reaches.refl s

theorem execFrameClash_reaches (bit : Nat) (level : Bool) (s : State) : Answers (Reaches loads) s (execFrameClash bit level s) := by
  unfold execFrameClash
  split
  · exact act_false_reaches s s
  · exact act_reaches fun _ => returnClashed_reaches (Reaches.refl s)

theorem execFrameComplete_reaches (s : State) : Answers (Reaches loads) s (execFrameComplete s) := by
  unfold execFrameComplete
  split
  · exact act_false_reaches s s
  · exact act_reaches fun _ => completeOwn_reaches (Reaches.refl s)

theorem execLineQuiet_reaches (n : Nat) (s : State) : Answers (Reaches loads) s (execLineQuiet n s) := by
  refine act_reaches fun _ => ?_
  unfold levelSeen
  split <;> exact Reaches.refl s

/-- The join count complete ends the full start in JOINING (R12, R201). -/
theorem execJoinCountComplete_reaches (s : State) : Answers (Reaches True) s (execJoinCountComplete s) := by
  refine act_reaches fun _ => ?_
  dsimp only
  split
  · rename_i joining
    exact endFullStart_reaches (Reaches.refl s) joining
  · exact .refl s

/-- A frame of a peer, whose effect is reached (R19). -/
theorem peerEffect_reaches {bytes : List Byte} {u : State} (h : Reaches loads s u) :
    Answers (Reaches loads) s (act s true (if s.isHalted then endOfFrame bytes s else u)) :=
  act_reaches fun _ => reaches_ite (Reaches.refl s) h

theorem execHeardReceived_reaches (bytes : List Byte) (s : State) : Answers (Reaches loads) s (execHeardReceived bytes s) := by
  unfold execHeardReceived
  split
  · split
    · exact peerEffect_reaches (heardFrom_reaches (Reaches.refl s))
    · exact act_false_reaches s s
  · exact act_false_reaches s s

theorem execPulseReceived_reaches (bytes : List Byte) (s : State) : Answers (Reaches loads) s (execPulseReceived bytes s) := by
  unfold execPulseReceived
  split
  · split
    · exact peerEffect_reaches (pulseFrom_reaches (Reaches.refl s))
    · exact act_false_reaches s s
  · exact act_false_reaches s s

theorem execHaltReceived_reaches (bytes : List Byte) (s : State) : Answers (Reaches loads) s (execHaltReceived bytes s) := by
  unfold execHaltReceived
  split
  · split
    · exact peerEffect_reaches (takeHalt_reaches (Reaches.refl s))
    · exact act_false_reaches s s
  · exact act_false_reaches s s

theorem execFaultReceived_reaches (bytes : List Byte) (s : State) : Answers (Reaches loads) s (execFaultReceived bytes s) := by
  unfold execFaultReceived
  split
  · split
    · exact peerEffect_reaches (Reaches.refl s)
    · exact act_false_reaches s s
  · exact act_false_reaches s s

theorem execInvalidFrame_reaches (bytes : List Byte) (broken : List Bool) (s : State) :
    Answers (Reaches loads) s (execInvalidFrame bytes broken s) := by
  unfold execInvalidFrame
  split
  · exact act_false_reaches s s
  all_goals exact act_reaches fun _ => .refl s

theorem execDuplicate_reaches (bytes : List Byte) (s : State) : Answers (Reaches loads) s (execDuplicate bytes s) := by
  unfold execDuplicate
  split
  · exact act_reaches fun _ => raiseFault_reaches (Reaches.refl s)
  · exact act_false_reaches s s

/-- The configuration read ends in CHECKS, out of READ (R195, R196). -/
theorem execConfigurationSectionRead_reaches (bytes : List Byte) (s : State) :
    Answers (Reaches loads) s (execConfigurationSectionRead bytes s) := by
  refine act_reaches fun _ => ?_
  split
  · rename_i reading
    simp only [Bool.and_eq_true, decide_eq_true_eq] at reading
    have taken : Reaches loads s (endConfiguration (sectionConfig bytes) s) :=
      (Reaches.refl s).move (.startStep .checks (by rw [show s.bearing.step = .read from reading.1]; nofun) nofun)
    exact endChecks_reaches (reaches_ite (raiseFault_reaches taken) taken)
  · exact .refl s

/-- The off-pulses end in JOINING, out of PULSES (R201). -/
theorem execOffPulsesEnd_reaches (s : State) : Answers (Reaches loads) s (execOffPulsesEnd s) := by
  refine act_reaches fun due => (Reaches.refl s).move (.startStep .joining ?_ nofun)
  simp only [Bool.and_eq_true, decide_eq_true_eq] at due
  rw [show s.bearing.step = .pulses from due.1]
  nofun

theorem execSampleTaken_reaches (edges : List SoundEdge) (ago : Nat) (s : State) : Answers (Reaches loads) s (execSampleTaken edges ago s) := by
  unfold execSampleTaken
  split
  · exact act_false_reaches s s
  · exact act_reaches fun _ => takeSample_reaches (Reaches.refl s)

theorem execValveFrameLatch_reaches (returned : BitVec 96) (s : State) : Answers (Reaches loads) s (execValveFrameLatch returned s) := by
  unfold execValveFrameLatch
  split
  · exact act_reaches fun _ => latchFrame_reaches (Reaches.refl s)
  · exact act_false_reaches s s

theorem execOnsetTaken_reaches (s : State) : Answers (Reaches loads) s (execOnsetTaken s) := by
  unfold execOnsetTaken
  split
  · exact act_reaches fun _ => judgeOnset_reaches (Reaches.refl s)
  · exact act_false_reaches s s

theorem execReleaseTaken_reaches (s : State) : Answers (Reaches loads) s (execReleaseTaken s) := by
  unfold execReleaseTaken
  split
  · exact act_reaches fun _ => reaches_ite (Reaches.refl s) (Reaches.refl s)
  · exact act_false_reaches s s

theorem execGatherOpen_reaches (s : State) : Answers (Reaches loads) s (execGatherOpen s) := by
  unfold execGatherOpen
  split
  · refine act_reaches fun _ => ?_
    split
    · exact reaches_ite (Reaches.refl s) (Reaches.refl s)
    · exact .refl s
  · exact act_false_reaches s s

theorem execGatherCloseExpiry_reaches (which : Fin 2) (s : State) : Answers (Reaches loads) s (execGatherCloseExpiry which s) := by
  unfold execGatherCloseExpiry
  split
  · exact act_reaches fun _ => .refl s
  · exact act_false_reaches s s

theorem execGatherCloseTaken_reaches (s : State) : Answers (Reaches loads) s (execGatherCloseTaken s) := by
  unfold execGatherCloseTaken
  split
  · refine act_reaches fun inPlay => ?_
    have plays := (plays_iff_inPlay s).trans inPlay
    exact reaches_ite (applyMatched_reaches (.refl s) plays) (applyVoid_reaches (.refl s) plays)
  · exact act_false_reaches s s

theorem execClusterTaken_reaches (s : State) : Answers (Reaches loads) s (execClusterTaken s) := by
  unfold execClusterTaken
  split
  · refine act_reaches fun inPlay => ?_
    have plays := (plays_iff_inPlay s).trans inPlay
    exact reaches_ite (clusterInHold_reaches (.refl s) plays) (clusterAhead_reaches (.refl s) plays)
  · exact act_false_reaches s s

theorem execBeatEvent_reaches (s : State) : Answers (Reaches loads) s (execBeatEvent s) := by
  unfold execBeatEvent
  split
  · exact act_reaches fun due => beatStages_reaches (.refl s) (plays_of_moving (Bool.and_eq_true_iff.1 due).1)
  · exact act_false_reaches s s

theorem execBroadenMarkReached_reaches (s : State) : Answers (Reaches loads) s (execBroadenMarkReached s) := by
  unfold execBroadenMarkReached
  split
  · exact act_reaches fun _ => Reaches.same (.refl s) (reachBroaden_bearing _ s)
  · exact act_false_reaches s s

theorem execHoldPointReached_reaches (s : State) : Answers (Reaches loads) s (execHoldPointReached s) := by
  unfold execHoldPointReached
  split
  · exact act_reaches fun due => takeHold_reaches (.refl s) (plays_of_moving (Bool.and_eq_true_iff.1 due).1)
  · exact act_false_reaches s s

theorem execHoldLimitExpiry_reaches (s : State) : Answers (Reaches loads) s (execHoldLimitExpiry s) := by
  unfold execHoldLimitExpiry
  split
  · exact act_reaches fun _ => .refl s
  · exact act_false_reaches s s

theorem execHoldRelease_reaches (s : State) : Answers (Reaches loads) s (execHoldRelease s) := by
  unfold execHoldRelease
  split
  · refine act_reaches fun due => stage_reaches reportAnchor_reaches (releaseSteps_reaches (.refl s) ?_)
    rw [of_decide_eq_true (Bool.and_eq_true_iff.1 due).1]
    rfl
  · exact act_false_reaches s s

theorem execRetimeVisit_reaches (s : State) : Answers (Reaches loads) s (execRetimeVisit s) := by
  unfold execRetimeVisit
  split
  · exact act_false_reaches s s
  · refine act_reaches fun _ => ?_
    split
    · exact endPass_reaches (visit_reaches (Reaches.refl s))
    · exact .refl s

theorem execChannelExpiry_reaches (channel : ChannelNo) (s : State) : Answers (Reaches loads) s (execChannelExpiry channel s) := by
  unfold execChannelExpiry
  split
  · exact act_reaches fun _ => settleTable_reaches (applyExpired_reaches (Reaches.refl s))
  · exact act_false_reaches s s

theorem execStopPulseEnd_reaches (channel : ChannelNo) (s : State) : Answers (Reaches loads) s (execStopPulseEnd channel s) := by
  unfold execStopPulseEnd
  split
  · exact act_reaches fun _ => settleTable_reaches (Reaches.refl s)
  · exact act_false_reaches s s

/-- RESTART on the panel of a HALTED station restarts it (R64). -/
theorem execBothHeldRestart_reaches (s : State) : Answers (Reaches loads) s (execBothHeldRestart s) := by
  refine act_reaches fun _ => ?_
  dsimp only
  split
  · rename_i halted
    have state : s.play.state = .halted := by simpa [State.isHalted] using halted
    exact restartStation_reaches (Reaches.refl s) (by rw [show (_ : PlayState) = .halted from state]; nofun)
  · exact Reaches.same (Reaches.refl s) (offerCue_bearing .restart _)

/-- Every command moves the bearing by moves. The commands stand in groups: those that leave the bearing alone, the resets, the flash reads, the
frames sent and received, start-up, and those whose effect is a shared operation. -/
theorem exec_reaches (c : Instr) (s : State) : Answers (Reaches True) s (exec c s) := by
  have same : Reaches True s s := Reaches.refl s
  cases c with
  | peerAbsenceExpiry _ | valveFrameStart | cutoffPinChange _ | cutoffReleaseEdge | pwmPeriodStart | frameMark _
  | syncMarkRejected _ | lineReleasedHigh => exact act_reaches fun _ => same
  | coilRelease _ coil =>
    refine act_reaches fun _ => ?_
    cases coil <;> exact same
  | resetAsserted => exact act_reaches fun _ => same.move (.reset _ nofun)
  | fullStart _ => exact act_reaches fun _ => same.move (.reset _ nofun)
  | configurationSectionRead bytes => exact execConfigurationSectionRead_reaches bytes s
  | soundCheckTimeout => exact act_reaches fun _ => endChecks_reaches (reaches_ite same (raiseFault_reaches same))
  | offPulsesEnd => exact execOffPulsesEnd_reaches s
  | joinCountComplete => exact execJoinCountComplete_reaches s
  | lineQuiet n => exact execLineQuiet_reaches n s
  | lineHeldLow _ => exact act_reaches fun _ => reaches_ite same (raiseFault_reaches same)
  | directoryRead _ => exact completeRead_reaches takeDirectory_reaches
  | headerRead _ => exact completeRead_reaches takeHeader_reaches
  | versePlanRead _ => exact completeRead_reaches takePlan_reaches
  | markBlockRead _ => exact completeRead_reaches takeMarkBlock_reaches
  | noteBlockRead _ => exact completeRead_reaches takeNoteBlock_reaches
  | select _ | start _ | stop _ | restart _ => exact receiveCue_reaches
  | syncMarkBegin => exact execSyncMarkBegin_reaches s
  | frameClash bit level => exact execFrameClash_reaches bit level s
  | frameComplete => exact execFrameComplete_reaches s
  | heardReceived bytes => exact execHeardReceived_reaches bytes s
  | pulseReceived bytes => exact execPulseReceived_reaches bytes s
  | haltReceived bytes => exact execHaltReceived_reaches bytes s
  | faultReceived bytes => exact execFaultReceived_reaches bytes s
  | invalidFrame bytes broken => exact execInvalidFrame_reaches bytes broken s
  | duplicate bytes => exact execDuplicate_reaches bytes s
  | sampleTaken edges ago => exact execSampleTaken_reaches edges ago s
  | soundInputLost => exact act_reaches fun _ => reaches_ite same (raiseFault_reaches same)
  | valveFrameLatch returned => exact execValveFrameLatch_reaches returned s
  | assertionEdge => exact act_reaches fun _ => assertionTaken_reaches same
  | hymnNumberStable => exact act_reaches fun _ => same.same (offerSelect_bearing s)
  | buttonPressEdge button =>
    exact act_reaches fun _ => reaches_ite (reaches_ite same same) (Reaches.same same (offerCue_bearing (Button.cue button) _))
  | bothHeldRestart => exact execBothHeldRestart_reaches s
  | debouncedLevelChange _ => exact act_reaches fun _ => reaches_ite same (reaches_ite same same)
  | markAppend => exact act_reaches fun _ => runMarks_reaches same
  | notePairInsert => exact act_reaches fun _ => insertNote_reaches same
  | stopActionInsert => exact act_reaches fun _ => runNotes_reaches (iterate_invariant (fun _ _ => stopStep_reaches) 16 same)
  | endOfScore => exact act_reaches fun _ => testHymnEnd_reaches same
  | onsetTaken => exact execOnsetTaken_reaches s
  | releaseTaken => exact execReleaseTaken_reaches s
  | gatherOpen => exact execGatherOpen_reaches s
  | gatherCloseExpiry which => exact execGatherCloseExpiry_reaches which s
  | gatherCloseTaken => exact execGatherCloseTaken_reaches s
  | clusterTaken => exact execClusterTaken_reaches s
  | beatEvent => exact execBeatEvent_reaches s
  | broadenMarkReached => exact execBroadenMarkReached_reaches s
  | holdPointReached => exact execHoldPointReached_reaches s
  | holdLimitExpiry => exact execHoldLimitExpiry_reaches s
  | holdRelease => exact execHoldRelease_reaches s
  | retimeVisit => exact execRetimeVisit_reaches s
  | actionArm _ => exact act_reaches fun _ => settleTable_reaches same
  | dueTimePassedWaiting _ => exact act_reaches fun _ => settleTable_reaches (testEntry_reaches same)
  | channelExpiry channel => exact execChannelExpiry_reaches channel s
  | stopPulseEnd channel => exact execStopPulseEnd_reaches channel s

/-- A bit time moves nothing of the bearing. -/
theorem bitTime_reaches (s : State) : Reaches loads s (bitTime s) := by
  unfold bitTime
  split
  · unfold sampleCutoff takeCutoffSample
    dsimp only
    repeat' split
    all_goals exact Reaches.refl s
  · exact .refl s

theorem step_reaches (s : State) : Answers (Reaches True) s (step s) := by
  intro t e
  unfold step at e
  split at e
  · rename_i c rest _
    exact exec_reaches c { s with pending := rest } t e
  · cases e
    exact bitTime_reaches s

/-! ## The invariants in the model's terms -/

theorem all_toList_iff {α : Type} {n : Nat} (v : Vector α n) (p : α → Bool) : v.toList.all p = true ↔ ∀ i : Fin n, p v[i] = true := by
  rw [List.all_eq_true]
  refine ⟨fun all i => all _ (by simp), fun all x mem => ?_⟩
  obtain ⟨i, bound, rfl⟩ := Vector.mem_iff_getElem.1 (Vector.mem_toList_iff.1 mem)
  exact all ⟨i, bound⟩

theorem empty_iff (v : Bearing) :
    v.Empty ↔ v.table.toList.all (·.isNone) = true ∧ v.counts.toList.all (· == 0) = true ∧ v.marks = .stopped ∧ v.notes = .stopped ∧
      v.loader = .idle ∧ v.seek = none := by
  simp only [all_toList_iff, Option.isNone_iff_eq_none, beq_iff_eq]
  exact ⟨fun ⟨table, counts, marks, notes, loader, seek⟩ => ⟨table, counts, marks, notes, loader, seek⟩,
    fun ⟨table, counts, marks, notes, loader, seek⟩ => ⟨table, counts, marks, notes, loader, seek⟩⟩

theorem mutedEmpty_iff (s : State) : s.mutedEmpty = true ↔ s.bearing.still := by
  have mute : s.bearing.play.mute = s.muted := mute_iff_muted s
  rw [Bearing.still, empty_iff, mute]
  cases muted : s.muted <;> simp [State.mutedEmpty, muted, tableEmpty, State.bearing, and_assoc]

theorem stackLegal_iff (s : State) :
    s.stackLegal = true ↔
      (s.bearing.play.plays = true → StackInPlay s.bearing.slots s.bearing.top) ∧
        (s.bearing.play.plays = false → StackEmpty s.bearing.slots s.bearing.top) := by
  have plays : s.bearing.play.plays = s.inPlay := plays_iff_inPlay s
  rw [plays]
  unfold State.stackLegal
  cases s.inPlay with
  | false => simp [StackEmpty, State.bearing, Fin.forall_iff]
  | true =>
    simp only [if_true, true_imp_iff, Bool.true_eq_false, false_imp_iff, and_true]
    unfold StackInPlay
    cases top : s.follow.slots[s.follow.top] with
    | none => simp [State.bearing, top]
    | some slot => cases tag : slot.tag <;> simp [State.bearing, top, tag, Fin.forall_iff]

theorem placed_iff (s : State) : (s.stackLegal && s.startLegal && s.loaderLegal) = true ↔ s.bearing.Placed := by
  have start : s.startLegal = true ↔ (s.bearing.step = .done ↔ s.bearing.play ≠ .starting) := by
    rw [State.startLegal, beq_iff_eq, Bool.eq_iff_iff, beq_iff_eq, bne_iff_ne]
    rfl
  have loader : s.loaderLegal = true ↔ (s.bearing.loader ≠ .idle → s.bearing.play = .loading) := by
    simp [State.loaderLegal, State.bearing, or_iff_not_imp_left]
  rw [Bool.and_eq_true, Bool.and_eq_true, stackLegal_iff, start, loader]
  exact ⟨fun ⟨⟨⟨inPlay, out⟩, start⟩, loader⟩ => ⟨inPlay, out, start, loader⟩,
    fun ⟨inPlay, out, start, loader⟩ => ⟨⟨⟨inPlay, out⟩, start⟩, loader⟩⟩

theorem measured_iff (s : State) : s.periodsLegal = true ↔ s.bearing.Measured := by
  have fields : s.bearing.Measured ↔
      ((∀ h ∈ s.header, h.periodInRange = true) ∧
        (∀ h ∈ s.header, ∀ i : Fin 4, ∀ slot ∈ s.follow.slots[i], h.admits slot.anchor.period = true) ∧
        (∀ h ∈ s.header, ∀ j ∈ s.play.join, ∀ a ∈ j.anchor, h.admits a.period = true) ∧
        (s.header = none → ∀ j ∈ s.play.join, j.anchor = none)) ∧
      (s.store.loader.searches = true → s.header = none) ∧
      ∀ address h, s.store.loader = .plan address h → s.header = none ∧ h.periodInRange = true :=
    ⟨fun ⟨inRange, slots, join, noJoin, searching, planning⟩ => ⟨⟨inRange, slots, join, noJoin⟩, searching, planning⟩,
      fun ⟨⟨inRange, slots, join, noJoin⟩, searching, planning⟩ => ⟨inRange, slots, join, noJoin, searching, planning⟩⟩
  have hymn : s.store.hymn.isNone = s.header.isNone := by simp [State.header]
  rw [fields, State.periodsLegal, Bool.and_eq_true, hymn]
  refine and_congr ?_ ?_
  · cases s.header with
    | none => simp [Option.all_eq_true]
    | some h => simp [Option.all_eq_true, Fin.forall_iff, and_assoc]
  · cases load : s.store.loader <;> simp [Loader.searches]

end Sys2Proof.Machine
end

section

open Sys2Proof Sys2Proof.Machine

/-- Settles O9: a step goes by moves, and no move brings anything to sound into SILENCED or HALTED. -/
theorem mutedStaysEmpty : Obligations.MutedStaysEmpty := by
  unfold Obligations.MutedStaysEmpty
  intro s t empty next
  exact (mutedEmpty_iff t).2 ((step_reaches s t next).keeps (fun _ _ => Move.still) ((mutedEmpty_iff s).1 empty))

/-- Settles O11: a step goes by moves, and every move writes periods within the limits of the hymn held, or keeps those there are; the stack, the
start and the load stay as they must for that. -/
theorem periodStaysInLimits : Obligations.PeriodStaysInLimits := by
  unfold Obligations.PeriodStaysInLimits
  intro s t legal next
  simp only [Bool.and_assoc] at legal ⊢
  rw [Bool.and_eq_true, ← Bool.and_assoc, placed_iff, measured_iff] at legal ⊢
  obtain ⟨measured, placed⟩ := legal
  have both := (step_reaches s t next).keeps (p := fun v => v.Placed ∧ v.Measured)
    (fun _ _ move ⟨placed, measured⟩ => ⟨move.placed placed, move.measured placed measured⟩) ⟨placed, measured⟩
  exact ⟨both.2, both.1⟩

end

section
/-! Records of the score store: what a field of a word is worth (R39, R206). -/

namespace Sys2Proof.Machine

/-- The field of `len` bits from bit `start` on, of a word as wide as the field at least. -/
theorem extractLsb'_ofNat_toNat {w start len : Nat} (fits : start + len ≤ w) (n : Nat) :
    ((BitVec.ofNat w n).extractLsb' start len).toNat = n / 2 ^ start % 2 ^ len := by
  obtain ⟨k, rfl⟩ := Nat.exists_eq_add_of_le fits
  rw [BitVec.extractLsb'_toNat, BitVec.toNat_ofNat, Nat.shiftRight_eq_div_pow, Nat.add_assoc, Nat.pow_add 2 start, Nat.mod_mul_right_div_self,
    Nat.mod_mod_of_dvd _ (Nat.pow_dvd_pow 2 (Nat.le_add_right len k))]

/-- A flag of a word. -/
theorem getLsbD_ofNat_of_div {w i n : Nat} {flag : Bool} (inside : i < w) (bit : n / 2 ^ i % 2 = flag.toNat) :
    (BitVec.ofNat w n).getLsbD i = flag := by
  rw [BitVec.getLsbD_ofNat, Nat.testBit_eq_decide_div_mod_eq, bit]
  cases flag <;> simp [inside]

theorem parseMark_word {beat sub off k unused : Nat} {sung hold broaden : Bool} (beat9 : beat < 2 ^ 9) (sub5 : sub < 2 ^ 5)
    (off8 : off < 2 ^ 8) (k4 : k < 2 ^ 4) :
    parseMark
        (beat + 2 ^ 9 * sub + 2 ^ 14 * sung.toNat + 2 ^ 15 * hold.toNat + 2 ^ 16 * broaden.toNat + 2 ^ 17 * off + 2 ^ 25 * k +
          2 ^ 29 * unused) =
      ⟨beat, sub, sung, hold, broaden, off, k⟩ := by
  have sung1 := sung.toNat_lt
  have hold1 := hold.toNat_lt
  have broaden1 := broaden.toNat_lt
  unfold parseMark
  dsimp only
  congr 1
  · rw [extractLsb'_ofNat_toNat (by decide)]
    omega
  · rw [extractLsb'_ofNat_toNat (by decide)]
    omega
  · exact getLsbD_ofNat_of_div (by decide) (by omega)
  · exact getLsbD_ofNat_of_div (by decide) (by omega)
  · exact getLsbD_ofNat_of_div (by decide) (by omega)
  · rw [extractLsb'_ofNat_toNat (by decide)]
    omega
  · rw [extractLsb'_ofNat_toNat (by decide)]
    omega

theorem parseNote_word {beat sub length voice unused : Nat} {key : Key} (beat9 : beat < 2 ^ 9) (sub5 : sub < 2 ^ 5)
    (length12 : length < 2 ^ 12) (voice3 : voice < 2 ^ 3) :
    parseNote (beat + 2 ^ 9 * sub + 2 ^ 14 * length + 2 ^ 26 * key.val + 2 ^ 32 * voice + 2 ^ 35 * unused) =
      ⟨beat, sub, length, key, voice⟩ := by
  have key6 := key.isLt
  unfold parseNote
  dsimp only
  congr 1
  · rw [extractLsb'_ofNat_toNat (by decide)]
    omega
  · rw [extractLsb'_ofNat_toNat (by decide)]
    omega
  · rw [extractLsb'_ofNat_toNat (by decide)]
    omega
  · refine Fin.ext ?_
    rw [BitVec.val_toFin, extractLsb'_ofNat_toNat (by decide)]
    omega
  · rw [extractLsb'_ofNat_toNat (by decide)]
    omega

end Sys2Proof.Machine
end

section

open Sys2Proof Sys2Proof.Machine

/-- Settles O16: each field of a word is the word divided by the place of its lowest bit, modulo its width. -/
theorem recordFields : Obligations.RecordFields := by
  unfold Obligations.RecordFields
  exact ⟨fun beat sub off k unused sung hold broaden beat9 sub5 off8 k4 _ => parseMark_word beat9 sub5 off8 k4,
    fun beat sub length voice unused key beat9 sub5 length12 voice3 _ => parseNote_word beat9 sub5 length12 voice3⟩

end

section
/-! Cues of peers at the play controller: SELECT and STOP in each play state (R19, R59, R65, R66, R68, R69, R80). -/

namespace Sys2Proof.Machine

/-! ## A cue of a peer (R19) -/

/-- Out of HALTED a peer's cue is taken with the sender's entry updated (R19). -/
theorem receiveCue_of_heard {bytes : List Byte} {p : Station} {c : Cue} {n : Nat} {s : State} (heard : s.hearsCue bytes p c n)
    (awake : s.isHalted = false) : receiveCue c bytes s = .next (takeCue c n (s.afterFrameFrom bytes p)) := by
  obtain ⟨running, off, framing, judged, other⟩ := heard
  rw [receiveCue_of_frame (peerFrame_of_valid (receiving_of running off framing) judged other) rfl]
  exact congrArg Host.Outcome.next (if_neg (by simp [State.isHalted, endOfFrame] at awake ⊢; exact awake))

/-! ## SELECT (R43, R65, R66) -/

theorem takeSelect_of_ready {n : Nat} {s : State} (ready : s.play.state = .idle ∨ s.play.state = .loading ∨ s.play.state = .loaded) :
    takeSelect n s = beginLoad n { s with play := { s.play with pendingStart := none, join := none, barred := none } } := by
  rcases ready with state | state | state <;> simp only [takeSelect, state]

theorem state_of_inPlay {s : State} (inPlay : s.inPlay = true) :
    s.play.state = .leading ∨ s.play.state = .following ∨ s.play.state = .holding := by
  cases state : s.play.state <;> simp [State.inPlay, State.moving, state] at inPlay ⊢

/-- Neither play, SILENCED nor start-up is HALTED. -/
theorem awake_of_refused {s : State} (refused : s.inPlay = true ∨ s.play.state = .silenced ∨ s.play.state = .starting) :
    s.isHalted = false := by
  rcases refused.imp_left state_of_inPlay with (state | state | state) | state | state <;> simp [State.isHalted, state]

theorem takeSelect_of_refused {n : Nat} {s : State} (refused : s.inPlay = true ∨ s.play.state = .silenced ∨ s.play.state = .starting) :
    takeSelect n s = s := by
  rcases refused.imp_left state_of_inPlay with (state | state | state) | state | state <;> simp only [takeSelect, state]

/-- A free port serves what the loader asks for (R40). -/
theorem grant_of_loader {p : FlashPort} {r : FlashRead} (free : p.serving = none) (granting : p.granting = true) (waits : p.loaderWaits = some r) :
    p.grant.serving = some r := by
  simp [FlashPort.grant, granting, free, waits]

end Sys2Proof.Machine
end

section

open Sys2Proof Sys2Proof.Machine

/-- Settles O35: SELECT by the play state that it finds. -/
theorem selectBeginsLoad : Obligations.SelectBeginsLoad := by
  unfold Obligations.SelectBeginsLoad
  intro bytes p n s heard
  refine ⟨fun ready => ?_, fun refused => ?_⟩
  · have awake : s.isHalted = false := by rcases ready with state | state | state <;> simp [State.isHalted, state]
    have taken : exec (.select bytes) s = _ := (receiveCue_of_heard heard awake).trans (congrArg _ (takeSelect_of_ready ready))
    exact ⟨_, taken, rfl, rfl, rfl, rfl, rfl, rfl, rfl, rfl, rfl, fun free granting => grant_of_loader free granting rfl,
      rfl, rfl, rfl, rfl, rfl, rfl, rfl, rfl⟩
  · exact (receiveCue_of_heard heard (awake_of_refused refused)).trans (congrArg _ (takeSelect_of_refused refused))

end

section
namespace Sys2Proof.Machine

variable {s : State}

/-! ## A seek with no join (R56) -/

/-- Settled, a note reader is the running or stopped one it was, in a section it may have entered since (R52 to R55). -/
theorem settleNotes_phase (s : State) : (settleNotes s).store.notes.phase = s.store.notes.phase := congrArg Bearing.notes (settleNotes_bearing s)

theorem settleNotesStep_ends (s t : State) (turn : settleNotesStep s = some t) :
    (t.store.notes.endReached, t.store.notes.endPassed) = (s.store.notes.endReached, s.store.notes.endPassed) := by
  unfold settleNotesStep at turn
  split at turn
  · dsimp only at turn
    repeat' split at turn
    all_goals cases turn <;> rfl
  · cases turn

/-- Both readers put to the start of a beat's section (R46, R56). -/
def State.readersAt (h : Header) (beat : Nat) (s : State) : State :=
  { s with
    store.marks := ⟨.running, h.sectionOf beat, 0, [], none, 24 * beat, false⟩
    store.notes := ⟨.running, h.sectionOf beat, 0, [], none, 24 * beat, s.out.stopImage, false, false, false, false⟩ }

theorem startReaders_of_header {h : Header} (beat : Nat) (header : s.header = some h) :
    startReaders beat s = settleNotes (settleMarks (s.readersAt h beat)) := by
  simp only [startReaders, header, State.readersAt]

theorem settleMarks_notes (s : State) : (settleMarks s).store.notes = s.store.notes := by
  unfold settleMarks
  split
  · dsimp only
    repeat' split
    all_goals rfl
  · rfl

/-- The readers begun at a beat, the note reader running toward an end not reached (R52, R55, R56). -/
theorem startReaders_notes {h : Header} (beat : Nat) (header : s.header = some h) :
    (startReaders beat s).store.notes.phase = .running ∧ (startReaders beat s).store.notes.endReached = false ∧
      (startReaders beat s).store.notes.endPassed = false := by
  have marked := settleMarks_notes (s.readersAt h beat)
  have ended := iterate_keeps (fun u : State => (u.store.notes.endReached, u.store.notes.endPassed)) settleNotesStep_ends 20
    (settleMarks (s.readersAt h beat))
  rw [marked, Prod.mk.injEq] at ended
  rw [startReaders_of_header beat header]
  exact ⟨(settleNotes_phase _).trans (congrArg NoteReader.phase marked), ended⟩

theorem completeSeek_unjoined (noJoin : s.play.join = none) :
    ∃ seek, completeSeek s = { s with store.seek := seek } ∧ (seek = s.store.seek ∨ seek = none) := by
  unfold completeSeek
  split
  · split
    · dsimp only
      split
      · rename_i join
        rw [noJoin] at join
        cases join
      · exact ⟨none, rfl, .inr rfl⟩
    · exact ⟨_, rfl, .inl rfl⟩
  · exact ⟨_, rfl, .inl rfl⟩

/-- What both readers are as a seek to a beat has begun (R56). -/
def ScoreStore.seeks (beat : Nat) (stopImage : BitVec 16) (c : ScoreStore) : Prop :=
  c.marks.phase = .running ∧ c.marks.discardBelow = 24 * beat ∧ c.notes.phase = .running ∧ c.notes.start = 24 * beat ∧
    c.notes.planned = stopImage ∧ c.notes.endReached = false ∧ c.notes.endPassed = false

/-- A seek with no join request empties the table and the mark queue, sets the readers up, and may be complete at once (R56, R165). -/
theorem beginSeek_unjoined (beat : Nat) (noJoin : s.play.join = none) :
    ∃ store, beginSeek beat s = { emptyFired s with store := store } ∧ store.queue = [] ∧ store.hymn = s.store.hymn ∧
      store.loader = s.store.loader ∧
      (store.seek = some beat ∨ store.seek = none) ∧ (s.store.hymn.isSome = true → store.seeks beat s.out.stopImage) := by
  let sought : State := { emptyFired s with store := { s.store with port := s.store.port.abandonAll, queue := [], seek := some beat } }
  have begun : beginSeek beat s = completeSeek (startReaders beat sought) := rfl
  have readers : ∃ store : ScoreStore, startReaders beat sought = { sought with store := store } ∧ store.queue = [] ∧
      store.hymn = s.store.hymn ∧ store.loader = s.store.loader ∧ store.seek = some beat ∧
      (s.store.hymn.isSome = true → store.seeks beat s.out.stopImage) := by
    cases header : s.header with
    | none =>
      have missing : s.store.hymn = none := Option.map_eq_none_iff.1 header
      have same : startReaders beat sought = sought := by
        unfold startReaders
        rw [show sought.header = none from header]
      exact ⟨sought.store, same, rfl, rfl, rfl, rfl, fun held => absurd held (by simp [missing])⟩
    | some h =>
      obtain ⟨port, notes, started, start, planned⟩ := startReaders_eq (s := sought) beat header (abandonAll_awaits _ _)
      have running := startReaders_notes (s := sought) beat header
      rw [started] at running
      exact ⟨_, started, rfl, rfl, rfl, rfl, fun _ => ⟨rfl, rfl, running.1, start, planned.trans (emptyFired_stopImage s), running.2⟩⟩
  obtain ⟨store, started, queue, hymn, loader, seek, seeks⟩ := readers
  obtain ⟨seek', completed, after⟩ := completeSeek_unjoined (s := { sought with store := store }) noJoin
  rw [begun, started, completed]
  exact ⟨{ store with seek := seek' }, rfl, queue, hymn, loader, after.imp_left (·.trans seek), seeks⟩

/-! ## The table emptied (R165) -/

theorem emptyFired_counts (s : State) (key : Key) : (emptyFired s).out.counts[key] = s.out.counts[key] - firedOffs s.sched.table key := by
  simp [emptyFired]

theorem firedOffs_initial (key : Key) : firedOffs Scheduler.initial.table key = 0 := by
  simp [firedOffs, Scheduler.initial, isFiredOff]

/-- A table with no action is emptied at the coils alone. -/
theorem emptyFired_of_initial (empty : s.sched = .initial) : emptyFired s = { s with out := releaseCoils s.out } := by
  have counts : (Vector.ofFn fun k : Fin 64 => s.out.counts[k] - firedOffs s.sched.table k) = s.out.counts := by
    refine Vector.ext fun i bound => ?_
    rw [Vector.getElem_ofFn, empty, firedOffs_initial]
    rfl
  unfold emptyFired
  rw [counts, ← empty]
  rfl

/-! ## STOP (R65, R68, R69, R80) -/

/-- Play stopped, as the seek to 0 begins: the table emptied with firing, the gather unit and the follower emptied, the swell at rest (R68). -/
def State.playStopped (s : State) : State :=
  { emptyFired s with
    gather := emptyGather s.gather, follow := emptyFollower s.follow, play := s.play.rest .loaded
    out := { (emptyFired s).out with swell := s.cfg.swellRest, target := s.cfg.swellRest } }

theorem playStopped_stopImage (s : State) : s.playStopped.out.stopImage = s.out.stopImage := emptyFired_stopImage s

theorem stopPlay_eq (s : State) :
    ∃ store, stopPlay s = { s.playStopped with store := store } ∧ store.queue = [] ∧ store.hymn = s.store.hymn ∧
      (s.store.hymn.isSome = true → store.seeks 0 s.out.stopImage) := by
  obtain ⟨store, sought, queue, hymn, -, -, seeks⟩ := beginSeek_unjoined (s := s.playStopped) 0 rfl
  have emptied : emptyFired s.playStopped = s.playStopped := emptyFired_of_initial rfl
  rw [emptied] at sought
  rw [playStopped_stopImage] at seeks
  exact ⟨store, sought, queue, hymn, seeks⟩

theorem takeStop_of_inPlay (inPlay : s.inPlay = true) : takeStop s = stopPlay s := by
  rcases state_of_inPlay inPlay with state | state | state <;> simp only [takeStop, state]

theorem takeStop_of_loaded (state : s.play.state = .loaded) :
    takeStop s = if joinSeeking s then beginSeek 0 { s with play.join := none } else { s with play.join := none } := by
  simp only [takeStop, state]

/-- No join seeks without a seek, or without a join anchor (R57). -/
theorem joinSeeking_of_still (still : s.store.seek = none ∨ ∀ j, s.play.join = some j → j.anchor = none) : joinSeeking s = false := by
  rcases still with none | unjoined
  · simp [joinSeeking, none]
  · cases join : s.play.join with
    | none => simp [joinSeeking, join]
    | some j => simp [joinSeeking, join, unjoined j join]

theorem takeStop_of_silenced (state : s.play.state = .silenced) : takeStop s = if s.out.cutoff.asserted then s else leaveSilenced s := by
  simp only [takeStop, state]

/-- SILENCED left with a hymn held: LOADED, the swell at rest, a seek to 0 (R59, R80). -/
theorem leaveSilenced_of_hymn (held : s.store.hymn.isSome = true) :
    leaveSilenced s =
      beginSeek 0 { s with play.state := .loaded, out := { s.out with swell := s.cfg.swellRest, target := s.cfg.swellRest } } := if_pos held

/-- SILENCED left with none: IDLE, the readers idle (R59, R80). -/
theorem leaveSilenced_of_none (without : s.store.hymn = none) :
    leaveSilenced s =
      { s with
        play.state := .idle, out := { s.out with swell := s.cfg.swellRest, target := s.cfg.swellRest }
        store.marks.phase := .idle, store.notes.phase := .idle } := if_neg (by simp [without])

end Sys2Proof.Machine
end

section

open Sys2Proof Sys2Proof.Machine

/-- Settles O37: STOP by the play state that it finds, a stop of play and a seek to 0 written out. -/
theorem stopTaken : Obligations.StopTaken := by
  unfold Obligations.StopTaken
  intro bytes p n s heard
  have taken (awake : s.isHalted = false) : exec (.stop bytes) s = .next (takeStop (s.afterFrameFrom bytes p)) := receiveCue_of_heard heard awake
  have awake {st : PlayState} (state : s.play.state = st) (other : st ≠ .halted) : s.isHalted = false := by
    simpa [State.isHalted, state] using other
  refine ⟨fun inPlay => ?_, fun state => ?_, fun state still => ?_, fun k m j state seek join held => ?_, fun state asserted => ?_,
    fun state released without => ?_, fun state released held noJoin => ?_, fun idle => ?_⟩
  · obtain ⟨store, stopped, queue, hymn, seeks⟩ := stopPlay_eq (s.afterFrameFrom bytes p)
    have effect := (takeStop_of_inPlay (s := s.afterFrameFrom bytes p) inPlay).trans stopped
    refine ⟨_, (taken (awake_of_refused (.inl inPlay))).trans (congrArg _ effect), rfl, rfl, fun key => ?_, rfl, rfl,
      playStopped_stopImage _, rfl, rfl, rfl, rfl, rfl,
      rfl, rfl, rfl, queue, hymn, fun held => ?_, rfl, rfl, rfl, rfl, rfl, rfl⟩
    · exact emptyFired_counts (s.afterFrameFrom bytes p) key
    · obtain ⟨-, -, -, start, planned, more, -⟩ := seeks held
      exact ⟨planned, start, more⟩
  · refine (taken (awake state nofun)).trans (congrArg _ ?_)
    simp only [takeStop, State.afterFrameFrom, state]
  · have unsought : joinSeeking (s.afterFrameFrom bytes p) = false := joinSeeking_of_still still
    exact (taken (awake state nofun)).trans
      (congrArg _ ((takeStop_of_loaded (s := s.afterFrameFrom bytes p) state).trans (if_neg (ne_true_of_eq_false unsought))))
  · have seeking : joinSeeking (s.afterFrameFrom bytes p) = true := by simp [joinSeeking, State.afterFrameFrom, seek, join]
    obtain ⟨store, sought, queue, hymn, -, reached, seeks⟩ := beginSeek_unjoined (s := { s.afterFrameFrom bytes p with play.join := none }) 0 rfl
    have effect := ((takeStop_of_loaded (s := s.afterFrameFrom bytes p) state).trans (if_pos seeking)).trans sought
    obtain ⟨-, below, -, start, planned, -⟩ := seeks held
    exact ⟨_, (taken (awake state nofun)).trans (congrArg _ effect), rfl, reached, queue, hymn, below, start, planned, rfl, rfl, rfl, rfl⟩
  · exact (taken (awake state nofun)).trans (congrArg _ ((takeStop_of_silenced (s := s.afterFrameFrom bytes p) state).trans (if_pos asserted)))
  · have left := (takeStop_of_silenced (s := s.afterFrameFrom bytes p) state).trans (if_neg (ne_true_of_eq_false released))
    exact (taken (awake state nofun)).trans (congrArg _ (left.trans (leaveSilenced_of_none without)))
  · have left := leaveSilenced_of_hymn (s := s.afterFrameFrom bytes p) held
    obtain ⟨store, sought, -, hymn, -, -, seeks⟩ := beginSeek_unjoined
      (s := { s.afterFrameFrom bytes p with play.state := .loaded, out := { s.out with swell := s.cfg.swellRest, target := s.cfg.swellRest } })
      0 noJoin
    have effect := ((takeStop_of_silenced (s := s.afterFrameFrom bytes p) state).trans (if_neg (ne_true_of_eq_false released))).trans
      (left.trans sought)
    obtain ⟨marks, -, notes, start, -, -⟩ := seeks held
    exact ⟨_, (taken (awake state nofun)).trans (congrArg _ effect), rfl, hymn, rfl, marks, notes, start⟩
  · rcases idle with state | state
    · refine (taken (awake state nofun)).trans (congrArg _ ?_)
      simp only [takeStop, State.afterFrameFrom, state]
    · refine (taken (awake state nofun)).trans (congrArg _ ?_)
      simp only [takeStop, State.afterFrameFrom, state]

end

section
/-! The directory search (R43). -/

namespace Sys2Proof.Machine

variable {s : State}

/-- A load fails with its first SCORE report (R47). -/
theorem loadFailed_of_free (would : s.wouldReport 4) : loadFailed { s with store.port := .initial } = s.afterFailedLoad := by
  obtain ⟨report, clear, -, running⟩ := would
  exact raiseFault_withReport ⟨report, clear, rfl, running⟩ (by decide) (by decide)

/-- The middle of a range lies in its middle, whichever of two it is (log 6). -/
theorem middle_between (low high : Nat) : low + (high - low - 1) / 2 ≤ middle low high ∧ middle low high ≤ low + (high - low) / 2 := by
  unfold middle
  split <;> omega

theorem probe_of_free {n low high : Nat} (inside : low < high) :
    probe n low high { s with store.port := .initial } =
      { s with
        store :=
          { s.store with
            loader := .search n low high (middle low high), port := .only ⟨.directoryEntry, 2050 + 8 * middle low high, 8⟩ } } :=
  if_neg (not_le.2 inside)

theorem probe_of_empty {n low high : Nat} (would : s.wouldReport 4) (empty : high ≤ low) :
    probe n low high { s with store.port := .initial } = s.afterFailedLoad := (if_pos empty).trans (loadFailed_of_free would)

section

variable {n count low high at_ : Nat} {e : DirectoryEntry}

theorem takeCount_of_range (few : count ≤ 1023) : takeCount n count s = probe n 0 count s := if_neg (not_lt.2 few)

theorem takeCount_of_many (many : 1023 < count) : takeCount n count s = loadFailed s := if_pos many

/-- An entry that names no hymn (R43). -/
theorem takeEntry_of_nameless (nameless : e.hymn < 1 ∨ 1023 < e.hymn) : takeEntry n low high at_ e s = loadFailed s :=
  if_pos (by simpa using nameless)

/-- An entry that names a hymn is the one looked for, or leaves the half below it or above it (R43). -/
theorem takeEntry_of_named (least : 1 ≤ e.hymn) (most : e.hymn ≤ 1023) :
    takeEntry n low high at_ e s =
      if e.hymn = n then requestLoad .header e.address 59 { s with store.loader := .header n e.address e.length }
      else if n < e.hymn then probe n low at_ s
      else probe n (at_ + 1) high s := if_neg (by simp; omega)

end

end Sys2Proof.Machine
end

section

open Sys2Proof Sys2Proof.Machine

/-- Settles O39: the count's range probed, an entry found, a half probed on, and the ways the search fails. -/
theorem directorySearch : Obligations.DirectorySearch := by
  unfold Obligations.DirectorySearch
  intro bytes n r s port length would probes
  have read (unit : r.unit ∈ [FlashUnit.directoryCount, .directoryEntry]) :
      exec (.directoryRead bytes) s = .next (takeDirectory bytes { s with store.port := .initial }) :=
    completeRead_of_only (takeDirectory bytes) port unit length
  have probing {low high : Nat} (inside : low < high)
      (taken : exec (.directoryRead bytes) s = .next (probe n low high { s with store.port := .initial })) : ∃ m, probes low high m := by
    obtain ⟨above, below⟩ := middle_between low high
    exact ⟨_, above, below, taken.trans (congrArg _ (probe_of_free inside))⟩
  refine ⟨fun unit loader => ?_, ?_⟩
  · have count : exec (.directoryRead bytes) s = .next (takeCount n (leNat bytes) { s with store.port := .initial }) := by
      rw [read (by simp [unit])]
      simp only [takeDirectory, loader]
    refine ⟨fun some_ few => probing some_ (count.trans (congrArg _ (takeCount_of_range few))), ?_⟩
    rintro (none | many)
    · rw [count, takeCount_of_range (by omega), probe_of_empty would (by omega)]
    · rw [count, takeCount_of_many many, loadFailed_of_free would]
  · intro low high at_ unit loader e
    have entry : exec (.directoryRead bytes) s = .next (takeEntry n low high at_ e { s with store.port := .initial }) := by
      rw [read (by simp [unit])]
      simp only [takeDirectory, loader, e]
    have named (least : 1 ≤ e.hymn) (most : e.hymn ≤ 1023) := entry.trans (congrArg _ (takeEntry_of_named least most))
    refine ⟨fun least most found => ?_, fun above most inside => ?_, fun least most below inside => ?_, ?_⟩
    · exact (named (by omega) (by omega)).trans (congrArg _ (if_pos found))
    · exact probing inside ((named (by omega) most).trans (congrArg _ ((if_neg (by omega)).trans (if_pos above))))
    · exact probing inside ((named least most).trans (congrArg _ ((if_neg (by omega)).trans (if_neg (by omega)))))
    · intro fails
      by_cases nameless : e.hymn < 1 ∨ 1023 < e.hymn
      · rw [entry, takeEntry_of_nameless nameless, loadFailed_of_free would]
      · rw [named (by omega) (by omega), if_neg (by omega)]
        split
        · exact congrArg _ (probe_of_empty would (by omega))
        · exact congrArg _ (probe_of_empty would (by omega))

end

section
/-! The layout of a hymn record: the header's fields, the verse plan's entries, and when they are in range (R44, R45, R206). -/

namespace Sys2Proof.Machine

/-! ## Numbers in bytes (R204) -/

/-- A number in bytes, its low byte first. Bytes that are missing count as 0. -/
theorem field_succ (bytes : List Byte) (o w : Nat) : field bytes o (w + 1) = (bytes.getD o 0).toNat + 256 * field bytes (o + 1) w := by
  unfold field
  by_cases inside : o < bytes.length
  · rw [List.drop_eq_getElem_cons inside, List.take_succ_cons, leNat, List.getD_eq_getElem _ _ inside]
  · have ended : bytes.length ≤ o := Nat.le_of_not_lt inside
    rw [List.drop_eq_nil_of_le ended, List.drop_eq_nil_of_le (Nat.le_succ_of_le ended), List.getD_eq_default _ _ ended]
    simp [leNat]

@[simp] theorem field_zero (bytes : List Byte) (o : Nat) : field bytes o 0 = 0 := by simp [field, leNat]

/-- A record of `n` bytes has its fields where they stand in the bytes that hold it. -/
theorem field_record (bytes : List Byte) {k n o w : Nat} (inside : o + w ≤ n) : field ((bytes.drop k).take n) o w = field bytes (k + o) w := by
  unfold field
  rw [List.drop_take, List.drop_drop, List.take_take, Nat.min_eq_left (by omega)]

/-! ## The verse plan (R45) -/

theorem mapM_eq_map {α β : Type} {f : α → Option β} {g : α → β} {l : List α} (all : ∀ x ∈ l, f x = some (g x)) : l.mapM f = some (l.map g) := by
  induction l with
  | nil => rfl
  | cons x l ih =>
    rw [List.mapM_cons, all x List.mem_cons_self, ih fun y mem => all y (List.mem_cons_of_mem x mem)]
    rfl

theorem mapM_eq_none {α β : Type} {f : α → Option β} {l : List α} {x : α} (mem : x ∈ l) (fails : f x = none) : l.mapM f = none := by
  induction l with
  | nil => cases mem
  | cons y l ih =>
    rw [List.mapM_cons]
    rcases List.mem_cons.1 mem with rfl | later
    · rw [fails]
      rfl
    · rw [ih later]
      cases f y <;> rfl

section

variable (bytes : List Byte)

/-- Whether the bytes of a plan entry are in range (R45, R206). -/
def planEntryGood : Prop :=
  field bytes 0 1 < 32 ∧ field bytes 17 1 ≤ 3 ∧ field bytes 18 1 ≤ field bytes 19 1 ∧ 12 ≤ field bytes 20 1 ∧ field bytes 20 1 ≤ 24

/-- The entry that the bytes of a plan entry make (R206). -/
def planEntryOf : PlanEntry where
  voices := BitVec.ofNat 5 (field bytes 0 1)
  stops := Vector.ofFn fun d : Fin 8 => BitVec.ofNat 16 (field bytes (1 + 2 * d.val) 2)
  mode := match field bytes 17 1 with | 0 => .fixed | 1 => .quick | 2 => .steady | _ => .slow
  floor := field bytes 18 1
  ceiling := field bytes 19 1
  scale := field bytes 20 1

theorem parsePlanEntry_of_good (good : planEntryGood bytes) : parsePlanEntry bytes = some (planEntryOf bytes) := by
  obtain ⟨voices, mode, order, least, most⟩ := good
  unfold parsePlanEntry planEntryOf
  interval_cases field bytes 17 1 <;> simp [voices, order, least, most]

theorem parsePlanEntry_of_bad (bad : ¬planEntryGood bytes) : parsePlanEntry bytes = none := by
  unfold parsePlanEntry
  dsimp only
  split
  · rfl
  · rename_i known
    have mode : field bytes 17 1 ≤ 3 := by
      split at known
      case h_5 => cases known
      all_goals omega
    refine if_neg fun good => bad ?_
    simp only [Bool.and_eq_true, decide_eq_true_eq] at good
    exact ⟨good.1.1.1, mode, good.1.1.2, good.1.2, good.2⟩

end

variable {bytes : List Byte} {verses : Nat}

theorem parsePlan_of_good (check : checked bytes = true) (good : ∀ v < verses, planEntryGood ((bytes.drop (21 * v)).take 21)) :
    parsePlan verses bytes = some ((List.range verses).map fun v => planEntryOf ((bytes.drop (21 * v)).take 21)) :=
  (if_pos check).trans (mapM_eq_map fun v mem => parsePlanEntry_of_good _ (good v (List.mem_range.1 mem)))

theorem parsePlan_of_bad (bad : ¬(checked bytes = true ∧ ∀ v < verses, planEntryGood ((bytes.drop (21 * v)).take 21))) :
    parsePlan verses bytes = none := by
  unfold parsePlan
  split
  · rename_i check
    obtain ⟨v, inside, fails⟩ : ∃ v < verses, ¬planEntryGood ((bytes.drop (21 * v)).take 21) := by
      by_contra none
      exact bad ⟨check, by simpa using none⟩
    exact mapM_eq_none (List.mem_range.2 inside) (parsePlanEntry_of_bad _ fails)
  · rfl

end Sys2Proof.Machine
end

section
/-! A header read, and the verse plan that makes a hymn the loaded hymn (R44 to R47, R66). -/

namespace Sys2Proof.Machine

variable {s : State}

/-! ## The header (R44) -/

theorem takeHeader_of_good {bytes : List Byte} {n address length : Nat} (loader : s.store.loader = .header n address length)
    (good : checked bytes = true ∧ (parseHeader bytes).inRange n length = true) :
    takeHeader bytes { s with store.port := .initial } =
      { s with
        store :=
          { s.store with
            loader := .plan address (parseHeader bytes)
            port := .only ⟨.plan, address + 59, 21 * (parseHeader bytes).verses + 2⟩ } } := by
  simp only [takeHeader, loader, good.1, good.2, Bool.and_self, if_true]
  rfl

theorem takeHeader_of_bad {bytes : List Byte} {n address length : Nat} (would : s.wouldReport 4)
    (loader : s.store.loader = .header n address length) (bad : ¬(checked bytes = true ∧ (parseHeader bytes).inRange n length = true)) :
    takeHeader bytes { s with store.port := .initial } = s.afterFailedLoad := by
  rw [← loadFailed_of_free would]
  simp only [takeHeader, loader]
  exact if_neg (by rwa [Bool.and_eq_true])

theorem fits_iff (size length : Nat) (r : StreamRef) :
    r.fits size length = true ↔ r.offset + r.count * size + 2 * ((r.count + 15) / 16) ≤ length := by
  rw [StreamRef.fits, decide_eq_true_eq, StreamRef.space, Nat.add_assoc]

theorem inRange_iff (h : Header) (n length : Nat) :
    h.inRange n length = true ↔
      h.number = n ∧ 2000 ≤ h.period ∧ h.period ≤ 24000 ∧ 1 ≤ h.length ∧ h.length ≤ 512 ∧ 1 ≤ h.verses ∧ h.verses ≤ 8 ∧
        h.introFirst ≤ h.introLast ∧ h.introLast < h.length ∧ h.gap ≤ 16 ∧
        h.marks.offset + h.marks.count * 4 + 2 * ((h.marks.count + 15) / 16) ≤ length ∧
        ∀ d : Fin 8, (h.notes[d]).offset + (h.notes[d]).count * 5 + 2 * (((h.notes[d]).count + 15) / 16) ≤ length := by
  simp only [Header.inRange, Bool.and_eq_true, beq_iff_eq, decide_eq_true_eq, all_toList_iff, fits_iff, and_assoc]

/-! ## The plan (R45, R46) -/

/-- The state in which the readers of a hymn just held are put to its beginning (R46). -/
def State.primed (hymn : Hymn) (s : State) : State :=
  { s with store := { s.store with port := .initial, loader := .priming, hymn := some hymn } }

theorem takePlan_of_good {bytes : List Byte} {address : Nat} {h : Header} {plan : List PlanEntry} (loader : s.store.loader = .plan address h)
    (parsed : parsePlan h.verses bytes = some plan) :
    takePlan bytes { s with store.port := .initial } = testPrimed (startReaders 0 (s.primed ⟨address, h, plan⟩)) := by
  simp only [takePlan, loader, parsed, State.primed]

theorem takePlan_of_bad {bytes : List Byte} {address : Nat} {h : Header} (would : s.wouldReport 4) (loader : s.store.loader = .plan address h)
    (unparsed : parsePlan h.verses bytes = none) : takePlan bytes { s with store.port := .initial } = s.afterFailedLoad := by
  rw [← loadFailed_of_free would]
  simp only [takePlan, loader, unparsed]

theorem sectionOf_zero (h : Header) : h.sectionOf 0 = 0 := if_pos (Nat.succ_pos _)

/-- A read in flight stays in flight while others ask (R40). -/
theorem grant_of_serving {p : FlashPort} {r : FlashRead} (serving : p.serving = some r) : p.grant = p := by
  simp [FlashPort.grant, serving]

theorem serving_grant {p : FlashPort} {r : FlashRead} (serving : p.serving = some r) : p.grant.serving = some r := by
  rw [grant_of_serving serving]
  exact serving

theorem settleNotes_serving {r : FlashRead} (serving : s.store.port.serving = some r) : (settleNotes s).store.port.serving = some r := by
  refine iterate_invariant (p := fun u : State => u.store.port.serving = some r) (fun u t serving turn => ?_) 20 serving
  unfold settleNotesStep at turn
  split at turn
  · dsimp only at turn
    split at turn
    · split at turn
      · cases turn
        exact serving
      · split at turn
        · cases turn
          exact serving_grant serving
        · repeat' split at turn
          all_goals cases turn
          all_goals exact serving
    · cases turn
  · cases turn

/-- The readers of a hymn with marks, put to its beginning: the first mark block in flight (R46, R50). -/
theorem startReaders_primed {hymn : Hymn} (marks : 0 < hymn.header.marks.count) :
    ∃ port notes,
      startReaders 0 (s.primed hymn) =
          { s.primed hymn with
            store := { (s.primed hymn).store with port := port, marks := ⟨.running, 0, 0, [], none, 0, false⟩, notes := notes } } ∧
        notes.phase = .running ∧ notes.start = 0 ∧ notes.planned = s.out.stopImage ∧
        port.serving = some ⟨.markBlock, hymn.address + hymn.header.marks.offset, min 16 hymn.header.marks.count * 4 + 2⟩ := by
  have header : (s.primed hymn).header = some hymn.header := rfl
  obtain ⟨port, notes, started, start, planned⟩ := startReaders_eq (s := s.primed hymn) 0 header rfl
  have running := startReaders_notes (s := s.primed hymn) 0 header
  have asked : (settleMarks ((s.primed hymn).readersAt hymn.header 0)).store.port.serving =
      some ⟨.markBlock, hymn.address + hymn.header.marks.offset, min 16 hymn.header.marks.count * 4 + 2⟩ := by
    simp [settleMarks, State.primed, State.readersAt, FlashPort.awaits, FlashPort.initial, marks, FlashPort.grant, blockRead]
  have serving := settleNotes_serving asked
  rw [← startReaders_of_header 0 header, started] at serving
  rw [started] at running
  rw [decide_eq_false marks.ne', sectionOf_zero] at started
  exact ⟨port, notes, started, running.1, start, planned, serving⟩

theorem testPrimed_of_priming (priming : s.store.loader = .priming) : testPrimed s = if readersReady s then loadComplete s else s := if_pos priming

/-- The readers of a hymn with nothing to read are ready at once (R46). -/
theorem testPrimed_of_nothing {hymn : Hymn} (nothing : hymn.header.marks.count = 0) (silent : s.readDivision = none) :
    ∃ port marks notes,
      testPrimed (startReaders 0 (s.primed hymn)) =
          loadComplete
            { s.primed hymn with store := { (s.primed hymn).store with port := port, marks := marks, notes := notes } } ∧
        marks.ended = true := by
  have header : (s.primed hymn).header = some hymn.header := rfl
  obtain ⟨port, notes, started, -⟩ := startReaders_eq (s := s.primed hymn) 0 header rfl
  rw [decide_eq_true nothing] at started
  refine ⟨port, ⟨.running, hymn.header.sectionOf 0, 0, [], none, 24 * 0, true⟩, notes, ?_, rfl⟩
  rw [started]
  exact (testPrimed_of_priming rfl).trans (if_pos (by exact readersReady_of_ended header rfl silent))

/-! ## The load complete (R46, R66, R67) -/

theorem loadComplete_of_unasked (noStart : s.play.pendingStart = none) (noJoin : s.play.join = none) :
    loadComplete s = { s with store.loader := .idle, play := { s.play with state := .loaded, joinLoad := none } } := by
  simp only [loadComplete, noStart, noJoin]

/-- Play begins in the intro at play beat 0, 6000 ticks past the mark or now, from a seek to 0 if another one stands (R57, R67). -/
theorem playBegin_eq {h : Header} (mark : Time) (header : s.header = some h) :
    ∃ u,
      playBegin mark s = enterPlay 0 ⟨0, if 0 ≤ since s.now (mark + 6000) then s.now else mark + 6000, h.period⟩ 0 .playBegin u ∧
        u.play = { s.play with pendingStart := none, join := none } ∧ u.store.hymn = s.store.hymn ∧ u.store.loader = s.store.loader := by
  let cleared : State := { s with play := { s.play with pendingStart := none, join := none } }
  obtain ⟨store, sought, -, hymn, loader, -, -⟩ := beginSeek_unjoined (s := cleared) 0 rfl
  obtain ⟨u, begun, play, hymn, loader, clock⟩ : ∃ u,
      (if cleared.store.seek.any (· != 0) then beginSeek 0 cleared else cleared) = u ∧ u.play = cleared.play ∧
        u.store.hymn = s.store.hymn ∧ u.store.loader = s.store.loader ∧ u.clock = s.clock := by
    split
    · exact ⟨_, sought, rfl, hymn, loader, rfl⟩
    · exact ⟨_, rfl, rfl, rfl, rfl, rfl⟩
  have held : u.header = some h := (congrArg (Option.map Hymn.header) hymn).trans header
  have now : u.now = s.now := congrArg Clock.time clock
  refine ⟨u, ?_, play, hymn, loader⟩
  unfold playBegin
  dsimp only
  rw [begun, held, now]
  simp only [reached, decide_eq_true_eq]
  rfl

/-- With a START pending the load's completion begins play (R66, R67). -/
theorem loadComplete_of_start {h : Header} {mark : Time} (pending : s.play.pendingStart = some mark) (header : s.header = some h) :
    ∃ t, loadComplete s = t ∧ t.store.hymn = s.store.hymn ∧ t.store.loader = .idle ∧
      t.play =
        { s.play with
          state := .leading, sect := some 0, run := 0, leadLock := false, pendingStart := none, join := none, joinLoad := none
          returnState := none } ∧
      t.ruling = some ⟨0, if 0 ≤ since s.now (mark + 6000) then s.now else mark + 6000, h.period⟩ ∧ t.follow.nextBeat = some 0 ∧
      t.fault.latches = 0 ∧ t.passBegun := by
  have begun : loadComplete s = playBegin mark { s with store.loader := .idle, play := { s.play with state := .loaded, joinLoad := none } } := by
    simp only [loadComplete, pending]
  obtain ⟨u, entered, play, hymn, loader⟩ := playBegin_eq
    (s := { s with store.loader := .idle, play := { s.play with state := .loaded, joinLoad := none } }) mark header
  obtain ⟨queue, notes, watch, broaden, e⟩ :=
    enterPlay_eq 0 ⟨0, if 0 ≤ since s.now (mark + 6000) then s.now else mark + 6000, h.period⟩ 0 .playBegin u
  refine ⟨_, begun.trans (entered.trans e), hymn, loader, ?_, rfl, rfl, rfl, startPass_pass _⟩
  simp only [State.leadingOn, play]

end Sys2Proof.Machine
end

section

open Sys2Proof Sys2Proof.Machine

/-- Settles O40: the header kept and the plan read, the hymn held and its readers started, or the load failed. -/
theorem headerAndPlan : Obligations.HeaderAndPlan := by
  unfold Obligations.HeaderAndPlan
  intro bytes r s port length would one two three
  have field1 (o : Nat) : field bytes o 1 = one o := by simp [field_succ, one]
  have field2 (o : Nat) : field bytes o 2 = two o := by simp [field_succ, two, one]
  have field3 (o : Nat) : field bytes o 3 = three o := by
    simp only [field_succ, field_zero, three, two, one, Nat.add_assoc, Nat.reduceAdd]
    omega
  refine ⟨?_, ?_⟩
  · intro n address size unit loader h good
    have read : exec (.headerRead bytes) s = .next (takeHeader bytes { s with store.port := .initial }) :=
      completeRead_of_only (takeHeader bytes) port (by simp [unit]) length
    have parsed : parseHeader bytes = h := by simp only [parseHeader, field1, field2, field3, h]
    have valid : good ↔ checked bytes = true ∧ (parseHeader bytes).inRange n size = true := by rw [parsed, inRange_iff]
    rw [read]
    refine ⟨fun ok => ?_, fun bad => ?_⟩
    · rw [takeHeader_of_good loader (valid.1 ok), parsed]
    · rw [takeHeader_of_bad would loader (mt valid.2 bad)]
  · intro address h unit loader whole good entry hymn
    have read : exec (.versePlanRead bytes) s = .next (takePlan bytes { s with store.port := .initial }) :=
      completeRead_of_only (takePlan bytes) port (by simp [unit]) length
    have record1 (v : Nat) {o : Nat} (inside : o < 21) : field ((bytes.drop (21 * v)).take 21) o 1 = one (21 * v + o) :=
      (field_record bytes inside).trans (field1 _)
    have valid : good ↔ checked bytes = true ∧ ∀ v < h.verses, planEntryGood ((bytes.drop (21 * v)).take 21) := by
      simp only [planEntryGood, record1, good, Nat.lt_add_one, Nat.reduceLT, Nat.add_zero]
    have entries (v : Nat) : planEntryOf ((bytes.drop (21 * v)).take 21) = entry v := by
      have stops (d : Fin 8) : field ((bytes.drop (21 * v)).take 21) (1 + 2 * d.val) 2 = two (21 * v + 1 + 2 * d.val) := by
        rw [field_record bytes (by omega), field2, Nat.add_assoc]
      simp only [planEntryOf, record1, stops, entry, Nat.reduceLT, Nat.add_zero] <;> rfl
    have held (ok : good) : exec (.versePlanRead bytes) s = .next (testPrimed (startReaders 0 (s.primed hymn))) := by
      obtain ⟨check, ranges⟩ := valid.1 ok
      have parsed := (parsePlan_of_good check ranges).trans (congrArg (fun f => some ((List.range h.verses).map f)) (funext entries))
      rw [read, takePlan_of_good loader parsed]
    refine ⟨fun ok some_ queue => ?_, fun ok nothing silent => ?_, fun bad => ?_⟩
    · obtain ⟨notes, port, started, running, start, planned, serving⟩ := startReaders_primed (s := s) (hymn := hymn) some_
      have waits : testPrimed (startReaders 0 (s.primed hymn)) = startReaders 0 (s.primed hymn) := by
        rw [started]
        exact (testPrimed_of_priming rfl).trans (if_neg (ne_true_of_eq_false (by exact readersReady_of_marks queue rfl)))
      exact ⟨_, (held ok).trans (congrArg _ (waits.trans started)), rfl, rfl, rfl, queue, rfl, running, start, planned, serving, rfl, rfl, rfl,
        rfl, rfl, rfl⟩
    · obtain ⟨port, marks, notes, tested, ended⟩ := testPrimed_of_nothing (s := s) (hymn := hymn) nothing silent
      refine ⟨fun noStart noJoin => ?_, fun mark pending => ?_⟩
      · refine ⟨_, (held ok).trans (congrArg _ (tested.trans (loadComplete_of_unasked noStart noJoin))), rfl, rfl, rfl, rfl, ended, rfl, rfl, rfl⟩
      · obtain ⟨t, complete, rest⟩ := loadComplete_of_start (s := { s.primed hymn with
            store := { (s.primed hymn).store with port := port, marks := marks, notes := notes } }) (h := h) pending rfl
        exact ⟨t, (held ok).trans (congrArg _ (tested.trans complete)), rest⟩
    · rw [read, takePlan_of_bad would loader (parsePlan_of_bad (mt valid.2 bad))]

end

section
/-! What a report leaves as it was, and the note reader taken on past what it does not insert (R50, R53, R58, R184). -/

namespace Sys2Proof.Machine

variable {s t u : State}

/-- A channel that reacts by REPORT changes the fault unit and the transmit queue alone (R184, R185). -/
theorem raiseFault_reported {ch : FaultNo} (report : s.cfg.reactions[ch] = .report) :
    ∃ line fault, raiseFault ch s = { s with line := line, fault := fault } := by
  unfold raiseFault
  split
  · exact ⟨_, _, rfl⟩
  · rw [report]
    dsimp only [latchAndReport]
    split
    · exact ⟨_, _, rfl⟩
    · exact ⟨_, _, rfl⟩

/-- What the note reader leaves that is taken on without inserting anything: everything but its own place, the flash port and what a report
changes; the planned stop set stands. -/
def State.notesRead (s t : State) : Prop :=
  ∃ line fault port notes,
    t = { s with line := line, fault := fault, store := { s.store with port := port, notes := notes } } ∧
      notes.planned = s.store.notes.planned

theorem State.notesRead.trans (first : s.notesRead t) (second : t.notesRead u) : s.notesRead u := by
  obtain ⟨line, fault, port, notes, rfl, planned⟩ := first
  obtain ⟨line', fault', port', notes', rfl, planned'⟩ := second
  exact ⟨line', fault', port', notes', rfl, planned'.trans planned⟩

theorem raiseFault_notesRead {ch : FaultNo} (report : s.cfg.reactions[ch] = .report) : s.notesRead (raiseFault ch s) := by
  obtain ⟨line, fault, raised⟩ := raiseFault_reported report
  exact ⟨line, fault, _, _, raised, rfl⟩

theorem settleNotesStep_notesRead (turn : settleNotesStep s = some t) : s.notesRead t := by
  unfold settleNotesStep at turn
  split at turn
  · dsimp only at turn
    repeat' split at turn
    all_goals cases turn
    all_goals exact ⟨_, _, _, _, rfl, rfl⟩
  · cases turn

theorem noteStep_notesRead (report : s.cfg.reactions[(4 : FaultNo)] = .report) (turn : noteStep s = some t) : s.notesRead t := by
  unfold noteStep at turn
  split at turn
  · cases turn
  · dsimp only at turn
    split at turn
    · exact settleNotesStep_notesRead turn
    · repeat' split at turn
      · cases turn
      · cases turn
        exact ⟨_, _, _, _, rfl, rfl⟩
      · cases turn
        exact ⟨_, _, _, _, rfl, rfl⟩
      · cases turn
        exact State.notesRead.trans ⟨_, _, _, _, rfl, rfl⟩ (raiseFault_notesRead report)
      · cases turn
        exact ⟨_, _, _, _, rfl, rfl⟩
      · cases turn

theorem notesRead_cfg (read : s.notesRead t) : t.cfg = s.cfg := by
  obtain ⟨_, _, _, _, rfl, -⟩ := read
  rfl

/-- With no load and no seek to complete, the note reader taken on changes nothing but what it reads (R46, R56). -/
theorem runNotes_notesRead (report : s.cfg.reactions[(4 : FaultNo)] = .report) (idle : s.store.loader = .idle) (unsought : s.store.seek = none) :
    s.notesRead (runNotes s) := by
  have read : s.notesRead (iterate noteStep 60 s) :=
    iterate_invariant (p := s.notesRead)
      (fun u t before turn => before.trans (noteStep_notesRead (by rw [notesRead_cfg before]; exact report) turn)) 60 ⟨_, _, _, _, rfl, rfl⟩
  obtain ⟨line, fault, port, notes, e, planned⟩ := read
  refine ⟨line, fault, port, notes, ?_, planned⟩
  unfold runNotes
  rw [e]
  simp only [testPrimed, completeSeek, idle, unsought, reduceCtorEq, if_false]

end Sys2Proof.Machine
end

section
/-! The stop actions of the note reader's section (R54). -/

namespace Sys2Proof.Machine

variable {s : State}

theorem iterate_of_none {α : Type} {step : α → Option α} {a : α} (ends : step a = none) (n : Nat) : iterate step n a = a := by
  cases n with
  | zero => rfl
  | succ n => rw [iterate, ends]

theorem find?_finRange_eq_some {n : Nat} {test : Fin n → Bool} {i : Fin n} (is : test i = true) (first : ∀ j, j < i → test j = false) :
    (List.finRange n).find? test = some i := by
  refine List.find?_eq_some_iff_getElem.2 ⟨is, i.val, by simp, by simp, fun j below => ?_⟩
  simp [first ⟨j, by omega⟩ below]

/-! ## The stops that move -/

/-- The stops whose wanted state differs from the planned one, lowest first (R54). -/
def stopMoves (wanted planned : BitVec 16) : List StopNo :=
  (List.finRange 16).filter fun i => wanted.getLsbD i.val != planned.getLsbD i.val

/-- The coil that brings a stop to its wanted state. -/
def coilFor (wanted : BitVec 16) (i : StopNo) : Coil := if wanted.getLsbD i.val then .on else .off

theorem mem_stopMoves {wanted planned : BitVec 16} {i : StopNo} :
    i ∈ stopMoves wanted planned ↔ wanted.getLsbD i.val ≠ planned.getLsbD i.val := by simp [stopMoves]

theorem stopMoves_length_le (wanted planned : BitVec 16) : (stopMoves wanted planned).length ≤ 16 :=
  (List.length_filter_le _ _).trans (by simp)

theorem eq_of_stopMoves_nil {wanted planned : BitVec 16} (none : stopMoves wanted planned = []) : planned = wanted := by
  refine BitVec.eq_of_getLsbD_eq fun i inside => ?_
  by_contra differs
  have mem : (⟨i, inside⟩ : StopNo) ∈ stopMoves wanted planned := mem_stopMoves.2 (Ne.symm differs)
  rw [none] at mem
  cases mem

/-- The first stop's new state taken into the planned stop set leaves the others to move. -/
theorem stopMoves_flip {wanted planned : BitVec 16} {i : StopNo} {rest : List StopNo} (moves : stopMoves wanted planned = i :: rest) :
    stopMoves wanted (planned ^^^ (1#16 <<< i.val)) = rest := by
  have first : wanted.getLsbD i.val ≠ planned.getLsbD i.val := mem_stopMoves.1 (moves ▸ List.mem_cons_self)
  have bit (j : StopNo) : (1#16 <<< i.val).getLsbD j.val = decide (i = j) := by
    rw [← BitVec.twoPow_eq, BitVec.getLsbD_twoPow]
    simp [Fin.ext_iff]
  have flipped (j : StopNo) : (wanted.getLsbD j.val != (planned ^^^ (1#16 <<< i.val)).getLsbD j.val) =
      (decide (j ≠ i) && (wanted.getLsbD j.val != planned.getLsbD j.val)) := by
    rw [BitVec.getLsbD_xor, bit]
    by_cases same : i = j
    · subst same
      revert first
      cases wanted.getLsbD i.val <;> cases planned.getLsbD i.val <;> simp
    · simp [same, Ne.symm same]
  have nodup : (i :: rest).Nodup := moves ▸ (List.nodup_finRange 16).filter _
  calc stopMoves wanted (planned ^^^ (1#16 <<< i.val))
      = (stopMoves wanted planned).filter fun j => decide (j ≠ i) := by
        rw [stopMoves, stopMoves, List.filter_filter]
        exact List.filter_congr fun j _ => flipped j
    _ = rest := by
      rw [moves, List.filter_cons_of_neg (by simp)]
      exact List.filter_eq_self.2 fun j mem => decide_eq_true fun same => (List.nodup_cons.1 nodup).1 (same ▸ mem)

/-! ## The note reader at its section's stops -/

/-- The note reader runs in a section of the hymn, reading for a division. -/
structure State.ReadsSection (hymn : Hymn) (d : Fin 8) (plan : PlanEntry) (s : State) : Prop where
  held : s.store.hymn = some hymn
  division : s.readDivision = some d
  running : s.store.notes.phase = .running
  plan : hymn.planOf s.store.notes.sect = some plan

section

variable {hymn : Hymn} {d : Fin 8} {plan : PlanEntry} {i : StopNo} {rest : List StopNo}

theorem nextStop_eq (reads : s.ReadsSection hymn d plan) :
    nextStop s = (stopMoves plan.stops[d] s.store.notes.planned).head?.map fun i => (i, coilFor plan.stops[d] i) := by
  simp only [nextStop, reads.held, reads.division, reads.plan, stopMoves, List.head?_filter]
  rfl

theorem stopInHand_of_cons (reads : s.ReadsSection hymn d plan) (moves : stopMoves plan.stops[d] s.store.notes.planned = i :: rest)
    (below : s.store.notes.inHand = true ∨ (stopPosition hymn.header s.store.notes : Int) < s.horizon)
    (free : ∃ e : EntryNo, s.sched.table[e] = none) :
    stopInHand s = some (i, coilFor plan.stops[d] i, stopPosition hymn.header s.store.notes) := by
  have header : s.header = some hymn.header := congrArg (Option.map Hymn.header) reads.held
  have next : nextStop s = some (i, coilFor plan.stops[d] i) := by
    rw [nextStop_eq reads, moves]
    rfl
  have room : 1 ≤ freeEntries s.sched.table := by
    obtain ⟨e, none⟩ := free
    have mem : (Option.none : Option Action) ∈ s.sched.table.toList := none ▸ Vector.mem_toList_iff.2 (Vector.getElem_mem e.isLt)
    exact List.countP_pos_iff.2 ⟨Option.none, mem, rfl⟩
  unfold stopInHand
  simp only [header, next, reads.running, room, decide_true, Bool.true_and, Bool.and_true]
  exact if_pos (by simpa using below)

theorem stopInHand_of_nil (reads : s.ReadsSection hymn d plan) (moves : stopMoves plan.stops[d] s.store.notes.planned = []) :
    stopInHand s = none := by
  have next : nextStop s = none := by
    rw [nextStop_eq reads, moves]
    rfl
  unfold stopInHand
  rw [next]
  cases s.header <;> rfl

theorem stopStep_of_nil (reads : s.ReadsSection hymn d plan) (moves : stopMoves plan.stops[d] s.store.notes.planned = []) : stopStep s = none := by
  rw [stopStep, stopInHand_of_nil reads moves]

theorem planStop_eq (reads : s.ReadsSection hymn d plan) (moves : stopMoves plan.stops[d] s.store.notes.planned = i :: rest) :
    planStop i s =
      { s with
        store.notes :=
          { s.store.notes with
            planned := s.store.notes.planned ^^^ (1#16 <<< i.val), inHand := s.store.notes.inHand && !rest.isEmpty } } := by
  have reads' : State.ReadsSection hymn d plan { s with store.notes.planned := s.store.notes.planned ^^^ (1#16 <<< i.val) } :=
    ⟨reads.held, reads.division, reads.running, reads.plan⟩
  have next := nextStop_eq reads'
  rw [stopMoves_flip moves] at next
  unfold planStop
  dsimp only
  rw [next]
  cases rest <;> rfl

end

/-! ## Stop actions that enter untimed, or held (R149) -/

theorem insertStop_of_untimed {stop : StopNo} {coil : Coil} {position : Nat} {e : EntryNo} (lowest : lowestFreeEntry s.sched = some e)
    (untimed : enteringState s false position ≠ .timed) :
    insertStop stop coil position s =
      { s with
        sched :=
          setEntry e (some ⟨(enteringState s false position).state, .stop stop coil, position, leadOf s.cfg (.stop stop coil), none, .absent⟩)
            s.sched } := by
  unfold insertStop
  rw [lowest]
  exact if_neg untimed

theorem lowestFreeEntry_of_first {sc : Scheduler} {e : EntryNo} (free : sc.table[e] = none) (taken : ∀ g, g < e → sc.table[g] ≠ none) :
    lowestFreeEntry sc = some e :=
  find?_finRange_eq_some (by simp [free]) fun g below => by simpa using Option.isSome_iff_ne_none.2 (taken g below)

/-- The stop actions of a section enter the lowest FREE entries in order, when none of them is timed (R54, R149). -/
theorem iterate_stopStep_of_untimed {hymn : Hymn} {d : Fin 8} {plan : PlanEntry} {place : Nat} {how : Entering} (untimed : how ≠ .timed)
    (moved : List StopNo) :
    ∀ {s : State} {k fuel : Nat}, s.ReadsSection hymn d plan → stopMoves plan.stops[d] s.store.notes.planned = moved → moved.length ≤ fuel →
      stopPosition hymn.header s.store.notes = place → (moved ≠ [] → s.store.notes.inHand = true ∨ (place : Int) < s.horizon) →
      enteringState s false place = how → (∀ e : EntryNo, s.sched.table[e] = none ↔ k ≤ e.val) → k + moved.length ≤ 64 →
      ∃ table inHand,
        iterate stopStep fuel s =
            { s with
              sched.table := table, store.notes := { s.store.notes with planned := plan.stops[d], inHand := inHand } } ∧
          (∀ e : EntryNo, e.val < k → table[e] = s.sched.table[e]) ∧
          (∀ (j : Nat) (i : StopNo) (e : EntryNo), moved[j]? = some i → e.val = k + j →
            table[e] = some ⟨how.state, .stop i (coilFor plan.stops[d] i), place, (clampInt 0 6000 s.cfg.stopLead).toNat, none, .absent⟩) ∧
          ∀ e : EntryNo, k + moved.length ≤ e.val → table[e] = none := by
  induction moved with
  | nil =>
    intro s k fuel reads moves _ _ _ _ free _
    refine ⟨s.sched.table, s.store.notes.inHand, ?_, fun _ _ => rfl, nofun, fun e => (free e).2⟩
    rw [iterate_of_none (stopStep_of_nil reads moves), ← eq_of_stopMoves_nil moves]
  | cons i rest ih =>
    intro s k fuel reads moves enough here below entering free room
    obtain ⟨fuel, rfl⟩ : ∃ n, fuel = n + 1 := ⟨fuel - 1, by simp at enough; omega⟩
    simp only [List.length_cons] at enough room
    let e : EntryNo := ⟨k, by omega⟩
    have lowest : lowestFreeEntry s.sched = some e :=
      lowestFreeEntry_of_first ((free e).2 le_rfl) fun g lower => mt (free g).1 (Nat.not_le.2 lower)
    let a : Action := ⟨how.state, .stop i (coilFor plan.stops[d] i), place, (clampInt 0 6000 s.cfg.stopLead).toNat, none, .absent⟩
    let n : NoteReader :=
      { s.store.notes with planned := s.store.notes.planned ^^^ (1#16 <<< i.val), inHand := s.store.notes.inHand && !rest.isEmpty }
    let t : State := { s with store.notes := n, sched.table := s.sched.table.set e (some a) }
    have turn : stopStep s = some t := by
      have inHand := stopInHand_of_cons reads moves (by rw [here]; exact below (by simp)) ⟨e, (free e).2 le_rfl⟩
      have entering' : enteringState { s with store.notes := n } false place = how := entering
      rw [stopStep, inHand, here]
      refine congrArg some ?_
      rw [planStop_eq reads moves]
      have inserted := insertStop_of_untimed (s := { s with store.notes := n }) (stop := i) (coil := coilFor plan.stops[d] i)
        (position := place) lowest (by rw [entering']; exact untimed)
      rw [entering'] at inserted
      exact inserted
    have table (g : EntryNo) : t.sched.table[g] = if g = e then some a else s.sched.table[g] := by
      by_cases same : g = e
      · subst same
        simp [t]
      · have off : e.val ≠ g.val := fun h => same (Fin.ext h.symm)
        simp [t, same, Vector.getElem_set_ne _ _ off]
    have free' (g : EntryNo) : t.sched.table[g] = none ↔ k + 1 ≤ g.val := by
      rw [table]
      split
      · rename_i same
        simp [same, e]
      · rename_i other
        have off : g.val ≠ k := fun h => other (Fin.ext h)
        rw [free]
        omega
    have below' (more : rest ≠ []) : n.inHand = true ∨ (place : Int) < t.horizon := by
      refine (below (by simp)).imp_left fun held => ?_
      simp [n, held, more]
    obtain ⟨final, inHand, ran, low, mid, high⟩ := ih (s := t) (k := k + 1) (fuel := fuel) ⟨reads.held, reads.division, reads.running, reads.plan⟩
      (stopMoves_flip moves) (by omega) here below' entering free' (by omega)
    rw [iterate, turn]
    refine ⟨final, inHand, ran, fun g lower => ?_, fun j x g member at_ => ?_, fun g above => high g (by simp at above; omega)⟩
    · rw [low g (by omega), table, if_neg (fun same => by simp [same, e] at lower)]
    · cases j with
      | zero =>
        cases Option.some.inj (List.getElem?_cons_zero.symm.trans member)
        rw [low g (by omega), table, if_pos (Fin.ext at_)]
      | succ j => exact mid j x g (by simpa using member) (by omega)

end Sys2Proof.Machine
end

section
/-! A stop action timed and tested as it enters (R149 to R153). -/

namespace Sys2Proof.Machine

variable {s : State} {e : EntryNo} {c : ChannelNo} {stop : StopNo} {coil : Coil} {place lead : Nat} {due : Time}

/-- A time still to come has not been reached. -/
theorem not_reached_of_pos {t now : Time} (later : 0 < since t now) : reached t now = false := by
  have negated : now - t = -(t - now) := (neg_sub t now).symm
  have finite : t - now ≠ BitVec.intMin 32 := by
    intro least
    rw [since, least] at later
    exact absurd later (by decide)
  refine decide_eq_false (not_le.2 ?_)
  rw [since, negated, BitVec.toInt_neg_of_ne_intMin finite]
  exact neg_neg_of_pos later

theorem addTicks_neg (t : Time) (n : Nat) : addTicks t (-n) = t - BitVec.ofNat 32 n := by
  rw [addTicks, BitVec.ofInt_neg, BitVec.ofInt_natCast, ← sub_eq_add_neg]

/-- The table's action put at an entry. -/
def State.entered (e : EntryNo) (a : Option Action) (s : State) : State := { s with sched.table := s.sched.table.set e a }

/-- A timed stop action. -/
def timedStop (st : ActionState) (stop : StopNo) (coil : Coil) (place lead : Nat) (due : Time) : Action :=
  ⟨st, .stop stop coil, place, lead, some due, .absent⟩

theorem entered_table (e : EntryNo) (a : Option Action) (g : EntryNo) :
    (s.entered e a).sched.table[g] = if g = e then a else s.sched.table[g] := by
  by_cases same : g = e
  · subst same
    simp [State.entered]
  · have off : e.val ≠ g.val := fun h => same (Fin.ext h.symm)
    simp [State.entered, same, Vector.getElem_set_ne _ _ off]

theorem entered_entered (e : EntryNo) (a b : Option Action) : (s.entered e a).entered e b = s.entered e b := by
  simp [State.entered]

theorem insertStop_of_timed (lowest : lowestFreeEntry s.sched = some e) (timed : enteringState s false place = .timed) :
    insertStop stop coil place s =
      settleTable
        (testEntry e
          (s.entered e
            (some (timedStop .waiting stop coil place (leadOf s.cfg (.stop stop coil))
              (addTicks (s.timeOf place) (-leadOf s.cfg (.stop stop coil))))))) := by
  unfold insertStop
  rw [lowest]
  dsimp only
  rw [if_pos timed, timed]
  refine congrArg (fun u => settleTable (testEntry e u)) ?_
  let untimed : Option Action := some ⟨.waiting, .stop stop coil, place, leadOf s.cfg (.stop stop coil), none, .absent⟩
  have here : (s.entered e untimed).sched.table[e] = untimed := by rw [entered_table, if_pos rfl]
  calc timeEntry e (s.entered e untimed)
      = (s.entered e untimed).entered e _ := by
        unfold timeEntry
        rw [here]
        rfl
    _ = _ := entered_entered e _ _

/-! ## Which entries wait for a channel -/

theorem readyDue_entered (e : EntryNo) (a : Option Action) (g : EntryNo) :
    readyDue (s.entered e a).sched g =
      if g = e then a.bind fun x => if x.state = .waiting && eligible s.sched.barrier x then x.due else none else readyDue s.sched g := by
  by_cases same : g = e
  · rw [readyDue, entered_table, if_pos same, if_pos same]
    cases a <;> rfl
  · rw [readyDue, entered_table, if_neg same, if_neg same]
    rfl

theorem waitsForChannel_entered_ne {a : Option Action} {g : EntryNo} (off : g ≠ e) :
    waitsForChannel (s.entered e a) g = waitsForChannel s g := by
  unfold waitsForChannel
  rw [readyDue_entered, entered_table, if_neg off, if_neg off]
  rfl

/-- No entry waits for a channel when none did and the one that changes is not WAITING now. -/
theorem waitsForChannel_entered_of_still {a : Option Action} (still : ∀ g, waitsForChannel s g = false)
    (served : ∀ x, a = some x → x.state ≠ .waiting) (g : EntryNo) : waitsForChannel (s.entered e a) g = false := by
  by_cases same : g = e
  · have unready : readyDue (s.entered e a).sched e = none := by
      rw [readyDue_entered, if_pos rfl]
      cases a with
      | none => rfl
      | some x => exact if_neg (by simp [served x rfl])
    rw [same, waitsForChannel, unready]
  · exact (waitsForChannel_entered_ne same).trans (still g)

/-- Whether a position lies at or past the barrier (R151). -/
def Scheduler.bars (sc : Scheduler) (place : Nat) : Prop := ∃ b, sc.barrier = some b ∧ b ≤ place

theorem eligible_timedStop {b : Option Nat} (st : ActionState) :
    eligible b (timedStop st stop coil place lead due) = true ↔ ¬∃ p, b = some p ∧ p ≤ place := by
  cases b with
  | none => simp [eligible, timedStop]
  | some p =>
    simp only [eligible, timedStop, Bool.and_true, Option.some.injEq, exists_eq_left', not_le]
    exact decide_eq_true_iff

theorem readyDue_timedStop_of_free (free : ¬s.sched.bars place) :
    readyDue (s.entered e (some (timedStop .waiting stop coil place lead due))).sched e = some due := by
  rw [readyDue_entered, if_pos rfl]
  exact if_pos (by simpa [timedStop] using (eligible_timedStop .waiting).2 free)

theorem readyDue_timedStop_of_barred (barred : s.sched.bars place) :
    readyDue (s.entered e (some (timedStop .waiting stop coil place lead due))).sched e = none := by
  rw [readyDue_entered, if_pos rfl]
  refine if_neg fun ready => ?_
  rw [Bool.and_eq_true] at ready
  exact (eligible_timedStop .waiting).1 ready.2 barred

/-! ## The channels handed on, and the table settled (R152) -/

theorem lowestFreeChannel_of_first {sc : Scheduler} (free : sc.channels[c] = .free) (taken : ∀ b, b < c → sc.channels[b] ≠ .free) :
    lowestFreeChannel sc = some c :=
  find?_finRange_eq_some (decide_eq_true free) fun b below => decide_eq_false (taken b below)

theorem lowestFreeChannel_of_full {sc : Scheduler} (full : ∀ c : ChannelNo, sc.channels[c] ≠ .free) : lowestFreeChannel sc = none :=
  List.find?_eq_none.2 fun c _ => by simpa using full c

theorem nextWaiter_of_none (none : ∀ g, waitsForChannel s g = false) : nextWaiter s = Option.none := by
  have empty : (List.finRange 64).filter (waitsForChannel s) = [] := List.filter_eq_nil_iff.2 fun g _ => by simp [none g]
  rw [nextWaiter, empty]
  rfl

theorem nextWaiter_of_only (waits : waitsForChannel s e = true) (only : ∀ g, g ≠ e → waitsForChannel s g = false) : nextWaiter s = some e := by
  have one : (List.finRange 64).filter (waitsForChannel s) = [e] := by
    have same (g : EntryNo) : waitsForChannel s g = (g == e) := by
      by_cases h : g = e
      · rw [h, waits]
        simp
      · rw [only g h]
        simp [h]
    rw [List.filter_congr fun g _ => same g]
    rw [List.filter_beq, List.count_eq_one_of_mem (List.nodup_finRange 64) (List.mem_finRange e)]
    rfl
  rw [nextWaiter, one]
  rfl

theorem testHymnEnd_of_going (going : s.store.notes.endReached = false) : testHymnEnd s = s := by
  rw [testHymnEnd, going]
  simp

theorem serveStep_of_still (still : lowestFreeChannel s.sched = none ∨ ∀ g, waitsForChannel s g = false) : serveStep s = none := by
  unfold serveStep
  rcases still with full | none
  · rw [full]
  · rw [nextWaiter_of_none none]
    cases lowestFreeChannel s.sched <;> rfl

theorem settleTable_of_still (still : lowestFreeChannel s.sched = none ∨ ∀ g, waitsForChannel s g = false)
    (going : s.store.notes.endReached = false) : settleTable s = s := by
  rw [settleTable, serveWaiters, iterate_of_none (serveStep_of_still still), testHymnEnd_of_going going]

/-- The table settled by one channel handed on. -/
theorem settleTable_of_turn {t : State} (turn : serveStep s = some t) (still : ∀ g, waitsForChannel t g = false)
    (going : t.store.notes.endReached = false) : settleTable s = t := by
  have waits : serveStep t = none := serveStep_of_still (.inr still)
  rw [settleTable, serveWaiters, iterate, turn]
  dsimp only
  rw [iterate_of_none waits, testHymnEnd_of_going going]

/-! ## The three ways of a stop action that enters timed -/

theorem testEntry_of_unready (unready : readyDue s.sched e = none) : testEntry e s = s := by
  unfold testEntry
  rw [unready]
  cases s.sched.table[e] <;> rfl

theorem testEntry_of_ready {a : Action} (here : s.sched.table[e] = some a) (ready : readyDue s.sched e = some due) :
    testEntry e s = if reached due s.now then fireAtOnce e a due s else s := by
  unfold testEntry
  rw [here, ready]

/-- A stop action that is due pulses its coil on the lowest FREE channel, and waits without one (R153). -/
theorem fireAtOnce_timedStop {u : State} (enters : s.entered e (some (timedStop .waiting stop coil place lead due)) = u) :
    fireAtOnce e (timedStop .waiting stop coil place lead due) due u =
      match lowestFreeChannel s.sched with
      | some c => startPulse e stop coil c u
      | none => u := by
  have again : u.entered e (some (timedStop .waiting stop coil place lead due)) = u := by
    rw [← enters]
    exact entered_entered e _ _
  have fired : fireAtOnce e (timedStop .waiting stop coil place lead due) due u =
      match lowestFreeChannel s.sched with
      | some c => startPulse e stop coil c (u.entered e (some (timedStop .waiting stop coil place lead due)))
      | none => u.entered e (some (timedStop .waiting stop coil place lead due)) := by
    rw [← enters]
    rfl
  rw [fired, again]

section

variable {u : State} (enters : s.entered e (some (timedStop .waiting stop coil place lead due)) = u)
  (still : ∀ g, waitsForChannel s g = false) (going : s.store.notes.endReached = false)

include enters still going

theorem stopEntered :
    u.sched.table[e] = some (timedStop .waiting stop coil place lead due) ∧ (∀ g, g ≠ e → waitsForChannel u g = false) ∧
      u.store.notes.endReached = false ∧ u.now = s.now := by
  rw [← enters]
  exact ⟨(entered_table e _ e).trans (if_pos rfl), fun g off => (waitsForChannel_entered_ne off).trans (still g), going, rfl⟩

/-- It waits: at the barrier, beyond the horizon, or for want of a channel. -/
theorem settleTable_timedStop_of_waiting (waits : s.sched.bars place ∨ 200 < since due s.now ∨ ∀ c : ChannelNo, s.sched.channels[c] ≠ .free) :
    settleTable (testEntry e u) = u := by
  obtain ⟨here, others, going', now⟩ := stopEntered enters still going
  by_cases barred : s.sched.bars place
  · have unready : readyDue u.sched e = none := enters ▸ readyDue_timedStop_of_barred barred
    rw [testEntry_of_unready unready]
    refine settleTable_of_still (.inr fun g => ?_) going'
    by_cases same : g = e
    · rw [same, waitsForChannel, unready]
    · exact others g same
  · have ready : readyDue u.sched e = some due := enters ▸ readyDue_timedStop_of_free barred
    rw [testEntry_of_ready here ready, now]
    rcases waits with barred' | far | full
    · exact absurd barred' barred
    · have early := not_reached_of_pos (by omega : 0 < since due s.now)
      rw [early, if_neg Bool.false_ne_true]
      refine settleTable_of_still (.inr fun g => ?_) going'
      by_cases same : g = e
      · rw [same, waitsForChannel, ready, now]
        simp only [inHorizon, early, Bool.false_and, Bool.or_false, Bool.and_eq_false_iff]
        exact .inr (decide_eq_false (not_le.2 far))
      · exact others g same
    · have none : lowestFreeChannel s.sched = Option.none := lowestFreeChannel_of_full full
      have none' : lowestFreeChannel u.sched = Option.none := by
        rw [← enters]
        exact none
      rw [fireAtOnce_timedStop enters, none, ite_self]
      exact settleTable_of_still (.inl none') going'

/-- It arms on the lowest FREE channel within the horizon. -/
theorem settleTable_timedStop_of_armed (free : ¬s.sched.bars place) (lowest : lowestFreeChannel s.sched = some c) (later : 0 < since due s.now)
    (near : since due s.now ≤ 200) :
    settleTable (testEntry e u) =
      { s with
        sched :=
          { s.sched with
            table := s.sched.table.set e (some (timedStop (.armed c) stop coil place lead due))
            channels := s.sched.channels.set c (.waiting e due) } } := by
  obtain ⟨here, others, going', now⟩ := stopEntered enters still going
  have ready : readyDue u.sched e = some due := enters ▸ readyDue_timedStop_of_free free
  have early := not_reached_of_pos later
  have waits : waitsForChannel u e = true := by
    rw [waitsForChannel, ready, now]
    simp only [inHorizon, decide_eq_true later, Bool.true_and, Bool.or_eq_true]
    exact .inl (decide_eq_true near)
  have lowest' : lowestFreeChannel u.sched = some c := by
    rw [← enters]
    exact lowest
  let armed := s.entered e (some (timedStop (.armed c) stop coil place lead due))
  let t : State := { armed with sched := { armed.sched with channels := s.sched.channels.set c (.waiting e due) } }
  have turn : serveStep u = some t := by
    unfold serveStep
    rw [lowest', nextWaiter_of_only waits others]
    dsimp only
    rw [here]
    dsimp only [timedStop]
    rw [now, early, if_neg Bool.false_ne_true, ← enters]
    exact congrArg (fun a : State => some { a with sched := { a.sched with channels := s.sched.channels.set c (.waiting e due) } })
      (entered_entered e _ _)
  have served : ∀ g, waitsForChannel armed g = false := waitsForChannel_entered_of_still still fun x is => by cases is; nofun
  rw [testEntry_of_ready here ready, now, early, if_neg Bool.false_ne_true]
  exact settleTable_of_turn turn served going

/-- It pulses its coil when it is due. -/
theorem settleTable_timedStop_of_due (free : ¬s.sched.bars place) (lowest : lowestFreeChannel s.sched = some c) (passed : 0 ≤ since s.now due) :
    settleTable (testEntry e u) =
      { s with
        sched :=
          { s.sched with
            table := s.sched.table.set e none, channels := s.sched.channels.set c (.pulsing (addTicks s.now s.cfg.stopPulse)) }
        out := s.out.withPulse stop coil (addTicks s.now s.cfg.stopPulse) } := by
  obtain ⟨here, others, going', now⟩ := stopEntered enters still going
  have ready : readyDue u.sched e = some due := enters ▸ readyDue_timedStop_of_free free
  let gone := s.entered e none
  let t : State :=
    { gone with
      sched := { gone.sched with channels := s.sched.channels.set c (.pulsing (addTicks s.now s.cfg.stopPulse)) }
      out := s.out.withPulse stop coil (addTicks s.now s.cfg.stopPulse) }
  have pulsed : startPulse e stop coil c u = t := by
    have freed : freeEntry e u.sched = (u.entered e none).sched := by
      unfold freeEntry
      rw [here]
      rfl
    unfold startPulse
    dsimp only
    rw [freed, pulseCoil_eq, ← enters, entered_entered]
    rfl
  have reached_ : reached due s.now = true := decide_eq_true passed
  have fired : testEntry e u = t := by
    rw [testEntry_of_ready here ready, now, if_pos reached_, fireAtOnce_timedStop enters, lowest]
    exact pulsed
  have served : ∀ g, waitsForChannel gone g = false := waitsForChannel_entered_of_still still nofun
  rw [fired]
  exact settleTable_of_still (.inr served) going

end

end Sys2Proof.Machine
end

section
/-! The end of the score (R55, R78). -/

namespace Sys2Proof.Machine

variable {s : State}

/-- End of score taken as reported (R55). -/
def State.endTold (s : State) : State := { s with store.notes := { s.store.notes with endReached := true, endPassed := false } }

theorem execEndOfScore_of_due {h : Header} (header : s.header = some h) (inPlay : s.inPlay = true) (untold : s.store.notes.endReached = false)
    (passed : s.store.notes.endPassed = true ∨ s.store.notes.finished = true ∧ (h.endPosition : Int) ≤ s.position) :
    exec .endOfScore s = .next (if beatGoesFirst s h.endPosition then s else testHymnEnd s.endTold) := by
  have stands : (s.store.notes.endPassed || atEnd s) = true := by
    rcases passed with passed | ⟨finished, past⟩
    · simp [passed]
    · simp [atEnd, header, inPlay, finished, untold, past]
  have due : endDue s = !beatGoesFirst s h.endPosition := by simp only [endDue, header, inPlay, untold, stands, Bool.not_false, Bool.true_and]
  refine congrArg Host.Outcome.next ?_
  rw [due]
  cases beatGoesFirst s h.endPosition <;> rfl

theorem execEndOfScore_of_short {h : Header} (header : s.header = some h) (short : s.position < (h.endPosition : Int))
    (unpassed : s.store.notes.endPassed = false) : exec .endOfScore s = .next s := by
  have undue : endDue s = false := by simp [endDue, atEnd, header, unpassed, not_le.2 short]
  refine congrArg Host.Outcome.next ?_
  rw [undue]
  rfl

theorem beatGoesFirst_iff (position : Nat) :
    beatGoesFirst s position = true ↔
      s.moving = true ∧ ∃ b, s.follow.nextBeat = some b ∧ 24 * b ≤ position ∧ 0 ≤ since s.now (s.timeOf (24 * b)) := by
  unfold beatGoesFirst
  cases s.follow.nextBeat <;> simp [reached]

theorem tableEmpty_iff : tableEmpty s = true ↔ s.sched.table = Vector.replicate 64 none := by
  simp only [tableEmpty, all_toList_iff, Option.isNone_iff_eq_none]
  constructor
  · exact fun empty => Vector.ext fun i inside => by rw [Vector.getElem_replicate]; exact empty ⟨i, inside⟩
  · intro empty e
    rw [empty]
    exact Vector.getElem_replicate e.isLt

theorem not_moving_of_holding (state : s.play.state = .holding) : s.moving = false := by simp [State.moving, state]

theorem moving_of_inPlay (inPlay : s.inPlay = true) (other : s.play.state ≠ .holding) : s.moving = true := by
  simpa [State.inPlay, other] using inPlay

/-- Hymn end waits for the table, and for a hold to end (R78). -/
theorem testHymnEnd_of_busy (busy : s.play.state = .holding ∨ ∃ e : EntryNo, s.sched.table[e] ≠ none) : testHymnEnd s = s := by
  refine if_neg fun ends => ?_
  simp only [Bool.and_eq_true] at ends
  obtain ⟨⟨moving, -⟩, empty⟩ := ends
  rcases busy with holding | ⟨e, taken⟩
  · rw [not_moving_of_holding holding] at moving
    cases moving
  · rw [tableEmpty_iff] at empty
    exact taken (by rw [empty]; exact Vector.getElem_replicate e.isLt)

theorem firedOffs_replicate (key : Key) : firedOffs (Vector.replicate 64 none) key = 0 := firedOffs_initial key

end Sys2Proof.Machine
end

section
/-! STOP_ACTION_INSERT (R54): the stop actions of a section in, and the note reader taken on. -/

namespace Sys2Proof.Machine

variable {s t : State} {hymn : Hymn} {d : Fin 8} {plan : PlanEntry}

theorem execStopActionInsert_of_inHand (inHand : (stopInHand s).isSome = true) (inserted : iterate stopStep 16 s = t) :
    exec .stopActionInsert s = .next (runNotes t) := by
  rw [← inserted]
  exact act_of_due inHand

theorem horizon_of_loaded (state : s.play.state = .loaded) : s.horizon = s.store.notes.start + 96 := by
  have out : s.inPlay = false := by simp [State.inPlay, State.moving, state]
  exact if_neg (ne_true_of_eq_false out)

theorem horizon_of_inPlay (inPlay : s.inPlay = true) : s.horizon = s.position + 96 := if_pos inPlay

theorem inPlay_of_holding (state : s.play.state = .holding) : s.inPlay = true := by simp [State.inPlay, state]

theorem enteringState_of_loaded {isNote : Bool} {place : Nat} (state : s.play.state = .loaded) : enteringState s isNote place = .untimed := by
  simp [enteringState, State.inPlay, State.moving, state]

theorem enteringState_of_held {isNote : Bool} {place p : Nat} (state : s.play.state = .holding) (hold : s.holdPoint = some p) (from_ : p ≤ place) :
    enteringState s isNote place = .held .hold := by
  simp [enteringState, inPlay_of_holding state, state, hold, from_]

/-- A stop action below the hold point is timed, and so is every one that no hold keeps (R149). -/
theorem enteringState_of_timed {place : Nat} (inPlay : s.inPlay = true)
    (below : ∀ p, s.play.state = .holding → s.holdPoint = some p → place < p) : enteringState s false place = .timed := by
  unfold enteringState
  rw [if_pos inPlay]
  split
  · rename_i state hold
    exact if_neg (not_le.2 (below _ state hold))
  all_goals simp

/-- The stops of a section entered untimed or held, in an empty table (R54, R149). -/
theorem execStopActionInsert_of_untimed {how : Entering} (reads : s.ReadsSection hymn d plan) (idle : s.store.loader = .idle)
    (unsought : s.store.seek = none) (report : s.cfg.reactions[(4 : FaultNo)] = .report) (empty : s.sched.table = Vector.replicate 64 none)
    (differs : plan.stops[d] ≠ s.store.notes.planned)
    (below : s.store.notes.inHand = true ∨ (stopPosition hymn.header s.store.notes : Int) < s.horizon)
    (entering : enteringState s false (stopPosition hymn.header s.store.notes) = how) (untimed : how ≠ .timed) :
    ∃ table line fault port notes,
      exec .stopActionInsert s =
          .next
            { s with
              line := line, fault := fault, sched.table := table, store := { s.store with port := port, notes := notes } } ∧
        notes.planned = plan.stops[d] ∧
        (∀ (k : Nat) (i : StopNo) (e : EntryNo), (stopMoves plan.stops[d] s.store.notes.planned)[k]? = some i → e.val = k →
          table[e] =
            some ⟨how.state, .stop i (coilFor plan.stops[d] i), stopPosition hymn.header s.store.notes,
              (clampInt 0 6000 s.cfg.stopLead).toNat, none, .absent⟩) ∧
        ∀ e : EntryNo, (stopMoves plan.stops[d] s.store.notes.planned).length ≤ e.val → table[e] = none := by
  have few := stopMoves_length_le plan.stops[d] s.store.notes.planned
  have free (e : EntryNo) : s.sched.table[e] = none := by
    rw [empty]
    exact Vector.getElem_replicate e.isLt
  obtain ⟨table, inHand, ran, -, entered, rest⟩ := iterate_stopStep_of_untimed (place := stopPosition hymn.header s.store.notes) (k := 0)
    (fuel := 16) untimed (stopMoves plan.stops[d] s.store.notes.planned) reads rfl few rfl (fun _ => below) entering
    (fun e => iff_of_true (free e) (Nat.zero_le _)) (by omega)
  have due : (stopInHand s).isSome = true := by
    cases moves : stopMoves plan.stops[d] s.store.notes.planned with
    | nil => exact absurd (eq_of_stopMoves_nil moves).symm differs
    | cons i others => rw [stopInHand_of_cons reads moves below ⟨0, free 0⟩]; rfl
  obtain ⟨line, fault, port, notes, read, planned⟩ := runNotes_notesRead
    (s := { s with sched.table := table, store.notes := { s.store.notes with planned := plan.stops[d], inHand := inHand } }) report idle unsought
  refine ⟨table, line, fault, port, notes, (execStopActionInsert_of_inHand due ran).trans (congrArg _ read), planned, fun k i e member at_ => ?_,
    fun e above => rest e (by omega)⟩
  exact entered k i e member (by omega)

/-- The one stop of a section that moves, timed as it enters. -/
theorem execStopActionInsert_of_single {i : StopNo} {e : EntryNo} {table : Vector (Option Action) 64} {channels : Vector Channel 8}
    {out : OutputStage} (reads : s.ReadsSection hymn d plan) (idle : s.store.loader = .idle) (unsought : s.store.seek = none)
    (report : s.cfg.reactions[(4 : FaultNo)] = .report) (moves : stopMoves plan.stops[d] s.store.notes.planned = [i])
    (below : s.store.notes.inHand = true ∨ (stopPosition hymn.header s.store.notes : Int) < s.horizon)
    (timed : enteringState s false (stopPosition hymn.header s.store.notes) = .timed) (free : s.sched.table[e] = none)
    (taken : ∀ g, g < e → s.sched.table[g] ≠ none)
    (settled : ∀ n : NoteReader, n.endReached = s.store.notes.endReached →
      settleTable
          (testEntry e
            (({ s with store.notes := n } : State).entered e
              (some
                (timedStop .waiting i (coilFor plan.stops[d] i) (stopPosition hymn.header s.store.notes)
                  (clampInt 0 6000 s.cfg.stopLead).toNat
                  (s.timeOf (stopPosition hymn.header s.store.notes) - BitVec.ofNat 32 (clampInt 0 6000 s.cfg.stopLead).toNat))))) =
        { s with store.notes := n, sched := { s.sched with table := table, channels := channels }, out := out }) :
    ∃ line fault port notes,
      exec .stopActionInsert s =
          .next
            { s with
              line := line, fault := fault, sched := { s.sched with table := table, channels := channels }, out := out
              store := { s.store with port := port, notes := notes } } ∧
        notes.planned = plan.stops[d] := by
  let n : NoteReader :=
    { s.store.notes with planned := s.store.notes.planned ^^^ (1#16 <<< i.val), inHand := s.store.notes.inHand && !([] : List StopNo).isEmpty }
  let t : State := { s with store.notes := n, sched := { s.sched with table := table, channels := channels }, out := out }
  have inHand := stopInHand_of_cons reads moves below ⟨e, free⟩
  have turn : stopStep s = some t := by
    rw [stopStep, inHand]
    refine congrArg some ?_
    have settled' := settled n rfl
    rw [← addTicks_neg] at settled'
    rw [planStop_eq reads moves]
    exact (insertStop_of_timed (s := { s with store.notes := n }) (lowestFreeEntry_of_first free taken) timed).trans settled'
  have moved : stopMoves plan.stops[d] t.store.notes.planned = [] := stopMoves_flip moves
  have ran : iterate stopStep 16 s = t := by
    rw [iterate, turn]
    exact iterate_of_none (stopStep_of_nil (s := t) ⟨reads.held, reads.division, reads.running, reads.plan⟩ moved) 15
  obtain ⟨line, fault, port, notes, read, planned⟩ := runNotes_notesRead (s := t) report idle unsought
  exact ⟨line, fault, port, notes, (execStopActionInsert_of_inHand (by rw [inHand]; rfl) ran).trans (congrArg _ read),
    planned.trans (eq_of_stopMoves_nil moved)⟩

theorem stopMoves_of_single {wanted planned : BitVec 16} {i : StopNo} (moves : wanted.getLsbD i.val ≠ planned.getLsbD i.val)
    (only : ∀ j : StopNo, wanted.getLsbD j.val ≠ planned.getLsbD j.val → j = i) : stopMoves wanted planned = [i] := by
  have same (j : StopNo) : (wanted.getLsbD j.val != planned.getLsbD j.val) = (j == i) := by
    rw [Bool.eq_iff_iff, bne_iff_ne, beq_iff_eq]
    exact ⟨only j, fun h => h ▸ moves⟩
  rw [stopMoves, List.filter_congr fun j _ => same j, List.filter_beq, List.count_eq_one_of_mem (List.nodup_finRange 16) (List.mem_finRange i)]
  rfl

end Sys2Proof.Machine
end

section

open Sys2Proof Sys2Proof.Machine

/-- Settles O43: a section's stop actions entered in order, a single one by the ways a timed one goes, and the end of score. -/
theorem stopsInsertedAndScoreEnds : Obligations.StopsInsertedAndScoreEnds := by
  unfold Obligations.StopsInsertedAndScoreEnds
  intro s hymn held
  have header : s.header = some hymn.header := congrArg (Option.map Hymn.header) held
  refine ⟨?_, ?_⟩
  · intro d plan idle unsought division running planOf would n place lead moves coil frame
    have reads : s.ReadsSection hymn d plan := ⟨held, division, running, planOf⟩
    have report : s.cfg.reactions[(4 : FaultNo)] = .report := would.1
    refine ⟨?_, ?_⟩
    · intro st empty differs ways moved
      have below_and_entering : (n.inHand = true ∨ (place : Int) < s.horizon) ∧
          ∃ how, enteringState s false place = how ∧ how ≠ .timed ∧ how.state = st := by
        rcases ways with ⟨state, below, rfl⟩ | ⟨state, below, rfl, p, hold, from_⟩
        · rw [horizon_of_loaded state]
          exact ⟨below.symm.imp_right fun near => by exact_mod_cast near, _, enteringState_of_loaded state, nofun, rfl⟩
        · rw [horizon_of_inPlay (inPlay_of_holding state)]
          exact ⟨below.symm, _, enteringState_of_held state hold from_, nofun, rfl⟩
      obtain ⟨below, how, entering, untimed, rfl⟩ := below_and_entering
      obtain ⟨table, line, fault, port, notes, effect, planned, entered, rest⟩ :=
        execStopActionInsert_of_untimed reads idle unsought report empty differs below entering untimed
      have same : moved = stopMoves plan.stops[d] n.planned :=
        List.filter_congr fun i _ => (Bool.eq_iff_iff.2 (by rw [bne_iff_ne, decide_eq_true_iff]))
      rw [same]
      exact ⟨_, effect, ⟨planned, rfl, rfl, rfl, rfl⟩, rfl, entered, rest, rfl⟩
    · intro i e is only inPlay near unheld going still free taken due barred stop enters full lowest ends
      have moved := stopMoves_of_single is only
      have below : n.inHand = true ∨ (place : Int) < s.horizon := by
        rw [horizon_of_inPlay inPlay]
        exact near.symm
      have timed := enteringState_of_timed inPlay unheld
      have single {a : Option Action} {channels : Vector Channel 8} {out : OutputStage}
          (settled : ∀ n : NoteReader, n.endReached = s.store.notes.endReached →
            settleTable (testEntry e (({ s with store.notes := n } : State).entered e (stop .waiting))) =
              { s with store.notes := n, sched := { s.sched with table := s.sched.table.set e a, channels := channels }, out := out }) :
          enters a channels out := by
        obtain ⟨line, fault, port, notes, effect, planned⟩ :=
          execStopActionInsert_of_single reads idle unsought report moved below timed free taken settled
        exact ⟨_, effect, ⟨planned, rfl, rfl, rfl, rfl⟩, rfl, rfl⟩
      refine ⟨fun waits => single fun n same => ?_, fun c unbarred lowest_ =>
        ⟨fun later within => single fun n same => ?_, fun passed => single fun n same => ?_⟩⟩
      · exact settleTable_timedStop_of_waiting (s := { s with store.notes := n }) rfl still (same.trans going) waits
      · exact settleTable_timedStop_of_armed (s := { s with store.notes := n }) rfl still (same.trans going) unbarred
          (lowestFreeChannel_of_first lowest_.1 lowest_.2) later within
      · exact settleTable_timedStop_of_due (s := { s with store.notes := n }) rfl still (same.trans going) unbarred
          (lowestFreeChannel_of_first lowest_.1 lowest_.2) passed
  · intro last beatDue
    refine ⟨fun inPlay untold passed => ?_, execEndOfScore_of_short header⟩
    have told := execEndOfScore_of_due header inPlay untold passed
    have goes : beatGoesFirst s hymn.header.endPosition = true ↔ s.moving = true ∧ beatDue := beatGoesFirst_iff _
    refine ⟨fun busy => ?_, fun moves first => ?_, fun moves notFirst empty => ?_⟩
    · have waits : ¬beatGoesFirst s hymn.header.endPosition = true := fun first => by
        obtain ⟨moving, due⟩ := goes.1 first
        rcases busy with state | ⟨notFirst, -⟩
        · exact absurd (not_moving_of_holding state) (ne_false_of_eq_true moving)
        · exact notFirst due
      exact told.trans (congrArg _ ((if_neg waits).trans (testHymnEnd_of_busy (s := s.endTold) (busy.imp_right And.right))))
    · exact told.trans (congrArg _ (if_pos (goes.2 ⟨moving_of_inPlay inPlay moves, first⟩)))
    · have ends : testHymnEnd s.endTold = stopPlay s.endTold := by
        have moving : s.endTold.moving = true := moving_of_inPlay inPlay moves
        have cleared : tableEmpty s.endTold = true := tableEmpty_iff.2 empty
        refine if_pos ?_
        rw [moving, cleared]
        rfl
      obtain ⟨store, stopped, -, hymns, seeks⟩ := stopPlay_eq s.endTold
      obtain ⟨-, -, -, start, -, reached_, passed_⟩ := seeks (by rw [show s.endTold.store.hymn = some hymn from held]; rfl)
      have counts : (emptyFired s.endTold).out.counts = s.out.counts := Vector.ext fun k inside => by
        have count := emptyFired_counts s.endTold ⟨k, inside⟩
        rw [show s.endTold.sched.table = Vector.replicate 64 none from empty, firedOffs_replicate] at count
        exact count
      have effect := told.trans (congrArg _ ((if_neg (fun first => notFirst (goes.1 first).2)).trans (ends.trans stopped)))
      exact ⟨_, effect, rfl, start, reached_, passed_, hymns, counts, rfl, rfl, rfl, rfl, rfl⟩

end

section
/-! A beat event under way: the ruling line, the sticky flags, and what a report ends (R93, R103, R106, R114, R121). -/

namespace Sys2Proof.Machine

variable {s : State}

/-! ## Sticky flags and SUMMARY (R120 to R122) -/

/-- Sticky flags differ from others in masked ones alone. -/
def maskedOnly (masks before after : BitVec 7) : Prop := after &&& ~~~masks = before &&& ~~~masks

theorem maskedOnly.trans {masks a b c : BitVec 7} (first : maskedOnly masks a b) (second : maskedOnly masks b c) : maskedOnly masks a c :=
  Eq.trans second first

/-- A masked exception with no default action sets its sticky flag alone (R120, R121). -/
theorem takeExceptionIf_of_masked {e : FollowerException} (cond : Bool) (c : Option (Station × BitVec 8)) (inPlay : s.inPlay = true)
    (masked : s.masked e = true) (plain : e ≠ .overrun ∧ e ≠ .diverge) :
    ∃ sticky, takeExceptionIf cond e c s = { s with follow.sticky := sticky } ∧ maskedOnly s.cfg.masks s.follow.sticky sticky := by
  cases cond with
  | false => exact ⟨_, rfl, rfl⟩
  | true =>
    refine ⟨s.follow.sticky ||| (1#7 <<< e.bit), (takeException_of_masked inPlay masked).trans ?_, BitVec.eq_of_getLsbD_eq fun i inside => ?_⟩
    · obtain ⟨notOverrun, notDiverge⟩ := plain
      cases e with
      | overrun => exact absurd rfl notOverrun
      | diverge => exact absurd rfl notDiverge
      | _ => rfl
    · by_cases own : i = e.bit
      · have hidden : s.cfg.masks.getLsbD i = true := own ▸ masked
        simp only [BitVec.getLsbD_and, BitVec.getLsbD_not, hidden, Bool.not_true, Bool.and_false]
      · have clear : (1#7 <<< e.bit).getLsbD i = false := by
          rw [← BitVec.twoPow_eq, BitVec.getLsbD_twoPow, decide_eq_false (Ne.symm own), Bool.and_false]
        simp only [BitVec.getLsbD_and, BitVec.getLsbD_or, clear, Bool.or_false]

theorem summary_iff (s : State) : s.summary = true ↔ ∃ i : Fin 7, s.follow.sticky.getLsbD i.val = true ∧ s.cfg.masks.getLsbD i.val = false := by
  have zero : s.follow.sticky &&& ~~~s.cfg.masks = 0 ↔
      ∀ i : Fin 7, ¬(s.follow.sticky.getLsbD i.val = true ∧ s.cfg.masks.getLsbD i.val = false) := by
    constructor
    · intro none i set
      have bit := congrArg (fun x : BitVec 7 => x.getLsbD i.val) none
      simp only [BitVec.getLsbD_and, BitVec.getLsbD_not, set.1, set.2, i.isLt, BitVec.ofNat_eq_ofNat, BitVec.getLsbD_zero] at bit
      exact absurd bit (by decide)
    · intro none
      refine BitVec.eq_of_getLsbD_eq fun i inside => ?_
      have clear := none ⟨i, inside⟩
      simpa [inside] using clear
  rw [State.summary, bne_iff_ne, ne_eq, zero, not_forall_not]

/-! ## A line rewritten in the TOP slot (R104, R106, R128) -/

/-- The TOP slot rules on an anchor. -/
def State.rules (slot : Slot) (a : Anchor) (s : State) : State :=
  { s with follow.slots := s.follow.slots.set s.follow.top (some { slot with anchor := a }) }

variable {slot : Slot}

theorem rules_ruling (a : Anchor) : (s.rules slot a).ruling = some a := by simp [State.rules, State.ruling]

theorem rules_anchor (a : Anchor) : (s.rules slot a).anchor = a := by rw [State.anchor, rules_ruling, Option.getD_some]

theorem rules_top (a : Anchor) : (s.rules slot a).follow.slots[s.follow.top] = some { slot with anchor := a } := by simp [State.rules]

theorem rules_rules (a c : Anchor) : (s.rules slot a).rules slot c = s.rules slot c := by simp [State.rules]

theorem setAnchor_of_top {a : Anchor} (top : s.follow.slots[s.follow.top] = some slot) : setAnchor a s = s.rules slot a := by
  rw [setAnchor, top]
  rfl

theorem setAnchor_rules (a c : Anchor) : setAnchor c (s.rules slot a) = s.rules slot c := by
  have top : (s.rules slot a).follow.slots[(s.rules slot a).follow.top] = some { slot with anchor := a } := rules_top a
  rw [setAnchor_of_top top]
  exact rules_rules a c

theorem anchor_timeOf_self (a : Anchor) : a.timeOf a.position = a.time := by
  simp [Anchor.timeOf, roundDiv, addTicks]

/-- A ruling period written with RANGE masked (R106). -/
theorem writePeriod_rules {a : Anchor} {h : Header} (period : Int) (inPlay : s.inPlay = true) (masked : s.masked .range = true)
    (header : s.header = some h) :
    ∃ sticky, writePeriod period none (s.rules slot a) =
        ({ s with follow.sticky := sticky } : State).rules slot { a with period := h.clampPeriod period } ∧
      maskedOnly s.cfg.masks s.follow.sticky sticky := by
  have clamped : (s.rules slot a).clampPeriod period = h.clampPeriod period := by
    unfold State.clampPeriod
    rw [show (s.rules slot a).header = some h from header]
  unfold writePeriod
  rw [clamped, rules_anchor, setAnchor_rules]
  exact takeExceptionIf_of_masked (s := s.rules slot { a with period := h.clampPeriod period }) (e := .range) _ none inPlay masked
    ⟨nofun, nofun⟩

/-! ## The report that ends a change (R93, R103, R115, R158) -/

theorem reachBroaden_of_none (limit : Int) (none : ∀ m ∈ s.store.queue, m.broaden ≠ .unserved) : reachBroaden limit s = s := by
  refine if_neg ?_
  rw [List.any_eq_true]
  rintro ⟨m, mem, hit⟩
  simp only [Bool.and_eq_true, beq_iff_eq] at hit
  exact none m mem hit.1

/-- A gather made afresh under the ruling line, in the terms of the statements (R89, R93). -/
theorem refreshGather_eq (s : State) (g : Gather) : refreshGather s g = g.underLine s s.store.queue := by
  have next : gapNextOf s.store.queue g.mark =
      (s.store.queue.find? fun m => decide (m.sung ≠ .absent ∧ g.mark < m.position)).map (·.position - g.mark) := by
    unfold gapNextOf
    refine congrArg (fun test => (List.find? test s.store.queue).map (·.position - g.mark)) (funext fun m => ?_)
    rw [Bool.eq_iff_iff]
    simp
  unfold refreshGather Gather.underLine halfWidth
  dsimp only
  rw [next]
  generalize (s.store.queue.find? fun m => decide (m.sung ≠ .absent ∧ g.mark < m.position)).map (·.position - g.mark) = gapNext
  obtain ⟨mark, gapPrev, _, _, _, _, _⟩ := g
  cases gapPrev <;> cases gapNext <;> rfl

/-- A change reported with no BROADEN mark to reach. -/
theorem reportAnchor_of_unbroadened (none : ∀ m ∈ s.store.queue, m.broaden ≠ .unserved) :
    reportAnchor s =
      { s with
        gather := { s.gather with opens := s.gather.opens.map (Gather.underLine s s.store.queue) }.prunePool
        sched := startPass s.sched
        follow.change := Option.none } := by
  unfold reportAnchor
  rw [reachBroaden_of_none s.position none]
  dsimp only
  rw [funext (refreshGather_eq s)]

end Sys2Proof.Machine
end

section
/-! The stages of a beat event within a section (R114, R116 to R118, R177, R178). -/

namespace Sys2Proof.Machine

variable {s : State} {slot : Slot} {b : Nat}

theorem stage_of_change {f : State → State} (change : s.follow.change.isSome = true) : stage f s = f s := if_pos change

theorem inPlay_of_moving (moving : s.moving = true) : s.inPlay = true := by simp [State.inPlay, moving]

theorem not_halted_of_moving (moving : s.moving = true) : s.isHalted = false := by
  unfold State.isHalted
  cases state : s.play.state <;> simp_all [State.moving]

/-! ## The re-base (R114) -/

/-- A beat event in hand, the next beat set, and what it leaves standing of the position before (R53 to R55, R107, R113). -/
def State.onBeat (b : Nat) (inHand passed : Bool) (s : State) : State :=
  { s with
    store.notes := { s.store.notes with inHand := inHand, endPassed := passed }
    follow := { s.follow with change := some .beat, nextBeat := some (b + 1) } }

/-- A line past its anchor's time stands at the anchor's position at least (R105). -/
theorem le_positionAt {a : Anchor} {now : Time} (passed : 0 ≤ since now a.time) : (a.position : Int) ≤ a.positionAt now :=
  le_add_of_nonneg_right (Int.ediv_nonneg (by omega) (Int.natCast_nonneg _))

theorem position_of_moving (moving : s.moving = true) : s.position = s.anchor.positionAt s.now := by
  unfold State.position
  split
  · rename_i holding _
    rw [not_moving_of_holding holding] at moving
    cases moving
  · rfl

/-- A re-base to a beat that is due: end of score stands from then on when the beat has reached it (R55, R114). -/
theorem rebase_eq {h : Header} (moving : s.moving = true) (top : s.follow.slots[s.follow.top] = some slot) (header : s.header = some h)
    (due : 0 ≤ since s.now (s.timeOf (24 * b))) :
    ∃ inHand passed,
      rebase b s = (s.onBeat b inHand passed).rules slot ⟨24 * b, s.timeOf (24 * b), s.period⟩ ∧
        (s.store.notes.endPassed = true → passed = true) ∧
        (s.store.notes.finished = true → s.store.notes.endReached = false → h.endPosition ≤ 24 * b → passed = true) := by
  obtain ⟨inHand, passed, before, -, kept⟩ := beforeChange_cases s
  let a : Anchor := ⟨24 * b, s.timeOf (24 * b), s.period⟩
  have moved : rebase b s = noteEnd ((s.onBeat b inHand passed).rules slot a) := by
    unfold rebase
    rw [before]
    exact congrArg noteEnd (setAnchor_of_top (s := s.onBeat b inHand passed) top)
  rw [moved]
  by_cases ends : atEnd ((s.onBeat b inHand passed).rules slot a) = true
  · exact ⟨inHand, true, if_pos ends, fun _ => rfl, fun _ _ _ => rfl⟩
  · refine ⟨inHand, passed, if_neg ends, kept, fun finished untold at_ => absurd ?_ ends⟩
    have reached : ((24 * b : Nat) : Int) ≤ ((s.onBeat b inHand passed).rules slot a).position := by
      rw [position_of_moving (s := (s.onBeat b inHand passed).rules slot a) moving, rules_anchor]
      exact le_positionAt (a := a) due
    have finished' : ((s.onBeat b inHand passed).rules slot a).store.notes.finished = true := finished
    have untold' : ((s.onBeat b inHand passed).rules slot a).store.notes.endReached = false := untold
    have inPlay : ((s.onBeat b inHand passed).rules slot a).inPlay = true := inPlay_of_moving (s := s) moving
    have header' : ((s.onBeat b inHand passed).rules slot a).header = some h := header
    have past : (h.endPosition : Int) ≤ ((s.onBeat b inHand passed).rules slot a).position := le_trans (by exact_mod_cast at_) reached
    simp only [atEnd, header', inPlay, finished', untold', Bool.not_false, Bool.true_and]
    exact decide_eq_true past

/-! ## Coupling (R116, R117) -/

/-- The shift of the coupling stage under a period: the mean offset's part, within P/32 (R117). -/
def coupledShift (s : State) (period : Nat) (cs : List Coupled) : Int :=
  clampInt (-(period / 32 : Nat)) (period / 32 : Nat) (roundDiv (coupledMean (·.offset) cs * s.cfg.kc) 16)

/-- The period that the coupling stage draws toward the peers' mean, before its limits (R117). -/
def coupledPeriod (s : State) (period : Nat) (cs : List Coupled) : Int :=
  period + roundDiv ((coupledMean (fun c => c.period) cs - period) * s.cfg.kc) 64

/-- The coupling stage, with SLEW and RANGE masked. -/
theorem couplingStage_rules {h : Header} {t : Time} {p : Nat} (inPlay : s.inPlay = true) (slew : s.masked .slew = true)
    (range : s.masked .range = true) (header : s.header = some h) (change : s.follow.change.isSome = true) {cs : List Coupled}
    (claims : coupledClaims (s.rules slot ⟨24 * b, t, p⟩) b = cs) :
    ∃ sticky,
      couplingStage b (s.rules slot ⟨24 * b, t, p⟩) =
          ({ s with follow.sticky := sticky } : State).rules slot
            (if coupledWeight cs = 0 then ⟨24 * b, t, p⟩
             else ⟨24 * b, addTicks t (coupledShift s p cs), h.clampPeriod (coupledPeriod s p cs)⟩) ∧
        maskedOnly s.cfg.masks s.follow.sticky sticky := by
  unfold couplingStage
  dsimp only
  rw [claims]
  split
  · exact ⟨_, rfl, rfl⟩
  · have time : (s.rules slot ⟨24 * b, t, p⟩).timeOf (24 * b) = t := by
      rw [State.timeOf, rules_anchor]
      exact anchor_timeOf_self _
    have period : (s.rules slot ⟨24 * b, t, p⟩).period = p := by rw [State.period, rules_anchor]
    rw [time, period, setAnchor_rules]
    obtain ⟨sticky, slewed, hidden⟩ := takeExceptionIf_of_masked (s := s.rules slot ⟨24 * b, addTicks t (coupledShift s p cs), p⟩) (e := .slew)
      (coupledShift s p cs != roundDiv (coupledMean (·.offset) cs * s.cfg.kc) 16) none inPlay slew ⟨nofun, nofun⟩
    obtain ⟨sticky', written, hidden'⟩ := writePeriod_rules (s := { s with follow.sticky := sticky }) (slot := slot)
      (a := ⟨24 * b, addTicks t (coupledShift s p cs), p⟩) (coupledPeriod s p cs) inPlay range header
    refine ⟨sticky', ?_, hidden.trans hidden'⟩
    refine Eq.trans ?_ written
    refine Eq.trans (congrArg _ slewed) ?_
    exact stage_of_change change

/-! ## The PULSE and the swell (R118, R177, R178) -/

theorem pulseStage_of_awake {time : Time} {code : Tempo} (awake : s.isHalted = false) :
    pulseStage b time code s =
      { s with
        follow.resyncPending := false
        line.queue := (enqueue s.line.queue ⟨.pulse (pulseFields b code s), time, 0, 0⟩).1 } := if_neg (ne_true_of_eq_false awake)

theorem swellStage_of_plan {plan : PlanEntry} (planned : s.plan = some plan) :
    swellStage s =
      { s with
        out :=
          { s.out with
            target := swellTarget plan (stepLevel (levels s)) s.out.target
            swell := slewTo plan.mode.slew s.out.swell (swellTarget plan (stepLevel (levels s)) s.out.target) } } := by
  simp only [swellStage, planned]

theorem swellTarget_eq (plan : PlanEntry) (ls : List (Nat × Nat)) (target : Nat) :
    swellTarget plan (stepLevel ls) target =
      if plan.mode = .fixed then plan.ceiling
      else if (ls.map (·.1)).sum = 0 then clampNat plan.floor plan.ceiling target
      else
        plan.floor +
          (roundDiv
            ((roundDiv ((ls.map fun x => x.1 * x.2).sum : Nat) ((ls.map (·.1)).sum : Nat)).toNat * (plan.ceiling - plan.floor) : Nat)
            255).toNat := by
  unfold swellTarget stepLevel
  by_cases silent : (ls.map (·.1)).sum = 0 <;> cases plan.mode <;> simp only [silent, if_true, if_false, reduceCtorEq]

end Sys2Proof.Machine
end

section
/-! BEAT_EVENT within a section (R113 to R118). -/

namespace Sys2Proof.Machine

variable {s : State} {slot : Slot} {b : Nat}

/-- A beat that is due within a section, with no broadening to take and SLEW and RANGE masked. -/
structure State.BeatWithin (b : Nat) (slot : Slot) (h : Header) (plan : PlanEntry) (s : State) : Prop where
  moving : s.moving = true
  top : s.follow.slots[s.follow.top] = some slot
  header : s.header = some h
  plan : s.plan = some plan
  due : 0 ≤ since s.now (s.timeOf (24 * b))
  within : boundaryAt s b = none
  plain : s.follow.broaden = false
  unbroadened : ∀ m ∈ s.store.queue, m.broaden ≠ .unserved
  slew : s.masked .slew = true
  range : s.masked .range = true

/-- The line that a beat's coupling leaves (R114, R116, R117). -/
def State.coupledLine (b : Nat) (h : Header) (cs : List Coupled) (s : State) : Anchor :=
  if coupledWeight cs = 0 then ⟨24 * b, s.timeOf (24 * b), s.period⟩
  else ⟨24 * b, addTicks (s.timeOf (24 * b)) (coupledShift s s.period cs), h.clampPeriod (coupledPeriod s s.period cs)⟩

/-- A beat event in hand, coupled. -/
def State.coupledOn (b : Nat) (slot : Slot) (a : Anchor) (inHand passed : Bool) (sticky : BitVec 7) (s : State) : State :=
  ({ s.onBeat b inHand passed with follow := { (s.onBeat b inHand passed).follow with sticky := sticky } } : State).rules slot a

/-- The PULSE offered and the swell stepped. -/
def State.pulsed (b : Nat) (time : Time) (code : Tempo) (plan : PlanEntry) (s : State) : State :=
  { s with
    follow.resyncPending := false
    line.queue := (enqueue s.line.queue ⟨.pulse (pulseFields b code s), time, 0, 0⟩).1
    out :=
      { s.out with
        target := swellTarget plan (stepLevel (levels s)) s.out.target
        swell := slewTo plan.mode.slew s.out.swell (swellTarget plan (stepLevel (levels s)) s.out.target) } }

/-- A beat within a section: re-based, coupled, its PULSE offered, the swell stepped, reported (R114). -/
theorem beatStages_within {h : Header} {plan : PlanEntry} (beat : s.BeatWithin b slot h plan) {cs : List Coupled}
    (claims : ∀ inHand passed, coupledClaims ((s.onBeat b inHand passed).rules slot ⟨24 * b, s.timeOf (24 * b), s.period⟩) b = cs) :
    ∃ inHand passed sticky,
      beatStages b s =
          reportAnchor
            ((s.coupledOn b slot (s.coupledLine b h cs) inHand passed sticky).pulsed b (s.timeOf (24 * b)) s.tempo plan) ∧
        maskedOnly s.cfg.masks s.follow.sticky sticky ∧ (s.store.notes.endPassed = true → passed = true) ∧
        (s.store.notes.finished = true → s.store.notes.endReached = false → h.endPosition ≤ 24 * b → passed = true) := by
  obtain ⟨inHand, passed, rebased, kept, reached⟩ := rebase_eq beat.moving beat.top beat.header beat.due
  obtain ⟨sticky, coupled, hidden⟩ := couplingStage_rules (s := s.onBeat b inHand passed)
    (inPlay_of_moving (s := s) beat.moving) beat.slew beat.range beat.header rfl (claims inHand passed)
  refine ⟨inHand, passed, sticky, ?_, hidden, kept, reached⟩
  let r := (s.onBeat b inHand passed).rules slot ⟨24 * b, s.timeOf (24 * b), s.period⟩
  let x := s.coupledOn b slot (s.coupledLine b h cs) inHand passed sticky
  have sectioned : stage (sectionStage b) (rebase b s) = r := by
    rw [rebased, stage_of_change rfl, sectionStage, show boundaryAt r b = none from beat.within]
  have broadened : stage (broadenStage b) r = r := by
    rw [stage_of_change rfl, broadenStage, reachBroaden_of_none (s := r) _ beat.unbroadened]
    exact if_neg (ne_true_of_eq_false beat.plain)
  have coupled' : stage (couplingStage b) r = x := (stage_of_change (s := r) rfl).trans coupled
  have played : stage swellStage (stage (pulseStage b (s.timeOf (24 * b)) s.tempo) x) = x.pulsed b (s.timeOf (24 * b)) s.tempo plan := by
    rw [stage_of_change (s := x) rfl, pulseStage_of_awake (s := x) (not_halted_of_moving (s := s) beat.moving), stage_of_change rfl]
    exact swellStage_of_plan (by exact beat.plan)
  have code : r.tempo = s.tempo := rfl
  unfold beatStages
  dsimp only
  rw [sectioned, broadened, coupled', code, played]
  exact stage_of_change rfl

end Sys2Proof.Machine
end

section

open Sys2Proof Sys2Proof.Machine

/-- Settles O49: the stages of a beat event within a section, one after the other, and the report that ends them. -/
theorem beatEventTaken : Obligations.BeatEventTaken := by
  unfold Obligations.BeatEventTaken
  intro b slot h plan s moving next top header planned due within plain unbroadened slew range p t used total offset peers shift period
  have beat : s.BeatWithin b slot h plan := ⟨moving, top, header, planned, due, within, plain, unbroadened, slew, range⟩
  let rebased := (s.onBeat b false false).rules slot ⟨24 * b, t, p⟩
  let cs := coupledClaims rebased b
  have used_eq : used = cs.map fun c => (c.weight, c.offset, c.period) := by
    have time : rebased.timeOf (24 * b) = t := by
      rw [State.timeOf, rules_anchor]
      exact anchor_timeOf_self _
    have rate : rebased.period = p := by rw [State.period, rules_anchor]
    simp only [used, cs, coupledClaims, List.map_filterMap]
    refine List.filterMap_congr fun q _ => ?_
    unfold coupledClaim
    rw [time, rate]
    cases q.present with
    | false => rfl
    | true =>
      cases q.claim with
      | none => rfl
      | some c =>
        simp only [Bool.and_eq_true, decide_eq_true_eq, and_assoc, apply_ite (Option.map _), Option.map_some, Option.map_none]
        rfl
  have total_eq : total = coupledWeight cs := by
    simp only [total, used_eq, List.map_map]
    rfl
  have offset_eq : offset = coupledMean (·.offset) cs := by
    simp only [offset, total_eq, used_eq, List.map_map]
    rfl
  have peers_eq : peers = coupledMean (fun c => c.period) cs := by
    simp only [peers, total_eq, used_eq, List.map_map]
    rfl
  have line : s.coupledLine b h cs = if total = 0 then ⟨24 * b, t, p⟩ else ⟨24 * b, addTicks t shift, period⟩ := by
    simp only [State.coupledLine, coupledShift, coupledPeriod, Header.clampPeriod, total_eq, shift, period, offset_eq, peers_eq]
    rfl
  obtain ⟨inHand, passed, sticky, ran, hidden, kept, reached_⟩ := beatStages_within beat (cs := cs) fun _ _ => rfl
  let x := s.coupledOn b slot (s.coupledLine b h cs) inHand passed sticky
  let y := x.pulsed b t s.tempo plan
  have effect : exec .beatEvent s = .next (reportAnchor y) := by
    have taken : exec .beatEvent s = act s (s.moving && reached (s.timeOf (24 * b)) s.now) (beatStages b s) := by
      change execBeatEvent s = _
      unfold execBeatEvent
      rw [next]
    rw [taken, act_of_due (by rw [moving]; exact decide_eq_true due), ran]
  rw [reportAnchor_of_unbroadened (s := y) unbroadened] at effect
  refine ⟨_, effect, ?_, rfl, rfl, rfl, rfl, ⟨startPass_pass _, rfl⟩,
    ⟨pulseFields b s.tempo x, rfl, rfl, rfl, rfl, rfl, rfl, rfl, rfl, rfl, rfl, ?_, rfl, ?_⟩, ?_, rfl, rfl, rfl, reached_, kept, rfl, rfl, rfl⟩
  · have topped : (s.coupledOn b slot (s.coupledLine b h cs) inHand passed sticky).follow.slots[s.follow.top] =
        some { slot with anchor := s.coupledLine b h cs } := rules_top _
    refine Eq.trans topped ?_
    rw [line]
    split <;> rfl
  · exact Bool.eq_iff_iff.2 (by rw [decide_eq_true_iff]; exact bne_iff_ne)
  · have same : x.summary = s.summary := congrArg (· != 0) hidden
    exact Bool.eq_iff_iff.2 ((same ▸ summary_iff s).trans decide_eq_true_iff.symm)
  · intro levels_ weight level slew_
    have levels_eq : levels_ = levels x := by
      refine congrArg₂ (· ++ ·) ?_ (List.filterMap_congr fun q _ => ?_)
      · show _ = match s.ownLevel with | some l => [(s.cfg.selfWeight, l)] | none => []
        cases s.ownLevel <;> rfl
      · unfold peerLevel
        cases q.present with
        | false => rfl
        | true =>
          cases q.claim with
          | none => rfl
          | some c =>
            simp only [Bool.and_eq_true, decide_eq_true_eq, and_assoc]
            rfl
    have target := (congrArg (fun ls => swellTarget plan (stepLevel ls) s.out.target) levels_eq.symm).trans (swellTarget_eq plan levels_ s.out.target)
    have slew_eq : plan.mode.slew = slew_ := by
      simp only [slew_]
      cases plan.mode <;> rfl
    refine ⟨target, ?_⟩
    rw [← slew_eq]
    rfl

end

section
/-! A header whose intro ends before it begins, which no load keeps (R44) and which the statement on mark blocks does not shut out: a record past
the intro's end stands before its beginning there, and is passed over as one before it (R50). -/

namespace Sys2Proof.Machine

/-- A header whose intro runs from beat 31 back to beat 24. -/
def backwardHeader : Header := ⟨212, 6000, 32, 4, 31, 24, 2, ⟨145, 40⟩, Vector.replicate 8 ⟨145, 0⟩⟩

theorem backwardHeader_not_inRange (n length : Nat) : backwardHeader.inRange n length = false :=
  Bool.eq_false_iff.2 fun good => by
    obtain ⟨-, -, -, -, -, -, -, forward, -⟩ := (inRange_iff backwardHeader n length).1 good
    exact absurd forward (by decide)

/-- The record of a SUNG mark at beat 28, after the end of that intro and before its beginning. -/
def recordBetween : MarkRecord := ⟨28, 0, true, false, false, 0, 0⟩

/-- A block of that record alone. -/
def blockBetween : List Byte := [28, 64, 0, 0, 205, 248]

/-- A station priming in the pass of that intro, the block in flight. -/
def primingBackward : State :=
  { State.reset with
    play := { PlayController.initial with state := .loading }
    store :=
      { ScoreStore.initial with
        port := .only ⟨.markBlock, 3145, 6⟩, loader := .priming, hymn := some ⟨3000, backwardHeader, []⟩
        marks := { MarkReader.initial with phase := .running } } }

/-- The section that the mark reader is in after a command. -/
def markSection : Host.Outcome State Fault Refusal → Option Nat
  | .next t => some t.store.marks.sect
  | _ => none

/-- The pass of the intro goes on past the record. -/
theorem markSection_primingBackward : markSection (exec (.markBlockRead blockBetween) primingBackward) = some 0 := by decide +kernel

end Sys2Proof.Machine
end

section

open Sys2Proof Sys2Proof.Machine

/-- Refutes O41: in the pass of an intro that ends before it begins, a record past its end is passed over as one before it, and verse 1 does not
begin. -/
theorem not_marksAppended : ¬Obligations.MarksAppended := by
  unfold Obligations.MarksAppended
  intro holds
  obtain ⟨read, -⟩ := holds primingBackward ⟨3000, backwardHeader, []⟩ rfl rfl
  have block := (read blockBetween ⟨.markBlock, 3145, 6⟩ rfl rfl rfl rfl rfl rfl rfl rfl (by decide) (by decide)).1
  have records : (blockWords 4 blockBetween).map parseMark = [recordBetween] := by decide
  have past : ∀ x ∈ [recordBetween], backwardHeader.introLast < x.beat := by decide
  have outcome := block [] [] [] [recordBetween] none (by decide +kernel) records (by decide) ⟨nofun, past, nofun⟩ nofun .nil nofun nofun
  have begins := outcome.1 nofun (by decide)
  have stays := markSection_primingBackward
  rw [begins] at stays
  cases stays

end

section
/-! What every operation keeps of the lock confidence, the miss count, the matched run and the peer weights (R72, R86, R96, R112): most leave
them alone or clear the counts, and the closes, the peer updates and the configuration read move them within their ranges. -/

namespace Sys2Proof.Machine

/-- The follower's counts, the matched run, the peer table, and the weight maximum. -/
structure Tally where
  confidence : Nat
  misses : Nat
  run : Nat
  peers : Vector Peer 16
  weightMax : Nat

/-- The tally of a state. -/
def State.tally (s : State) : Tally := ⟨s.follow.confidence, s.follow.misses, s.play.run, s.gather.peers, s.cfg.weightMax⟩

/-- Every peer weight within a maximum (R86). -/
def WeightsWithin (most : Nat) (peers : Vector Peer 16) : Prop := ∀ p : Station, (peers[p]).weight ≤ most

/-- The counts in their ranges (R72, R112), and the peer weights within the weight maximum, which is the one given (R86). -/
structure Tally.Within (most : Nat) (v : Tally) : Prop where
  confidence : v.confidence ≤ 15
  misses : v.misses ≤ 2
  run : v.run ≤ 2
  weights : WeightsWithin most v.peers
  maximum : v.weightMax = most

/-- A state whose tally is in range. It speaks of the tally alone, so whatever leaves the tally as it was keeps it. -/
def Ranged (most : Nat) (s : State) : Prop := s.tally.Within most

variable {most : Nat} {s t : State}

theorem Ranged.same (h : Ranged most s) (e : t.tally = s.tally) : Ranged most t := by
  unfold Ranged
  rw [e]
  exact h

theorem ranged_ite {c : Prop} [Decidable c] (h : Ranged most s) (k : Ranged most t) : Ranged most (if c then s else t) := by
  split
  · exact h
  · exact k

/-- The counts cleared, and the run with them. -/
theorem Tally.Within.cleared {v : Tally} (h : v.Within most) : ({ v with confidence := 0, misses := 0, run := 0 } : Tally).Within most :=
  ⟨Nat.zero_le _, Nat.zero_le _, Nat.zero_le _, h.weights, h.maximum⟩

/-- The run set within its range. -/
theorem Tally.Within.withRun {v : Tally} {run : Nat} (h : v.Within most) (le : run ≤ 2) : ({ v with run := run } : Tally).Within most :=
  ⟨h.confidence, h.misses, le, h.weights, h.maximum⟩

/-- The peers replaced, their weights within the maximum. -/
theorem Tally.Within.withPeers {v : Tally} {peers : Vector Peer 16} (h : v.Within most) (within : WeightsWithin most peers) :
    ({ v with peers := peers } : Tally).Within most := ⟨h.confidence, h.misses, h.run, within, h.maximum⟩

theorem Ranged.peers (h : Ranged most s) : WeightsWithin most s.gather.peers := h.weights

theorem Ranged.weightMax (h : Ranged most s) : s.cfg.weightMax = most := h.maximum

/-! ## The peer table (R86, R87, R88, R96) -/

theorem weightsWithin_set {peers : Vector Peer 16} (h : WeightsWithin most peers) (p : Station) {x : Peer} (le : x.weight ≤ most) :
    WeightsWithin most (peers.set p x) := by
  intro q
  rw [Fin.getElem_fin, Vector.getElem_set]
  split
  · exact le
  · exact h q

theorem hearPeer_ranged {p : Station} (h : Ranged most s) : Ranged most (hearPeer p s) := by
  refine h.withPeers (weightsWithin_set h.peers p ?_)
  unfold Peer.hear
  dsimp only
  split
  · exact h.peers p
  · exact h.weightMax ▸ Nat.min_le_right _ _

theorem assess_weight_le {x : Peer} {period : Nat} {residual : Int} (h : x.weight ≤ most) : (assess most period residual x).weight ≤ most := by
  unfold assess
  split
  · exact h
  · split
    · exact Nat.min_le_left _ _
    · split
      · exact (Nat.sub_le _ _).trans h
      · exact h

theorem assessMembers_within {period : Nat} {time : Time} {mean : Int} (members : List Observation) {peers : Vector Peer 16}
    (h : WeightsWithin most peers) : WeightsWithin most (assessMembers most period time mean members peers) := by
  refine foldl_invariant (p := WeightsWithin most) (fun ps m within => ?_) members h
  split
  · exact within
  · rename_i p _
    exact weightsWithin_set within p (assess_weight_le (within p))

/-! ## What leaves the tally as it was -/

@[simp] theorem takeFree_tally (s : State) : s.takeFree.2.tally = s.tally := rfl

@[simp] theorem offerFrame_tally (body : FrameBody) (time : Time) (s : State) : (offerFrame body time s).tally = s.tally := by
  rcases offerFrame_cases body time s with ⟨-, e⟩ | ⟨-, e⟩ <;> rw [e]
  rfl

@[simp] theorem faultFrameLeft_tally (f : QueuedFrame) (s : State) : (faultFrameLeft f s).tally = s.tally := by
  rcases faultFrameLeft_cases f s with e | ⟨-, -, e⟩ <;> rw [e]
  rfl

@[simp] theorem latchAndReport_tally (ch : FaultNo) (s : State) : (latchAndReport ch s).tally = s.tally := by
  rcases latchAndReport_cases ch s with ⟨-, e⟩ | ⟨-, e⟩ <;> rw [e]
  rfl

@[simp] theorem nameSilencing_tally (ch : FaultNo) (before s : State) : (nameSilencing ch before s).tally = s.tally := by
  rcases nameSilencing_cases ch before s with e | e <;> rw [e]
  rfl

@[simp] theorem reachBroaden_tally (limit : Int) (s : State) : (reachBroaden limit s).tally = s.tally := by
  unfold reachBroaden
  dsimp only
  split <;> rfl

@[simp] theorem watchNext_tally (fuel : Nat) (s : State) : (watchNext fuel s).tally = s.tally := by
  induction fuel generalizing s with
  | zero => rfl
  | succ fuel ih =>
    unfold watchNext
    split
    · rfl
    · split
      · rfl
      · split
        · exact ih _
        · rfl

@[simp] theorem settleWatch_tally (s : State) : (settleWatch s).tally = s.tally := watchNext_tally _ s

@[simp] theorem settleMarks_tally (s : State) : (settleMarks s).tally = s.tally := by
  unfold settleMarks
  dsimp only
  repeat' split
  all_goals rfl

theorem settleNotesStep_tally (s t : State) (turn : settleNotesStep s = some t) : t.tally = s.tally := by
  unfold settleNotesStep at turn
  dsimp only at turn
  repeat' split at turn
  all_goals cases turn <;> rfl

@[simp] theorem settleNotes_tally (s : State) : (settleNotes s).tally = s.tally := iterate_keeps State.tally settleNotesStep_tally 20 s

@[simp] theorem startReaders_tally (beat : Nat) (s : State) : (startReaders beat s).tally = s.tally := by
  unfold startReaders
  split
  · rfl
  · rw [settleNotes_tally, settleMarks_tally]
    rfl

@[simp] theorem noteEnd_tally (s : State) : (noteEnd s).tally = s.tally := by
  unfold noteEnd
  split <;> rfl

@[simp] theorem beforeChange_tally (s : State) : (beforeChange s).tally = s.tally := by
  obtain ⟨_, _, e, -⟩ := beforeChange_cases s
  rw [e]
  rfl

@[simp] theorem reportAnchor_tally (s : State) : (reportAnchor s).tally = s.tally := reachBroaden_tally s.position s

@[simp] theorem closeAtQuorum_peers (quorum mark : Nat) (u : GatherUnit) : (closeAtQuorum quorum mark u).peers = u.peers := by
  unfold closeAtQuorum
  split
  · split <;> rfl
  · rfl

@[simp] theorem adoptCluster_tally (p : Nat) (c : Cluster) (s : State) : (adoptCluster p c s).tally = s.tally := by
  have recorded (gone : List Gather) (u : GatherUnit) : (gone.foldl (fun u g => u.recordClosed g.window) u).peers = u.peers :=
    foldl_keeps GatherUnit.peers (fun u g => recordClosed_peers u g.window) gone u
  have abandoned (u : State) : (abandonBefore p u).tally = u.tally :=
    congrArg (fun peers : Vector Peer 16 => { u.tally with peers := peers }) (recorded _ _)
  have opened (u : State) : (if gatherBegun u.gather p then u else openGather p u).tally = u.tally := by split <;> rfl
  unfold adoptCluster
  dsimp only
  split
  · refine Eq.trans ?_ ((opened _).trans (abandoned { s with gather.taking := .free }))
    exact congrArg (fun peers : Vector Peer 16 => { State.tally _ with peers := peers }) (closeAtQuorum_peers _ _ _)
  · exact (opened _).trans (abandoned { s with gather.taking := .free })

@[simp] theorem poolOnset_tally (o : Observation) (s : State) : (poolOnset o s).tally = s.tally := by
  unfold poolOnset
  dsimp only
  split
  · rfl
  · split <;> rfl

@[simp] theorem clearCulprit_tally (period : Nat) (time : Time) (mean : Int) (ms : List Observation) (s : State) :
    (clearCulprit period time mean ms s).tally = s.tally := by
  unfold clearCulprit
  split
  · split <;> rfl
  · rfl

end Sys2Proof.Machine
end

section
namespace Sys2Proof.Machine

variable {most : Nat} {s t : State}

/-! ## Faults and exceptions (R73, R79, R112, R120, R184 to R190) -/

theorem enterSilenced_ranged (h : Ranged most s) : Ranged most (enterSilenced s) := h.cleared

theorem enterHalted_ranged (h : Ranged most s) : Ranged most (enterHalted s) := h.cleared

theorem silence_ranged (h : Ranged most s) : Ranged most (silence s) := by
  rcases silence_cases s with ⟨-, e⟩ | ⟨-, e⟩ | ⟨-, -, e⟩ <;> rw [e]
  · exact h
  · exact h
  · exact enterSilenced_ranged h

theorem leadReaction_ranged (h : Ranged most s) : Ranged most (leadReaction s) := by
  unfold leadReaction
  split
  · exact h
  · exact h.withRun (Nat.zero_le 2)
  · exact h
  · exact h

theorem raiseFault_ranged {ch : FaultNo} (h : Ranged most s) : Ranged most (raiseFault ch s) := by
  rcases raiseFault_cases ch s with ⟨-, e⟩ | ⟨-, -, ⟨-, e⟩ | ⟨-, e⟩ | ⟨-, -, e⟩ | ⟨-, -, e⟩⟩ <;> rw [e]
  · exact h
  · exact h.same (latchAndReport_tally ch s)
  · exact leadReaction_ranged (h.same (latchAndReport_tally ch s))
  · exact enterHalted_ranged h
  · exact silence_ranged (h.same (by simp))

/-- The default action of DIVERGE clears the miss count, so it need not have been in range before (R112). -/
theorem divergeDefault_ranged (h : Ranged most { s with follow.misses := 0 }) : Ranged most (exceptionDefault .diverge s) := by
  unfold exceptionDefault
  dsimp only
  split
  · exact h.withRun (Nat.zero_le 2)
  · exact h

theorem exceptionDefault_ranged {e : FollowerException} (h : Ranged most s) : Ranged most (exceptionDefault e s) := by
  cases e with
  | diverge => exact divergeDefault_ranged ⟨h.confidence, Nat.zero_le 2, h.run, h.weights, h.maximum⟩
  | range | slew | void | stale | overrun | stack => exact h

theorem takeException_ranged {e : FollowerException} {c : Option (Station × BitVec 8)} (h : Ranged most s) :
    Ranged most (takeException e c s) := by
  have default : Ranged most (exceptionDefault e { s with follow.sticky := s.follow.sticky ||| (1#7 <<< e.bit) }) :=
    exceptionDefault_ranged h
  rcases takeException_cases e c s with ⟨-, eq⟩ | ⟨-, ⟨-, eq⟩ | ⟨-, eq⟩⟩ <;> rw [eq]
  · exact h
  · exact default
  · exact raiseFault_ranged (ranged_ite default default)

theorem takeExceptionIf_ranged {cond : Bool} {e : FollowerException} {c : Option (Station × BitVec 8)} (h : Ranged most s) :
    Ranged most (takeExceptionIf cond e c s) := ranged_ite (takeException_ranged h) h

theorem deliver_ranged {o : Observation} (h : Ranged most s) : Ranged most (deliver o s) := by
  rcases deliver_cases o s with ⟨-, e⟩ | ⟨-, -, e⟩ | ⟨-, -, _, _, -, e⟩ <;> rw [e]
  · exact h
  · exact h
  · exact takeException_ranged h

theorem stage_ranged_inHand {f : State → State} (effect : s.follow.change.isSome = true → Ranged most (f s)) (h : Ranged most s) :
    Ranged most (stage f s) := by
  rcases stage_cases f s with ⟨inHand, e⟩ | ⟨-, e⟩ <;> rw [e]
  · exact effect inHand
  · exact h

theorem stage_ranged {f : State → State} (effect : ∀ {u}, Ranged most u → Ranged most (f u)) (h : Ranged most s) :
    Ranged most (stage f s) := stage_ranged_inHand (fun _ => effect h) h

theorem reportAnchor_ranged (h : Ranged most s) : Ranged most (reportAnchor s) := h.same (reportAnchor_tally s)

/-! ## Play, seeks, joins and loads (R43, R46, R56, R67, R75 to R78) -/

/-- Play begins with the follower's counts and the run at 0 (R67, R146). -/
theorem enterPlay_ranged {sect beat : Nat} {a : Anchor} {c : Change} (h : Ranged most s) : Ranged most (enterPlay sect a beat c s) := by
  have before : Ranged most (beforeChange s) := h.same (beforeChange_tally s)
  unfold enterPlay
  refine reportAnchor_ranged (Ranged.same ?_ (settleWatch_tally _))
  exact before.cleared

theorem joinComplete_ranged {j : JoinAnchor} (h : Ranged most s) : Ranged most (joinComplete j s) := by
  unfold joinComplete
  split
  · exact enterPlay_ranged h
  · exact h

theorem completeSeek_ranged (h : Ranged most s) : Ranged most (completeSeek s) := by
  unfold completeSeek
  split
  · refine ranged_ite ?_ h
    dsimp only
    split
    · exact joinComplete_ranged h
    · exact h
  · exact h

theorem beginSeek_ranged {beat : Nat} (h : Ranged most s) : Ranged most (beginSeek beat s) :=
  completeSeek_ranged (Ranged.same h (startReaders_tally beat _))

theorem playBegin_ranged {mark : Time} (h : Ranged most s) : Ranged most (playBegin mark s) := by
  have sought : Ranged most (if s.store.seek.any (· != 0) then
        beginSeek 0 { s with play := { s.play with pendingStart := none, join := none } }
      else { s with play := { s.play with pendingStart := none, join := none } }) :=
    ranged_ite (beginSeek_ranged h) h
  unfold playBegin
  dsimp only
  split
  · exact enterPlay_ranged sought
  · exact sought

theorem joinStart_ranged {hymn : Nat} (h : Ranged most s) : Ranged most (joinStart hymn s) := by
  unfold joinStart
  split
  · exact ranged_ite h (beginSeek_ranged h)
  · exact h

theorem stopPlay_ranged (h : Ranged most s) : Ranged most (stopPlay s) := by
  refine beginSeek_ranged ?_
  exact h.cleared

theorem testHymnEnd_ranged (h : Ranged most s) : Ranged most (testHymnEnd s) := ranged_ite (stopPlay_ranged h) h

theorem beginLoad_ranged {hymn : Nat} (h : Ranged most s) : Ranged most (beginLoad hymn s) := h

theorem loadFailed_ranged (h : Ranged most s) : Ranged most (loadFailed s) := raiseFault_ranged h

theorem loadComplete_ranged (h : Ranged most s) : Ranged most (loadComplete s) := by
  unfold loadComplete
  dsimp only
  split
  · exact playBegin_ranged h
  · exact joinStart_ranged h
  · exact h

theorem testPrimed_ranged (h : Ranged most s) : Ranged most (testPrimed s) :=
  ranged_ite (ranged_ite (loadComplete_ranged h) h) (completeSeek_ranged h)

theorem testJoin_ranged (h : Ranged most s) : Ranged most (testJoin s) := by
  unfold testJoin
  split
  · dsimp only
    split
    · exact h
    · exact ranged_ite (joinStart_ranged h) (beginLoad_ranged h)
    · exact ranged_ite (joinStart_ranged h) (beginLoad_ranged h)
  · exact h

/-! ## The action table (R149 to R164) -/

theorem testReleased_ranged {e : EntryNo} (h : Ranged most s) : Ranged most (testReleased e s) := by
  unfold testReleased
  split
  · split
    · exact ranged_ite h h
    · exact h
  · exact h

theorem applyNoteOn_ranged {e : EntryNo} {key : Key} {a : Action} {due : Time} (h : Ranged most s) :
    Ranged most (applyNoteOn e key a due s) := by
  refine ranged_ite (raiseFault_ranged h) ?_
  split
  · exact testReleased_ranged h
  · exact h

theorem fireAtOnce_ranged {e : EntryNo} {a : Action} {due : Time} (h : Ranged most s) : Ranged most (fireAtOnce e a due s) := by
  unfold fireAtOnce
  dsimp only
  split
  · exact ranged_ite (raiseFault_ranged h) (applyNoteOn_ranged h)
  · exact h
  · split <;> exact h

theorem testEntry_ranged {e : EntryNo} (h : Ranged most s) : Ranged most (testEntry e s) := by
  unfold testEntry
  split
  · exact ranged_ite (fireAtOnce_ranged h) h
  · exact h

theorem serveStep_ranged (h : Ranged most s) (turn : serveStep s = some t) : Ranged most t := by
  unfold serveStep at turn
  repeat' split at turn
  all_goals cases turn
  all_goals exact h

theorem settleTable_ranged (h : Ranged most s) : Ranged most (settleTable s) :=
  testHymnEnd_ranged (iterate_invariant (fun _ _ => serveStep_ranged) 8 h)

theorem setBarrier_ranged {new : Option Nat} (h : Ranged most s) : Ranged most (setBarrier new s) := by
  unfold setBarrier
  refine ranged_ite h (settleTable_ranged ?_)
  dsimp only
  split
  · exact foldl_invariant (fun _ _ => testEntry_ranged) _ h
  · exact h

theorem rewatch_ranged (h : Ranged most s) : Ranged most (rewatch s) :=
  ranged_ite (setBarrier_ranged (h.same (settleWatch_tally s))) (h.same (settleWatch_tally s))

theorem timeEntry_ranged {e : EntryNo} (h : Ranged most s) : Ranged most (timeEntry e s) := by
  unfold timeEntry
  split <;> exact h

theorem insertPair_ranged {key : Key} {p q : Nat} (h : Ranged most s) : Ranged most (insertPair key p q s) := by
  unfold insertPair
  split
  · exact h
  · dsimp only
    split
    · exact h
    · exact ranged_ite (settleTable_ranged (testEntry_ranged (testEntry_ranged (timeEntry_ranged (timeEntry_ranged h))))) h

theorem insertStop_ranged {stop : StopNo} {coil : Coil} {p : Nat} (h : Ranged most s) : Ranged most (insertStop stop coil p s) := by
  unfold insertStop
  split
  · exact h
  · exact ranged_ite (settleTable_ranged (testEntry_ranged (timeEntry_ranged h))) h

/-! ## The hypothesis stack and holds (R106, R128 to R137, R143, R144) -/

theorem writePeriod_ranged {p : Int} {c : Option (Station × BitVec 8)} (h : Ranged most s) : Ranged most (writePeriod p c s) :=
  takeExceptionIf_ranged h

theorem confirmTop_ranged (h : Ranged most s) : Ranged most (confirmTop s) := testHymnEnd_ranged h

theorem testExhausted_ranged (h : Ranged most s) : Ranged most (testExhausted s) := ranged_ite (confirmTop_ranged h) h

theorem push_ranged {p : Nat} {time : Time} (h : Ranged most s) : Ranged most (push p time s) := by
  refine takeExceptionIf_ranged (h.same ?_)
  simp [State.tally]

theorem pop_ranged (h : Ranged most s) : Ranged most (pop s) := by
  refine h.same ?_
  have counts : s.follow.pop.confidence = s.follow.confidence ∧ s.follow.pop.misses = s.follow.misses := by
    unfold Follower.pop
    dsimp only
    split <;> exact ⟨rfl, rfl⟩
  simp [pop, State.tally, counts]

theorem slip_ranged {p : Nat} {time : Time} (h : Ranged most s) : Ranged most (slip p time s) := by
  unfold slip
  dsimp only
  refine stage_ranged (fun k => ?_) (stage_ranged (fun k => settleTable_ranged k) (push_ranged h))
  split
  · exact ranged_ite (rewatch_ranged k) (rewatch_ranged k)
  · exact rewatch_ranged k

theorem acceptCluster_ranged {p : Option Nat} {c : Cluster} (h : Ranged most s) : Ranged most (acceptCluster p c s) := by
  unfold acceptCluster
  split
  · exact testExhausted_ranged (h.same (adoptCluster_tally _ _ s))
  · exact h
  · exact h

theorem takeReturn_ranged (h : Ranged most s) : Ranged most { s with play := takeReturn s.play } := by
  unfold takeReturn
  split
  · exact h
  · exact h.withRun (Nat.zero_le 2)

theorem releaseSteps_ranged (h : Ranged most s) : Ranged most (releaseSteps s) := by
  unfold releaseSteps
  split
  · exact h
  · rename_i hold _
    have anchored : Ranged most
        (setAnchor ⟨hold.point, s.now, s.period⟩
          { beforeChange s with follow := { s.follow with hold := none, change := some .release } }) := by
      refine h.same ?_
      simp [State.tally, setAnchor]
    refine stage_ranged (fun k => rewatch_ranged k) (testHymnEnd_ranged ?_)
    dsimp only
    split <;> exact takeReturn_ranged anchored

end Sys2Proof.Machine
end

section
namespace Sys2Proof.Machine

variable {most : Nat} {s t : State}

/-! ## Observations, closes and clusters (R72, R91 to R99, R108 to R112, R135, R144) -/

theorem judgeOnset_ranged {o : Observation} (h : Ranged most s) : Ranged most (judgeOnset o s) := by
  unfold judgeOnset
  split
  · refine ranged_ite h (h.same ?_)
    simp [State.tally]
  · exact ranged_ite h (ranged_ite (takeException_ranged h) (h.same (poolOnset_tally o s)))

theorem writeClose_ranged {g : Gather} {st : PlayState} {mean : Int} (h : Ranged most s) : Ranged most (writeClose g st mean s) := by
  refine stage_ranged (fun k => writePeriod_ranged k) (takeExceptionIf_ranged (h.same ?_))
  simp [State.tally]

theorem acceptClose_ranged {mark : Nat} {weights : Vector Peer 16 → Vector Peer 16} (h : Ranged most s)
    (within : ∀ peers, WeightsWithin most peers → WeightsWithin most (weights peers)) : Ranged most (acceptClose mark weights s) := by
  rcases acceptClose_cases mark weights s with e | ⟨-, e⟩ <;> rw [e]
  · exact h
  · exact h.withPeers (within _ h.peers)

theorem judgeMatched_ranged {g : Gather} {mean : Int} (h : Ranged most s) : Ranged most (judgeMatched g mean s) :=
  ranged_ite h (ranged_ite (pop_ranged h) (ranged_ite h (confirmTop_ranged h)))

/-- The end of a close, with a report or without (R111). -/
theorem closeEnd_ranged {moved : Prop} [Decidable moved] (h : Ranged most s) :
    Ranged most ((if moved then reportAnchor else endChange) s) := by
  split
  · exact reportAnchor_ranged h
  · exact h

/-- The run goes up to 2 and stays there (R72). -/
theorem reportMatched_run_le (p : PlayController) (le : p.run ≤ 2) : (reportMatched p).run ≤ 2 := by
  unfold reportMatched
  split
  · split
    · dsimp only
      omega
    · split <;> exact Nat.le_refl 2
  · exact le

theorem reportVoid_run_le (p : PlayController) (le : p.run ≤ 2) : (reportVoid p).run ≤ 2 := by
  unfold reportVoid
  split
  · exact Nat.zero_le 2
  · exact le

theorem applyMatched_ranged {g : Gather} {st : PlayState} (h : Ranged most s) : Ranged most (applyMatched g st s) := by
  have counted : Ranged most
      { s with
        play := reportMatched s.play
        follow := { s.follow with change := some .close, confidence := min 15 (s.follow.confidence + 1), misses := 0 } } :=
    ⟨Nat.min_le_left _ _, Nat.zero_le 2, reportMatched_run_le s.play h.run, h.weights, h.maximum⟩
  unfold applyMatched
  dsimp only
  rw [h.weightMax]
  refine testExhausted_ranged (acceptClose_ranged ?_ fun _ => assessMembers_within g.members)
  refine stage_ranged closeEnd_ranged (stage_ranged (fun k => k.same (clearCulprit_tally ..)) ?_)
  split
  · exact stage_ranged judgeMatched_ranged (writeClose_ranged counted)
  · exact counted

/-- A miss counted at a VOID close in play, with DIVERGE at the third, which clears the count (R112). -/
theorem missCounted_ranged {st : PlayState} (h : Ranged most s) (inPlay : s.inPlay = true) :
    let counted : State :=
      { s with
        follow :=
          { s.follow with
            confidence := s.follow.confidence - 2
            misses := if st = .following then s.follow.misses + 1 else s.follow.misses } }
    Ranged most (takeExceptionIf (st = .following && decide (3 ≤ counted.follow.misses)) .diverge none counted) := by
  intro counted
  have cleared : Ranged most { counted with follow.misses := 0 } :=
    ⟨(Nat.sub_le _ _).trans h.confidence, Nat.zero_le 2, h.run, h.weights, h.maximum⟩
  unfold takeExceptionIf
  split
  · have default : Ranged most
        (exceptionDefault .diverge { counted with follow.sticky := counted.follow.sticky ||| (1#7 <<< FollowerException.diverge.bit) }) :=
      divergeDefault_ranged cleared
    rcases takeException_cases .diverge none counted with ⟨out, -⟩ | ⟨-, ⟨-, e⟩ | ⟨-, e⟩⟩
    · exact absurd inPlay (ne_true_of_eq_false out)
    · rw [e]
      exact default
    · rw [e]
      exact raiseFault_ranged (ranged_ite default default)
  · rename_i notThird
    refine ⟨cleared.confidence, ?_, h.run, h.weights, h.maximum⟩
    have misses : s.follow.misses ≤ 2 := h.misses
    have counts : counted.follow.misses = if st = .following then s.follow.misses + 1 else s.follow.misses := rfl
    change counted.follow.misses ≤ 2
    by_cases following : st = .following
    · simp only [following, decide_true, Bool.true_and, decide_eq_true_eq] at notThird
      omega
    · rw [counts, if_neg following]
      exact misses

/-- With the change still in hand after a VOID the station is in play: nothing that VOID raises ends a load or a full start. -/
theorem inPlay_of_voided {p : PlayController} {f : Follower} (plays : p.state.plays = true)
    (inHand : (takeException .void none { s with play := p, follow := f }).follow.change.isSome = true) :
    (takeException .void none { s with play := p, follow := f }).inPlay = true := by
  have reached : Reaches False { s with play := p, follow := f } (takeException .void none { s with play := p, follow := f }) :=
    takeException_reaches (.refl _)
  rw [← plays_iff_inPlay]
  exact reached.keeps (fun _ _ => Move.changing) (fun _ => plays) inHand

theorem reportVoid_state (p : PlayController) : (reportVoid p).state = p.state := by
  unfold reportVoid
  split <;> rfl

theorem applyVoid_ranged {g : Gather} {st : PlayState} (h : Ranged most s) (plays : s.play.state.plays = true) :
    Ranged most (applyVoid g st s) := by
  have voided : Ranged most
      (takeException .void none { s with play := reportVoid s.play, follow := { s.follow with change := some .close } }) :=
    takeException_ranged ⟨h.confidence, h.misses, reportVoid_run_le s.play h.run, h.weights, h.maximum⟩
  have stillPlays : (reportVoid s.play).state.plays = true := reportVoid_state s.play ▸ plays
  unfold applyVoid
  dsimp only
  refine testExhausted_ranged (acceptClose_ranged (stage_ranged closeEnd_ranged ?_) fun _ within => within)
  refine ranged_ite (stage_ranged pop_ranged ?_) ?_ <;>
    exact stage_ranged_inHand (fun inHand => missCounted_ranged voided (inPlay_of_voided stillPlays inHand)) voided

theorem clusterAhead_ranged {c : Cluster} (h : Ranged most s) : Ranged most (clusterAhead c s) := by
  unfold clusterAhead
  split
  · exact acceptCluster_ranged (stage_ranged reportAnchor_ranged (slip_ranged h))
  · exact acceptCluster_ranged h

theorem clusterInHold_ranged {c : Cluster} (h : Ranged most s) : Ranged most (clusterInHold c s) := by
  have released := releaseSteps_ranged h
  unfold clusterInHold
  split
  · exact h
  · dsimp only
    split
    · exact acceptCluster_ranged (stage_ranged reportAnchor_ranged (stage_ranged slip_ranged released))
    · exact acceptCluster_ranged (stage_ranged reportAnchor_ranged released)

/-! ## Beats and holds (R71, R113 to R118, R139) -/

theorem rebase_ranged {beat : Nat} (h : Ranged most s) : Ranged most (rebase beat s) := by
  refine h.same ((noteEnd_tally _).trans ?_)
  exact congrArg (fun v : Tally => { v with confidence := s.follow.confidence, misses := s.follow.misses }) (beforeChange_tally s)

theorem sectionStage_ranged {beat : Nat} (h : Ranged most s) : Ranged most (sectionStage beat s) := by
  unfold sectionStage
  split
  · exact h
  · dsimp only
    split
    · exact writePeriod_ranged (h.withRun (Nat.zero_le 2))
    · exact h.withRun (Nat.zero_le 2)

theorem broadenStage_ranged {beat : Nat} (h : Ranged most s) : Ranged most (broadenStage beat s) := by
  have reached := h.same (reachBroaden_tally (24 * beat : Nat) s)
  exact ranged_ite (writePeriod_ranged reached) reached

theorem couplingStage_ranged {beat : Nat} (h : Ranged most s) : Ranged most (couplingStage beat s) :=
  ranged_ite h (stage_ranged writePeriod_ranged (takeExceptionIf_ranged h))

theorem pulseStage_ranged {beat : Nat} {time : Time} {code : Tempo} (h : Ranged most s) : Ranged most (pulseStage beat time code s) :=
  h.same (offerFrame_tally _ _ { s with follow.resyncPending := false })

theorem swellStage_ranged (h : Ranged most s) : Ranged most (swellStage s) := by
  unfold swellStage
  split <;> exact h

theorem beatStages_ranged {beat : Nat} (h : Ranged most s) : Ranged most (beatStages beat s) :=
  stage_ranged reportAnchor_ranged (stage_ranged swellStage_ranged (stage_ranged pulseStage_ranged
    (stage_ranged couplingStage_ranged (stage_ranged broadenStage_ranged (stage_ranged sectionStage_ranged (rebase_ranged h))))))

theorem takeHold_ranged {w : Watch} (h : Ranged most s) : Ranged most (takeHold w s) := by
  have withdrawn (u : GatherUnit) : (withdrawAfter w.point u).peers = u.peers := by
    unfold withdrawAfter
    dsimp only
    split <;> rfl
  have broadened : Ranged most (reachBroaden w.point { beforeChange s with follow.change := some .hold }) :=
    Ranged.same h ((reachBroaden_tally _ _).trans (beforeChange_tally s))
  unfold takeHold
  refine reportAnchor_ranged (Ranged.same (settleTable_ranged ?_) (settleWatch_tally _))
  exact Ranged.same (t := { reachBroaden _ _ with gather := _ }) broadened
    (congrArg (fun peers : Vector Peer 16 => { State.tally _ with peers := peers }) (withdrawn _))

/-! ## Start-up and cues (R62 to R70, R80, R198 to R202) -/

theorem endChecks_ranged (h : Ranged most s) : Ranged most (endChecks s) := ranged_ite (ranged_ite h h) h

theorem endFullStart_ranged (h : Ranged most s) : Ranged most (endFullStart s) := ranged_ite (enterSilenced_ranged h) h

theorem offerSelect_tally (s : State) : (offerSelect s).tally = s.tally := offerFrame_tally _ _ s

theorem takeSelect_ranged {n : Nat} (h : Ranged most s) : Ranged most (takeSelect n s) := by
  unfold takeSelect
  split <;> exact h

theorem takeStart_ranged {n : Nat} (h : Ranged most s) : Ranged most (takeStart n s) := by
  unfold takeStart
  split
  · exact ranged_ite h h
  · exact ranged_ite (playBegin_ranged h) h
  · exact h

theorem takeStop_ranged (h : Ranged most s) : Ranged most (takeStop s) := by
  unfold takeStop
  split
  · exact stopPlay_ranged h
  · exact stopPlay_ranged h
  · exact stopPlay_ranged h
  · exact h
  · exact ranged_ite (beginSeek_ranged h) h
  · exact ranged_ite h (ranged_ite (beginSeek_ranged h) h)
  all_goals exact h

theorem restartStation_ranged (h : Ranged most s) : Ranged most (restartStation s) := by
  have restarted : Ranged most (restarted s) := h.cleared
  exact ranged_ite (restarted.same (offerSelect_tally _)) restarted

theorem takeCue_ranged {c : Cue} {n : Nat} (h : Ranged most s) : Ranged most (takeCue c n s) := by
  cases c with
  | select => exact takeSelect_ranged h
  | start => exact takeStart_ranged h
  | stop => exact takeStop_ranged h
  | restart => exact ranged_ite h (restartStation_ranged h)

/-! ## The re-time pass and the channels (R154, R158, R159) -/

theorem endPass_ranged (h : Ranged most s) : Ranged most (endPass s) := by
  unfold endPass
  split
  · exact ranged_ite h h
  · exact h

theorem visitArmed_ranged {e : EntryNo} {c : ChannelNo} {a : Action} (h : Ranged most s) : Ranged most (visitArmed e c a s) :=
  ranged_ite (settleTable_ranged (fireAtOnce_ranged h)) (ranged_ite h (settleTable_ranged h))

theorem visit_ranged {e : EntryNo} (h : Ranged most s) : Ranged most (visit e s) := by
  unfold visit
  split
  · exact h
  · dsimp only
    split
    · exact settleTable_ranged (testEntry_ranged h)
    · exact visitArmed_ranged h
    · exact h

theorem applyExpired_ranged {c : ChannelNo} {e : EntryNo} {time : Time} (h : Ranged most s) : Ranged most (applyExpired c e time s) := by
  unfold applyExpired
  split
  · exact h
  · split
    · exact applyNoteOn_ranged h
    · exact h
    · exact h

/-! ## The output stage and the sound front end (R24, R32, R171 to R173, R200) -/

theorem latchFrame_ranged {frame returned : BitVec 96} (h : Ranged most s) : Ranged most (latchFrame frame returned s) := by
  have checked : Ranged most (returnCheck returned { s with out.frame := none }) := by
    unfold returnCheck
    split
    · exact ranged_ite h (ranged_ite (endChecks_ranged h) (endChecks_ranged (ranged_ite (raiseFault_ranged h) h)))
    · exact h
  exact checked

theorem assertionTaken_ranged (h : Ranged most s) : Ranged most (assertionTaken s) := by
  unfold assertionTaken
  split
  · exact h
  · exact h
  · exact Ranged.same (enterSilenced_ranged h) (offerFrame_tally _ _ _)

theorem handOn_ranged {o : Confirmed} (h : Ranged most s) : Ranged most (handOn o s) := by
  refine ranged_ite (Ranged.same ?_ (offerFrame_tally _ _ _)) h
  exact deliver_ranged h

theorem completeBlock_ranged {block : Block} (h : Ranged most s) : Ranged most (completeBlock block s) := by
  have passed (f : FrontEnd) : Ranged most (passSoundCheck { s with front := f }) := ranged_ite (endChecks_ranged h) h
  unfold completeBlock
  dsimp only
  split
  · exact handOn_ranged (passed _)
  · exact passed _

theorem takeSample_ranged {x : BitVec 16} {stamp : Time} (h : Ranged most s) : Ranged most (takeSample x stamp s) :=
  ranged_ite (completeBlock_ranged h) h

end Sys2Proof.Machine
end

section
namespace Sys2Proof.Machine

variable {most : Nat} {s t : State}

/-! ## The score store (R43 to R54) -/

theorem probe_ranged {hymn low high : Nat} (h : Ranged most s) : Ranged most (probe hymn low high s) := ranged_ite (loadFailed_ranged h) h

theorem takeDirectory_ranged {bytes : List Byte} (h : Ranged most s) : Ranged most (takeDirectory bytes s) := by
  unfold takeDirectory
  split
  · exact ranged_ite (loadFailed_ranged h) (probe_ranged h)
  · exact ranged_ite (loadFailed_ranged h) (ranged_ite h (ranged_ite (probe_ranged h) (probe_ranged h)))
  · exact h

theorem takeHeader_ranged {bytes : List Byte} (h : Ranged most s) : Ranged most (takeHeader bytes s) := by
  unfold takeHeader
  split
  · exact ranged_ite h (loadFailed_ranged h)
  · exact h

theorem takePlan_ranged {bytes : List Byte} (h : Ranged most s) : Ranged most (takePlan bytes s) := by
  unfold takePlan
  split
  · split
    · exact testPrimed_ranged (Ranged.same h (startReaders_tally 0 _))
    · exact loadFailed_ranged h
  · exact h

theorem markStep_ranged (h : Ranged most s) (turn : markStep s = some t) : Ranged most t := by
  unfold markStep at turn
  dsimp only at turn
  repeat' split at turn
  all_goals cases turn
  exacts [h, h, h, h, raiseFault_ranged h]

theorem runMarks_ranged (h : Ranged most s) : Ranged most (runMarks s) := by
  have settled : Ranged most (settleMarks (iterate markStep 40 s)) :=
    Ranged.same (iterate_invariant (fun _ _ => markStep_ranged) 40 h) (settleMarks_tally _)
  exact testPrimed_ranged (testExhausted_ranged (ranged_ite (rewatch_ranged settled) settled))

theorem takeMarkBlock_ranged {bytes : List Byte} (h : Ranged most s) : Ranged most (takeMarkBlock bytes s) :=
  ranged_ite (runMarks_ranged h) (runMarks_ranged (raiseFault_ranged h))

theorem noteStep_ranged (h : Ranged most s) (turn : noteStep s = some t) : Ranged most t := by
  unfold noteStep at turn
  split at turn
  · cases turn
  · dsimp only at turn
    split at turn
    · exact h.same (settleNotesStep_tally s t turn)
    · repeat' split at turn
      all_goals cases turn
      exacts [h, h, raiseFault_ranged h, h]

theorem runNotes_ranged (h : Ranged most s) : Ranged most (runNotes s) :=
  testPrimed_ranged (iterate_invariant (fun _ _ => noteStep_ranged) 60 h)

theorem takeNoteBlock_ranged {bytes : List Byte} (h : Ranged most s) : Ranged most (takeNoteBlock bytes s) :=
  ranged_ite (runNotes_ranged h) (runNotes_ranged (raiseFault_ranged h))

theorem insertNote_ranged (h : Ranged most s) : Ranged most (insertNote s) := by
  unfold insertNote
  split
  · exact runNotes_ranged (insertPair_ranged h)
  · exact h

theorem stopStep_ranged (h : Ranged most s) (turn : stopStep s = some t) : Ranged most t := by
  unfold stopStep at turn
  split at turn
  · cases turn
    exact insertStop_ranged h
  · cases turn

/-! ## Frames sent and received (R8 to R10, R17 to R20) -/

theorem returnClashed_ranged {f : QueuedFrame} (h : Ranged most s) : Ranged most (returnClashed f s) := by
  unfold returnClashed
  dsimp only
  split
  · exact (raiseFault_ranged h).same (faultFrameLeft_tally _ _)
  · split
    · exact h
    · exact Ranged.same h (faultFrameLeft_tally _ _)

theorem heardFrom_ranged {w : WireFrame} {k : ObsKind} {n : BitVec 8} (h : Ranged most s) : Ranged most (heardFrom w k n s) :=
  ranged_ite (takeException_ranged (hearPeer_ranged h)) (deliver_ranged (hearPeer_ranged h))

theorem pulseFrom_ranged {w : WireFrame} {f : PulseFields} (h : Ranged most s) : Ranged most (pulseFrom w f s) := by
  have heard := hearPeer_ranged (p := w.sender) h
  refine ranged_ite heard (testJoin_ranged ?_)
  exact heard.withPeers (weightsWithin_set heard.peers w.sender (heard.peers w.sender))

theorem takeHalt_ranged (h : Ranged most s) : Ranged most (takeHalt s) := ranged_ite h (enterSilenced_ranged h)

theorem cueFrom_ranged {w : WireFrame} {c : Cue} {n : Nat} (h : Ranged most s) : Ranged most (cueFrom w c n s) := by
  refine ranged_ite ?_ (takeCue_ranged (hearPeer_ranged h))
  split
  · exact takeCue_ranged h
  · exact h

theorem completeOwn_ranged {f : QueuedFrame} (h : Ranged most s) : Ranged most (completeOwn f s) := by
  unfold completeOwn
  split
  · exact takeCue_ranged h
  · exact h.same (faultFrameLeft_tally f s)
  · exact h

/-! ## The configuration read and the resets (R86, R194 to R196) -/

/-- The record read brings its own weight maximum, and the weights within it (R86). -/
theorem endConfiguration_ranged {c : Configuration} (h : Ranged most s) : Ranged c.weightMax (endConfiguration c s) := by
  refine ⟨h.confidence, h.misses, h.run, fun p => ?_, rfl⟩
  have peer : ((endConfiguration c s).gather.peers[p]).weight = min (s.gather.peers[p]).weight c.weightMax :=
    congrArg Peer.weight (mapVec_getElem _ s.gather.peers p)
  exact peer.trans_le (Nat.min_le_right _ _)

theorem configurationRead_ranged {bytes : List Byte} (h : Ranged most s) :
    ∃ least, Ranged least (endChecks (if sectionRaises bytes then raiseFault 5 (endConfiguration (sectionConfig bytes) s)
      else endConfiguration (sectionConfig bytes) s)) :=
  ⟨_, endChecks_ranged (ranged_ite (raiseFault_ranged (endConfiguration_ranged h)) (endConfiguration_ranged h))⟩

/-- The part started afresh has no count and no peer (R102, R146, R194). -/
theorem reset_within (maximum : Nat) : ({ State.reset.tally with weightMax := maximum } : Tally).Within maximum := by
  refine ⟨Nat.zero_le _, Nat.zero_le _, Nat.zero_le _, fun p => ?_, rfl⟩
  simp [State.reset, State.tally, GatherUnit.initial, Peer.absent]

/-! ## The commands -/

/-- An outcome whose next state has its tally in range, under the weight maximum in force then. -/
def AnswersRanged (o : Host.Outcome State Fault Refusal) : Prop := ∀ t, o = .next t → ∃ most, Ranged most t

theorem act_ranged {due : Bool} (h : Ranged most s) (effect : Ranged most s → Ranged most t) : AnswersRanged (act s due t) := by
  intro u e
  rcases act_cases e with ⟨-, rfl⟩ | ⟨-, rfl⟩
  · exact ⟨most, effect h⟩
  · exact ⟨most, h⟩

theorem act_false_ranged (h : Ranged most s) (t : State) : AnswersRanged (act s false t) := by
  rintro u ⟨⟩
  exact ⟨most, h⟩

theorem completeRead_ranged {units : List FlashUnit} {bytes : List Byte} {use : State → State} (h : Ranged most s)
    (effect : ∀ {u}, Ranged most u → Ranged most (use u)) : AnswersRanged (completeRead units bytes use s) :=
  act_ranged h fun h => ranged_ite h (effect h)

theorem receiveCue_ranged {c : Cue} {bytes : List Byte} (h : Ranged most s) : AnswersRanged (receiveCue c bytes s) := by
  unfold receiveCue
  split
  · split
    · exact act_ranged h fun h => cueFrom_ranged h
    · exact act_false_ranged h s
  · exact act_false_ranged h s

theorem execConfigurationSectionRead_ranged (bytes : List Byte) (h : Ranged most s) :
    AnswersRanged (execConfigurationSectionRead bytes s) := by
  intro u e
  rcases act_cases e with ⟨-, rfl⟩ | ⟨-, rfl⟩
  · split
    · exact configurationRead_ranged h
    · exact ⟨most, h⟩
  · exact ⟨most, h⟩

theorem execFrameClash_ranged (bit : Nat) (level : Bool) (h : Ranged most s) : AnswersRanged (execFrameClash bit level s) := by
  unfold execFrameClash
  split
  · exact act_false_ranged h s
  · exact act_ranged h fun h => returnClashed_ranged h

theorem execFrameComplete_ranged (h : Ranged most s) : AnswersRanged (execFrameComplete s) := by
  unfold execFrameComplete
  split
  · exact act_false_ranged h s
  · exact act_ranged h fun h => completeOwn_ranged h

theorem execInvalidFrame_ranged (bytes : List Byte) (broken : List Bool) (h : Ranged most s) : AnswersRanged (execInvalidFrame bytes broken s) := by
  unfold execInvalidFrame
  split
  · exact act_false_ranged h s
  all_goals exact act_ranged h fun h => h

theorem execDuplicate_ranged (bytes : List Byte) (h : Ranged most s) : AnswersRanged (execDuplicate bytes s) := by
  unfold execDuplicate
  split
  · exact act_ranged h fun h => raiseFault_ranged h
  · exact act_false_ranged h s

theorem execHeardReceived_ranged (bytes : List Byte) (h : Ranged most s) : AnswersRanged (execHeardReceived bytes s) := by
  unfold execHeardReceived
  split
  · split
    · exact act_ranged h fun h => ranged_ite h (heardFrom_ranged h)
    · exact act_false_ranged h s
  · exact act_false_ranged h s

theorem execPulseReceived_ranged (bytes : List Byte) (h : Ranged most s) : AnswersRanged (execPulseReceived bytes s) := by
  unfold execPulseReceived
  split
  · split
    · exact act_ranged h fun h => ranged_ite h (pulseFrom_ranged h)
    · exact act_false_ranged h s
  · exact act_false_ranged h s

theorem execHaltReceived_ranged (bytes : List Byte) (h : Ranged most s) : AnswersRanged (execHaltReceived bytes s) := by
  unfold execHaltReceived
  split
  · split
    · exact act_ranged h fun h => ranged_ite h (takeHalt_ranged (hearPeer_ranged h))
    · exact act_false_ranged h s
  · exact act_false_ranged h s

theorem execFaultReceived_ranged (bytes : List Byte) (h : Ranged most s) : AnswersRanged (execFaultReceived bytes s) := by
  unfold execFaultReceived
  split
  · split
    · exact act_ranged h fun h => ranged_ite h (hearPeer_ranged h)
    · exact act_false_ranged h s
  · exact act_false_ranged h s

theorem execPeerAbsenceExpiry_ranged (p : Station) (h : Ranged most s) : AnswersRanged (execPeerAbsenceExpiry p s) :=
  act_ranged h fun h => h.withPeers (weightsWithin_set h.peers p (h.peers p))

theorem execJoinCountComplete_ranged (h : Ranged most s) : AnswersRanged (execJoinCountComplete s) :=
  act_ranged h fun h => ranged_ite (endFullStart_ranged h) h

theorem execSampleTaken_ranged (edges : List SoundEdge) (ago : Nat) (h : Ranged most s) : AnswersRanged (execSampleTaken edges ago s) := by
  unfold execSampleTaken
  split
  · exact act_false_ranged h s
  · exact act_ranged h fun h => takeSample_ranged h

theorem execValveFrameLatch_ranged (returned : BitVec 96) (h : Ranged most s) : AnswersRanged (execValveFrameLatch returned s) := by
  unfold execValveFrameLatch
  split
  · exact act_ranged h fun h => latchFrame_ranged h
  · exact act_false_ranged h s

theorem execBothHeldRestart_ranged (h : Ranged most s) : AnswersRanged (execBothHeldRestart s) :=
  act_ranged h fun h => ranged_ite (restartStation_ranged h) (Ranged.same h (offerFrame_tally _ _ _))

theorem execOnsetTaken_ranged (h : Ranged most s) : AnswersRanged (execOnsetTaken s) := by
  unfold execOnsetTaken
  split
  · exact act_ranged h fun h => judgeOnset_ranged h
  · exact act_false_ranged h s

theorem execReleaseTaken_ranged (h : Ranged most s) : AnswersRanged (execReleaseTaken s) := by
  unfold execReleaseTaken
  split
  · exact act_ranged h fun h => ranged_ite h h
  · exact act_false_ranged h s

theorem execGatherOpen_ranged (h : Ranged most s) : AnswersRanged (execGatherOpen s) := by
  unfold execGatherOpen
  split
  · refine act_ranged h fun h => ?_
    split
    · exact ranged_ite h h
    · exact h
  · exact act_false_ranged h s

theorem execGatherCloseExpiry_ranged (which : Fin 2) (h : Ranged most s) : AnswersRanged (execGatherCloseExpiry which s) := by
  unfold execGatherCloseExpiry
  split
  · exact act_ranged h fun h => h
  · exact act_false_ranged h s

theorem execGatherCloseTaken_ranged (h : Ranged most s) : AnswersRanged (execGatherCloseTaken s) := by
  unfold execGatherCloseTaken
  split
  · intro u e
    rcases act_cases e with ⟨inPlay, rfl⟩ | ⟨-, rfl⟩
    · exact ⟨most, ranged_ite (applyMatched_ranged h) (applyVoid_ranged h ((plays_iff_inPlay s).trans inPlay))⟩
    · exact ⟨most, h⟩
  · exact act_false_ranged h s

theorem execClusterTaken_ranged (h : Ranged most s) : AnswersRanged (execClusterTaken s) := by
  unfold execClusterTaken
  split
  · exact act_ranged h fun h => ranged_ite (clusterInHold_ranged h) (clusterAhead_ranged h)
  · exact act_false_ranged h s

theorem execBeatEvent_ranged (h : Ranged most s) : AnswersRanged (execBeatEvent s) := by
  unfold execBeatEvent
  split
  · exact act_ranged h fun h => beatStages_ranged h
  · exact act_false_ranged h s

theorem execBroadenMarkReached_ranged (h : Ranged most s) : AnswersRanged (execBroadenMarkReached s) := by
  unfold execBroadenMarkReached
  split
  · exact act_ranged h fun h => h.same (reachBroaden_tally _ s)
  · exact act_false_ranged h s

theorem execHoldPointReached_ranged (h : Ranged most s) : AnswersRanged (execHoldPointReached s) := by
  unfold execHoldPointReached
  split
  · exact act_ranged h fun h => takeHold_ranged h
  · exact act_false_ranged h s

theorem execHoldLimitExpiry_ranged (h : Ranged most s) : AnswersRanged (execHoldLimitExpiry s) := by
  unfold execHoldLimitExpiry
  split
  · exact act_ranged h fun h => h
  · exact act_false_ranged h s

theorem execHoldRelease_ranged (h : Ranged most s) : AnswersRanged (execHoldRelease s) := by
  unfold execHoldRelease
  split
  · exact act_ranged h fun h => stage_ranged reportAnchor_ranged (releaseSteps_ranged h)
  · exact act_false_ranged h s

theorem execRetimeVisit_ranged (h : Ranged most s) : AnswersRanged (execRetimeVisit s) := by
  unfold execRetimeVisit
  split
  · exact act_false_ranged h s
  · refine act_ranged h fun h => ?_
    split
    · exact endPass_ranged (visit_ranged h)
    · exact h

theorem execChannelExpiry_ranged (channel : ChannelNo) (h : Ranged most s) : AnswersRanged (execChannelExpiry channel s) := by
  unfold execChannelExpiry
  split
  · exact act_ranged h fun h => settleTable_ranged (applyExpired_ranged h)
  · exact act_false_ranged h s

theorem execStopPulseEnd_ranged (channel : ChannelNo) (h : Ranged most s) : AnswersRanged (execStopPulseEnd channel s) := by
  unfold execStopPulseEnd
  split
  · exact act_ranged h fun h => settleTable_ranged h
  · exact act_false_ranged h s

/-- Every command keeps the tally in range. The commands stand in groups: those that leave the tally alone, the resets, the flash reads, the
frames sent and received, start-up, and those whose effect is a shared operation. -/
theorem exec_ranged (c : Instr) (h : Ranged most s) : AnswersRanged (exec c s) := by
  cases c with
  | valveFrameStart | cutoffPinChange _ | cutoffReleaseEdge | pwmPeriodStart | frameMark _ | syncMarkRejected _ | lineReleasedHigh
  | offPulsesEnd | lineQuiet _ => exact act_ranged h fun h => h
  | coilRelease _ coil =>
    refine act_ranged h fun h => ?_
    cases coil <;> exact h
  | resetAsserted | fullStart _ =>
    rintro t ⟨⟩
    exact ⟨_, reset_within _⟩
  | configurationSectionRead bytes => exact execConfigurationSectionRead_ranged bytes h
  | soundCheckTimeout => exact act_ranged h fun h => endChecks_ranged (ranged_ite h (raiseFault_ranged h))
  | joinCountComplete => exact execJoinCountComplete_ranged h
  | lineHeldLow _ => exact act_ranged h fun h => ranged_ite h (raiseFault_ranged h)
  | directoryRead _ => exact completeRead_ranged h takeDirectory_ranged
  | headerRead _ => exact completeRead_ranged h takeHeader_ranged
  | versePlanRead _ => exact completeRead_ranged h takePlan_ranged
  | markBlockRead _ => exact completeRead_ranged h takeMarkBlock_ranged
  | noteBlockRead _ => exact completeRead_ranged h takeNoteBlock_ranged
  | select _ | start _ | stop _ | restart _ => exact receiveCue_ranged h
  | syncMarkBegin =>
    refine act_ranged h fun h => ?_
    split <;> exact h
  | frameClash bit level => exact execFrameClash_ranged bit level h
  | frameComplete => exact execFrameComplete_ranged h
  | heardReceived bytes => exact execHeardReceived_ranged bytes h
  | pulseReceived bytes => exact execPulseReceived_ranged bytes h
  | haltReceived bytes => exact execHaltReceived_ranged bytes h
  | faultReceived bytes => exact execFaultReceived_ranged bytes h
  | invalidFrame bytes broken => exact execInvalidFrame_ranged bytes broken h
  | duplicate bytes => exact execDuplicate_ranged bytes h
  | peerAbsenceExpiry p => exact execPeerAbsenceExpiry_ranged p h
  | sampleTaken edges ago => exact execSampleTaken_ranged edges ago h
  | soundInputLost => exact act_ranged h fun h => ranged_ite h (raiseFault_ranged h)
  | valveFrameLatch returned => exact execValveFrameLatch_ranged returned h
  | assertionEdge => exact act_ranged h fun h => assertionTaken_ranged h
  | hymnNumberStable => exact act_ranged h fun h => h.same (offerSelect_tally s)
  | buttonPressEdge _ => exact act_ranged h fun h => ranged_ite (ranged_ite h h) (Ranged.same h (offerFrame_tally _ _ _))
  | bothHeldRestart => exact execBothHeldRestart_ranged h
  | debouncedLevelChange _ => exact act_ranged h fun h => ranged_ite h (ranged_ite h h)
  | markAppend => exact act_ranged h fun h => runMarks_ranged h
  | notePairInsert => exact act_ranged h fun h => insertNote_ranged h
  | stopActionInsert => exact act_ranged h fun h => runNotes_ranged (iterate_invariant (fun _ _ => stopStep_ranged) 16 h)
  | endOfScore => exact act_ranged h fun h => testHymnEnd_ranged h
  | onsetTaken => exact execOnsetTaken_ranged h
  | releaseTaken => exact execReleaseTaken_ranged h
  | gatherOpen => exact execGatherOpen_ranged h
  | gatherCloseExpiry which => exact execGatherCloseExpiry_ranged which h
  | gatherCloseTaken => exact execGatherCloseTaken_ranged h
  | clusterTaken => exact execClusterTaken_ranged h
  | beatEvent => exact execBeatEvent_ranged h
  | broadenMarkReached => exact execBroadenMarkReached_ranged h
  | holdPointReached => exact execHoldPointReached_ranged h
  | holdLimitExpiry => exact execHoldLimitExpiry_ranged h
  | holdRelease => exact execHoldRelease_ranged h
  | retimeVisit => exact execRetimeVisit_ranged h
  | actionArm _ => exact act_ranged h fun h => settleTable_ranged h
  | dueTimePassedWaiting _ => exact act_ranged h fun h => settleTable_ranged (testEntry_ranged h)
  | channelExpiry channel => exact execChannelExpiry_ranged channel h
  | stopPulseEnd channel => exact execStopPulseEnd_ranged channel h

theorem bitTime_ranged (h : Ranged most s) : Ranged most (bitTime s) := by
  unfold bitTime sampleCutoff takeCutoffSample
  dsimp only
  repeat' split
  all_goals exact h

theorem step_ranged (h : Ranged most s) : AnswersRanged (step s) := by
  intro t e
  unfold step at e
  split at e
  · rename_i c rest _
    exact exec_ranged c (s := { s with pending := rest }) h t e
  · cases e
    exact ⟨most, bitTime_ranged h⟩

/-- The two invariants of the model, taken together, say that the tally is in range. -/
theorem counts_and_weights_iff (s : State) : (s.countsInRange && s.weightsInRange) = true ↔ Ranged s.cfg.weightMax s := by
  rw [Bool.and_eq_true, State.weightsInRange, all_toList_iff]
  simp only [State.countsInRange, Bool.and_eq_true, decide_eq_true_eq]
  exact ⟨fun ⟨⟨⟨confidence, misses⟩, run⟩, weights⟩ => ⟨confidence, misses, run, weights, rfl⟩,
    fun ⟨confidence, misses, run, weights, _⟩ => ⟨⟨⟨confidence, misses⟩, run⟩, weights⟩⟩

end Sys2Proof.Machine
end

section

open Sys2Proof Sys2Proof.Machine

/-- Settles O12: every operation leaves the tally alone, clears its counts, or moves them within their ranges; the one count that passes its
range within a command, a third miss, is cleared by the exception it raises. -/
theorem countsAndWeightsStayInRange : Obligations.CountsAndWeightsStayInRange := by
  unfold Obligations.CountsAndWeightsStayInRange
  intro s t inRange next
  obtain ⟨most, ranged⟩ := step_ranged ((counts_and_weights_iff s).1 inRange) t next
  exact (counts_and_weights_iff t).2 (ranged.weightMax.symm ▸ ranged)

end

section
/-! The cue port's offers: SELECT, the buttons' cues, and RESTART from both buttons held (R62 to R64). -/

namespace Sys2Proof.Machine

/-- A station that is not HALTED queues what it is offered (R21). -/
theorem offerFrame_of_awake {body : FrameBody} {time : Time} {s : State} (awake : s.isHalted = false) :
    offerFrame body time s = { s with line.queue := (enqueue s.line.queue ⟨body, time, 0, 0⟩).1 } := if_neg (ne_true_of_eq_false awake)

theorem offerFrame_of_halted {body : FrameBody} {time : Time} {s : State} (halted : s.isHalted = true) : offerFrame body time s = s :=
  if_pos halted

/-! ## SELECT (R62) -/

theorem selectDue_iff (s : State) :
    selectDue s = true ↔
      s.configured = true ∧ s.isHalted = false ∧ s.cue.settled = true ∧ s.cue.number ≠ 0 ∧ s.cue.number ≠ s.cue.lastSent ∧
        2500 ≤ since s.now s.cue.changedAt := by
  simp [selectDue, and_assoc]

theorem offerSelect_of_awake {s : State} (awake : s.isHalted = false) :
    offerSelect s =
      { s with line.queue := (enqueue s.line.queue ⟨.cue .select s.cue.number, 0, 0, 0⟩).1, cue.lastSent := s.cue.number } :=
  congrArg (fun u : State => { u with cue.lastSent := s.cue.number }) (offerFrame_of_awake awake)

theorem hymnNumberStable_of_stable {s : State} (due : selectDue s = true) :
    exec .hymnNumberStable s =
      .next { s with line.queue := (enqueue s.line.queue ⟨.cue .select s.cue.number, 0, 0, 0⟩).1, cue.lastSent := s.cue.number } :=
  (act_of_due due).trans (congrArg _ (offerSelect_of_awake ((selectDue_iff s).1 due).2.1))

/-- The number 0, and the number sent last, are not offered (R62). -/
theorem hymnNumberStable_of_sent {s : State} (sent : s.cue.number = 0 ∨ s.cue.number = s.cue.lastSent) :
    exec .hymnNumberStable s = .next s := by
  refine act_of_not_due (Bool.eq_false_iff.2 fun due => ?_)
  obtain ⟨-, -, -, nonzero, unsent, -⟩ := (selectDue_iff s).1 due
  exact sent.elim nonzero unsent

/-! ## The buttons (R63) -/

theorem clearEdge_number (b : Button) (c : CuePort) : (c.clearEdge b).number = c.number := by cases b <;> rfl

section
variable {b : Button} {s : State} (configured : s.configured = true) (edge : s.cue.edge b = true)
include configured edge

theorem buttonPressEdge_alone (awake : s.isHalted = false) (alone : s.cue.pressed (Button.other b) = false) :
    execButtonPressEdge b s =
      .next
        { s with
          line.queue := (enqueue s.line.queue ⟨.cue (Button.cue b) s.cue.number, 0, 0, 0⟩).1, cue := s.cue.clearEdge b } := by
  refine (act_of_due (by rw [configured, edge]; rfl)).trans (congrArg _ ?_)
  dsimp only
  rw [alone, if_neg Bool.false_ne_true, offerCue, clearEdge_number]
  exact offerFrame_of_awake (s := { s with cue := s.cue.clearEdge b }) awake

theorem buttonPressEdge_halted (halted : s.isHalted = true) (alone : s.cue.pressed (Button.other b) = false) :
    execButtonPressEdge b s = .next { s with cue := s.cue.clearEdge b } := by
  refine (act_of_due (by rw [configured, edge]; rfl)).trans (congrArg _ ?_)
  dsimp only
  rw [alone, if_neg Bool.false_ne_true]
  exact offerFrame_of_halted (s := { s with cue := s.cue.clearEdge b }) halted

theorem buttonPressEdge_both (both : s.cue.pressed (Button.other b) = true) (begins : s.cue.bothHeld = none) :
    execButtonPressEdge b s =
      .next { s with cue := { s.cue.clearEdge b with bothHeld := some s.now, bothSent := false } } := by
  refine (act_of_due (by rw [configured, edge]; rfl)).trans (congrArg _ ?_)
  dsimp only
  rw [both, if_pos rfl, begins]
  rfl

end

/-! ## RESTART (R63, R64, R70) -/

/-- Both buttons held for 20,000 ticks: RESTART offered, or on a HALTED station taken at once. -/
theorem bothHeldRestart_of_held {s : State} {t : Time} (configured : s.configured = true) (held : s.cue.bothHeld = some t)
    (long : 20000 ≤ since s.now t) (unsent : s.cue.bothSent = false) :
    execBothHeldRestart s =
      .next
        (if s.isHalted then restartStation { s with cue.bothSent := true } else offerCue .restart { s with cue.bothSent := true }) :=
  act_of_due (by simp [configured, held, unsent, long])

theorem bothHeldRestart_of_sent {s : State} (sent : s.cue.bothSent = true) : execBothHeldRestart s = .next s :=
  act_of_not_due (by simp [sent])

/-- RESTART with or without the offer of a number that stands: IDLE, the latches clear; out of HALTED the line is joined afresh (R12, R70). -/
theorem restartStation_of_halted {s : State} (halted : s.isHalted = true) :
    (restartStation s).play.state = .idle ∧ (restartStation s).line.transmitter = .joining ∧ (restartStation s).line.joinTime = some 0 ∧
      (restartStation s).fault.latches = 0 ∧ (restartStation s).cue.bothSent = s.cue.bothSent := by
  have line : (restarted s).line = restartLine true s.line := congrArg (restartLine · s.line) halted
  have fresh : (restarted s).line.transmitter = .joining ∧ (restarted s).line.joinTime = some 0 := by rw [line]; exact ⟨rfl, rfl⟩
  unfold restartStation
  dsimp only
  split
  · rw [offerSelect_of_awake (s := restarted s) rfl]
    exact ⟨rfl, fresh.1, fresh.2, rfl, rfl⟩
  · exact ⟨rfl, fresh.1, fresh.2, rfl, rfl⟩

end Sys2Proof.Machine
end

section

open Sys2Proof Sys2Proof.Machine

/-- Settles O33: a number that stands, a button alone or with the other, and both buttons held. -/
theorem cuePortOffers : Obligations.CuePortOffers := by
  unfold Obligations.CuePortOffers
  intro s configured n offered
  refine ⟨fun awake settled nonzero unsent stable => ?_, hymnNumberStable_of_sent,
    fun awake edge alone => buttonPressEdge_alone (b := .start) configured edge awake alone,
    fun awake edge alone => buttonPressEdge_alone (b := .stop) configured edge awake alone,
    fun halted edge alone => buttonPressEdge_halted (b := .start) configured edge halted alone,
    fun edge both begins => buttonPressEdge_both (b := .start) configured edge both begins,
    fun edge both begins => buttonPressEdge_both (b := .stop) configured edge both begins,
    fun t held long => ⟨fun awake unsent => ?_, bothHeldRestart_of_sent, fun halted unsent => ?_⟩⟩
  · exact hymnNumberStable_of_stable ((selectDue_iff s).2 ⟨configured, awake, settled, nonzero, unsent, stable⟩)
  · refine (bothHeldRestart_of_held configured held long unsent).trans (congrArg _ ?_)
    rw [if_neg (ne_true_of_eq_false awake)]
    exact offerFrame_of_awake (s := { s with cue.bothSent := true }) awake
  · refine ⟨_, (bothHeldRestart_of_held configured held long unsent).trans (congrArg _ (if_pos halted)), ?_⟩
    exact restartStation_of_halted (s := { s with cue.bothSent := true }) halted

end

section
/-! The coils and the cutoff input (R79, R80, R172 to R174): the third sample that differs, and the HALT of an assertion. -/

namespace Sys2Proof.Machine

/-! ## The third sample that differs (R172) -/

/-- The conditions of an edge of the debounced cutoff state toward a level. -/
theorem thirdDiffers_of {s : State} {level : Bool} (running : s.running = true) (settled : s.out.cutoff.settled = true)
    (third : s.out.cutoff.differing = 2) (due : 10 ≤ since s.now s.out.cutoff.sampledAt) (was : s.out.cutoff.asserted = !level)
    (pin : s.out.cutoff.pin = level) : thirdDiffers s level = true := by
  simp [thirdDiffers, running, settled, third, due, was, pin]

/-! ## The HALT of an assertion (R16, R173) -/

/-- A HALT offered to a queue with room and no HALT goes to its head (R16). -/
theorem enqueue_halt {q : List QueuedFrame} {time : Time} {clashes tag : Nat} (room : q.length < 8) (none : ∀ f ∈ q, f.body ≠ .halt) :
    (enqueue q ⟨.halt, time, clashes, tag⟩).1 = ⟨.halt, time, clashes, tag⟩ :: q := by
  have absent : q.any QueuedFrame.isHalt = false :=
    List.any_eq_false.2 fun f mem halt => none f mem ((isHalt_iff f).1 halt)
  have isHalt : QueuedFrame.isHalt ⟨.halt, time, clashes, tag⟩ = true := rfl
  have free : makeRoom q = some q := if_pos room
  simp [enqueue, isHalt, absent, free]

theorem assertionTaken_of_idle {s : State} (state : s.play.state = .starting ∨ s.play.state = .halted) : assertionTaken s = s := by
  rcases state with state | state <;> simp only [assertionTaken, state]

theorem assertionTaken_of_awake {s : State} (started : s.play.state ≠ .starting) (awake : s.play.state ≠ .halted) :
    assertionTaken s = offerFrame .halt 0 (enterSilenced s) := by
  unfold assertionTaken
  split
  · exact absurd ‹_› started
  · exact absurd ‹_› awake
  · rfl

/-! ## The valve image under the cutoff (R169, R172) -/

theorem bitsToNat_of_clear (bits : List Bool) (clear : ∀ b ∈ bits, b = false) : bitsToNat bits = 0 := by
  induction bits with
  | nil => rfl
  | cons b bits ih =>
    have tail := ih fun c mem => clear c (List.mem_cons_of_mem b mem)
    rw [bitsToNat] at tail ⊢
    rw [List.foldr_cons, tail, clear b List.mem_cons_self]
    rfl

theorem coilImage_dead (coils : Vector (Option Time) 16) : coilImage false coils = 0 := by
  rw [coilImage, bitsToNat_of_clear _ (by simp)]
  rfl

/-- With the cutoff asserted no key and no coil of the valve image is set. -/
theorem valveImage_of_asserted {s : State} (asserted : s.out.cutoff.asserted = true) : s.valveImage = 0 := by
  have keys : s.keyImage = 0 := by
    rw [State.keyImage, bitsToNat_of_clear _ (by simp [State.keysLive, asserted])]
    rfl
  have coils (v : Vector (Option Time) 16) : coilImage (!s.out.cutoff.asserted) v = 0 := by
    rw [asserted]
    exact coilImage_dead v
  rw [State.valveImage, keys, coils, coils]
  rfl

end Sys2Proof.Machine
end

section

open Sys2Proof Sys2Proof.Machine

/-- Settles O58: the coil outputs by their release times, and the cutoff pin by its third differing sample. -/
theorem coilsAndCutoff : Obligations.CoilsAndCutoff := by
  unfold Obligations.CoilsAndCutoff
  intro s
  refine ⟨fun stop t set past => act_of_due ?_, fun stop t set past => act_of_due ?_, fun level => rfl,
    fun running settled third due => ⟨fun was pin => act_of_due (thirdDiffers_of running settled third due was pin), fun was pin => ?_⟩⟩
  · simp [coilRelease, set, reached, past]
  · simp [coilRelease, set, reached, past]
  have edge : exec .assertionEdge s = .next (assertionTaken (setCutoff true s)) :=
    act_of_due (thirdDiffers_of running settled third due was pin)
  refine ⟨fun state => edge.trans (congrArg _ (assertionTaken_of_idle (s := setCutoff true s) state)),
    fun started awake room none => ?_⟩
  have halt : offerFrame .halt 0 (enterSilenced (setCutoff true s)) =
      { enterSilenced (setCutoff true s) with line := { s.line with queue := ⟨.halt, 0, 0, 0⟩ :: s.line.queue } } :=
    (offerFrame_of_awake (s := enterSilenced (setCutoff true s)) rfl).trans
      (congrArg (fun q => { enterSilenced (setCutoff true s) with line := { s.line with queue := q } }) (enqueue_halt room none))
  have taken := (assertionTaken_of_awake (s := setCutoff true s) started awake).trans halt
  refine ⟨_, edge.trans (congrArg _ taken), rfl, rfl, rfl, enterSilenced_mutedEmpty (setCutoff true s), fun i => ?_, rfl, rfl⟩
  rw [valveImage_of_asserted (by rfl)]
  exact BitVec.getLsbD_zero

end

section
/-! RESTART taken from a peer (R23, R62, R65, R70, R181, R202, R203). -/

namespace Sys2Proof.Machine

/-- Whether a station that restarts offers the number on its panel at once (R62, R70). -/
def State.panelStands (s : State) : Bool :=
  s.configured && s.cue.settled && s.cue.number != 0 && decide (2500 ≤ since s.now s.cue.changedAt)

/-- After RESTART no number is the last one sent, and the station is not HALTED, so a number that stands is due (R62). -/
theorem selectDue_restarted (s : State) : selectDue (restarted s) = s.panelStands := by
  have idle : (restarted s).isHalted = false := rfl
  have fields : (restarted s).cue = { s.cue with lastSent := 0 } := rfl
  have number : CuePort.number { s.cue with lastSent := 0 } = s.cue.number := rfl
  have configured : (restarted s).configured = s.configured := rfl
  have now : (restarted s).now = s.now := rfl
  rw [selectDue, State.panelStands, idle, fields, number, configured, now]
  simp [Bool.and_assoc]

/-- The line at RESTART, out of HALTED or not (R12, R21). -/
theorem restartLine_eq (halted : Bool) (l : LineInterface) :
    restartLine halted l =
      { l with
        queue := [], onLine := none, transmitter := if halted then .joining else l.transmitter
        joinTime := if halted then some 0 else l.joinTime } := by
  cases halted <;> rfl

/-- RESTART with the number that stands offered to the queue it has emptied (R62, R70). -/
theorem restartStation_eq (s : State) :
    restartStation s =
      { restarted s with
        line :=
          { s.line with
            queue := if s.panelStands then [⟨.cue .select s.cue.number, 0, 0, 0⟩] else []
            onLine := none, transmitter := if s.isHalted then .joining else s.line.transmitter
            joinTime := if s.isHalted then some 0 else s.line.joinTime }
        cue.lastSent := if s.panelStands then s.cue.number else 0 } := by
  have line : (restarted s).line = _ := restartLine_eq s.isHalted s.line
  unfold restartStation
  dsimp only
  rw [selectDue_restarted]
  cases s.panelStands with
  | false =>
    refine (if_neg Bool.false_ne_true).trans ?_
    exact congrArg (fun l : LineInterface => { restarted s with line := l }) line
  | true =>
    refine (if_pos rfl).trans ((offerSelect_of_awake (s := restarted s) rfl).trans ?_)
    rw [line]
    rfl

theorem takeCue_restart {n : Nat} {s : State} (started : s.play.state ≠ .starting) : takeCue .restart n s = restartStation s := if_neg started

/-- A peer's RESTART out of HALTED, with the sender's entry as it was (R19, R86, log 29). -/
theorem receiveRestart_of_halted {bytes : List Byte} {p : Station} {n : Nat} {s : State} (heard : s.hearsCue bytes p .restart n)
    (halted : s.isHalted = true) : receiveCue .restart bytes s = .next (takeCue .restart n (endOfFrame bytes s)) := by
  obtain ⟨running, off, framing, judged, other⟩ := heard
  rw [receiveCue_of_frame (peerFrame_of_valid (receiving_of running off framing) judged other) rfl]
  exact congrArg Host.Outcome.next (if_pos halted)

end Sys2Proof.Machine
end

section

open Sys2Proof Sys2Proof.Machine

/-- Settles O38: RESTART out of HALTED and elsewhere, with the panel's number offered when it stands. -/
theorem restartReturnsToIdle : Obligations.RestartReturnsToIdle := by
  unfold Obligations.RestartReturnsToIdle
  intro bytes p n s heard panel stands gather
  refine ⟨fun started => ?_, fun starting => ?_⟩
  · cases halted : s.isHalted with
    | true =>
      have kept : gather = s.gather := if_pos halted
      have taken := (takeCue_restart (n := n) (s := endOfFrame bytes s) started).trans (restartStation_eq _)
      rw [kept]
      refine (receiveRestart_of_halted heard halted).trans (congrArg _ (taken.trans ?_))
      have still : (endOfFrame bytes s).isHalted = true := halted
      rw [restarted, still]
      rfl
    | false =>
      have updated : gather = (s.afterFrameFrom bytes p).gather := if_neg (ne_true_of_eq_false halted)
      have taken := (takeCue_restart (n := n) (s := s.afterFrameFrom bytes p) started).trans (restartStation_eq _)
      rw [updated]
      refine (receiveCue_of_heard heard halted).trans (congrArg _ (taken.trans ?_))
      have still : (s.afterFrameFrom bytes p).isHalted = false := halted
      rw [restarted, still]
      rfl
  · have awake : s.isHalted = false := by simp [State.isHalted, starting]
    exact (receiveCue_of_heard heard awake).trans (congrArg _ (if_pos starting))

end

section
/-! One sample of the twelve cue lines (R61 to R63): each line's run and level, and what the levels make of the rest of the cue port. -/

namespace Sys2Proof.Machine

/-! ## Bits of a list (R204) -/

theorem testBit_bitsToNat (bits : List Bool) (i : Nat) : (bitsToNat bits).testBit i = bits.getD i false := by
  induction bits generalizing i with
  | nil => exact Nat.zero_testBit i
  | cons b bits ih =>
    have number : bitsToNat (b :: bits) = 2 * bitsToNat bits + b.toNat := rfl
    have low : b.toNat < 2 := by cases b <;> decide
    cases i with
    | zero =>
      rw [number, Nat.testBit_zero, List.getD_cons_zero]
      cases b <;> simp
    | succ i =>
      have half : (2 * bitsToNat bits + b.toNat) / 2 = bitsToNat bits := by omega
      rw [number, Nat.testBit_succ, half, ih, List.getD_cons_succ]

/-- Bit `i` of the number that the answers of a test on the bit numbers spell. -/
theorem getLsbD_ofNat_bitsToNat {w : Nat} (test : Fin w → Bool) (i : Fin w) :
    (BitVec.ofNat w (bitsToNat ((List.finRange w).map test))).getLsbD i = test i := by
  rw [BitVec.getLsbD_ofNat, testBit_bitsToNat]
  simp

/-! ## A sample of the lines (R61) -/

/-- Whether a sample differs from a line's level. -/
def CuePort.differs (c : CuePort) (lines : BitVec 12) (i : Fin 12) : Bool := lines.getLsbD i != c.levels.getLsbD i

theorem changedLines_getLsbD (c : CuePort) (lines : BitVec 12) (i : Fin 12) :
    (changedLines c lines).getLsbD i = decide (3 ≤ nextRun c.runs[i] (c.differs lines i)) :=
  getLsbD_ofNat_bitsToNat (fun i => decide (3 ≤ nextRun c.runs[i] (lines.getLsbD i != c.levels.getLsbD i))) i

theorem sampleSettled_getLsbD (lines : BitVec 12) (now : Time) (c : CuePort) (i : Fin 12) :
    (sampleSettled lines now c).levels.getLsbD i = (c.levels.getLsbD i ^^ decide (3 ≤ nextRun c.runs[i] (c.differs lines i))) := by
  rw [← changedLines_getLsbD, ← BitVec.getLsbD_xor]
  rfl

theorem sampleSettled_runs (lines : BitVec 12) (now : Time) (c : CuePort) (i : Fin 12) :
    (sampleSettled lines now c).runs[i] =
      if 3 ≤ nextRun c.runs[i] (c.differs lines i) then 0 else nextRun c.runs[i] (c.differs lines i) := by
  have runs : (sampleSettled lines now c).runs = runsAfter c lines := rfl
  rw [runs]
  simp [runsAfter, CuePort.differs]

section
variable {lines : BitVec 12} {now : Time} {c : CuePort} {i : Fin 12}

/-- A sample that agrees ends the run and leaves the level. -/
theorem sampleSettled_of_same (same : lines.getLsbD i = c.levels.getLsbD i) :
    (sampleSettled lines now c).runs[i] = 0 ∧ (sampleSettled lines now c).levels.getLsbD i = c.levels.getLsbD i := by
  have agrees : c.differs lines i = false := by rw [CuePort.differs, same, bne_self_eq_false]
  rw [sampleSettled_runs, sampleSettled_getLsbD, agrees]
  exact ⟨rfl, Bool.xor_false _⟩

/-- A first or second sample that differs is counted. -/
theorem sampleSettled_of_early (other : lines.getLsbD i ≠ c.levels.getLsbD i) (early : c.runs[i] < 2) :
    (sampleSettled lines now c).runs[i] = c.runs[i] + 1 ∧ (sampleSettled lines now c).levels.getLsbD i = c.levels.getLsbD i := by
  have differs : c.differs lines i = true := bne_iff_ne.2 other
  have below : ¬3 ≤ nextRun c.runs[i] true := by simp only [nextRun, if_true]; omega
  rw [sampleSettled_runs, sampleSettled_getLsbD, differs, if_neg below, decide_eq_false below, Bool.xor_false]
  exact ⟨rfl, rfl⟩

/-- The third sample in a row that differs sets the level. -/
theorem sampleSettled_of_third (other : lines.getLsbD i ≠ c.levels.getLsbD i) (third : 2 ≤ c.runs[i]) :
    (sampleSettled lines now c).runs[i] = 0 ∧ (sampleSettled lines now c).levels.getLsbD i = lines.getLsbD i := by
  have differs : c.differs lines i = true := bne_iff_ne.2 other
  have reached : 3 ≤ nextRun c.runs[i] true := by simp only [nextRun, if_true]; omega
  rw [sampleSettled_runs, sampleSettled_getLsbD, differs, if_pos reached, decide_eq_true reached, Bool.xor_true]
  exact ⟨rfl, (Bool.eq_not.2 other).symm⟩

end

/-- The hymn number has changed when its lines have. -/
theorem number_eq_iff (c d : CuePort) : d.number = c.number ↔ d.levels.extractLsb' 0 10 = c.levels.extractLsb' 0 10 := BitVec.toNat_inj

/-! ## The first three samples (R61) -/

theorem earlyLevel_of_agreed (seed : Nat) (lines : BitVec 12) (i : Nat) :
    earlyLevel seed ([lines, lines] ++ [lines]) i = lines.getLsbD i := by
  cases level : lines.getLsbD i <;> simp [earlyLevel, level]

/-- Three samples that agree set the levels to theirs. -/
theorem settleCue_of_agreed (seed : Nat) (lines : BitVec 12) (now : Time) (c : CuePort) :
    settleCue seed ([lines, lines] ++ [lines]) now c =
      { c with levels := lines, early := [], settled := true, sampledAt := some now, changedAt := now } := by
  have levels : BitVec.ofNat 12 (bitsToNat ((List.range 12).map (earlyLevel seed ([lines, lines] ++ [lines])))) = lines := by
    refine BitVec.eq_of_getLsbD_eq fun i bound => ?_
    rw [BitVec.getLsbD_ofNat, testBit_bitsToNat, List.map_congr_left fun k _ => earlyLevel_of_agreed seed lines k]
    simp [bound]
  exact congrArg (fun levels : BitVec 12 =>
    { c with levels := levels, early := [], settled := true, sampledAt := some now, changedAt := now }) levels

end Sys2Proof.Machine
end

section

open Sys2Proof Sys2Proof.Machine

/-- Settles O34: a sample once the levels are set, line by line, and the first three. -/
theorem cueSampleDebounces : Obligations.CueSampleDebounces := by
  unfold Obligations.CueSampleDebounces
  intro lines s configured late
  have due : cueSampleDue s = true := by
    unfold cueSampleDue
    rw [configured, Bool.true_and]
    split
    · rfl
    · exact decide_eq_true (late _ ‹_›)
  have sampled : exec (.debouncedLevelChange lines) s = .next _ := act_of_due due
  refine ⟨fun settled => ?_, fun unsettled early => ?_, fun unsettled early => ?_⟩
  · refine ⟨sampleSettled lines s.now s.cue, sampled.trans (congrArg _ (if_pos settled)), rfl, rfl, settled,
      fun i => sampleSettled_of_same, fun i => sampleSettled_of_early, fun i => sampleSettled_of_third, ?_, rfl, rfl, rfl⟩
    exact if_congr (number_eq_iff s.cue (sampleSettled lines s.now s.cue)) rfl rfl
  · exact sampled.trans (congrArg _ ((if_neg (ne_true_of_eq_false unsettled)).trans (if_pos early)))
  · refine sampled.trans (congrArg _ ((if_neg (ne_true_of_eq_false unsettled)).trans ((if_neg (by simp [early])).trans ?_)))
    dsimp only
    rw [early, settleCue_of_agreed]
    rfl

end

section
/-! START taken from a peer (R60, R65, R67, R103, R158). -/

namespace Sys2Proof.Machine

/-- With no seek but one to 0, play begins on the state as it is (R57, R67). -/
theorem playBegin_of_unsought {h : Header} {s : State} (mark : Time) (header : s.header = some h)
    (seek : s.store.seek = none ∨ s.store.seek = some 0) :
    playBegin mark s =
      enterPlay 0 ⟨0, if 0 ≤ since s.now (mark + 6000) then s.now else mark + 6000, h.period⟩ 0 .playBegin
        { s with play := { s.play with pendingStart := none, join := none } } := by
  have unsought : s.store.seek.any (· != 0) = false := by rcases seek with seek | seek <;> rw [seek] <;> rfl
  have held : State.header { s with play := { s.play with pendingStart := none, join := none } } = some h := header
  unfold playBegin
  dsimp only
  rw [unsought, if_neg Bool.false_ne_true, held]
  simp only [reached, decide_eq_true_eq]
  rfl

theorem takeStart_of_loaded {n : Nat} {s : State} (state : s.play.state = .loaded) :
    takeStart n s = if s.loadedNumber = some n then playBegin s.line.markLatch s else s := by simp only [takeStart, state]

theorem takeStart_of_loading {n : Nat} {s : State} (state : s.play.state = .loading) :
    takeStart n s = if s.loadingNumber = some n then { s with play.pendingStart := some s.line.markLatch } else s := by
  simp only [takeStart, state]

/-- In play, in IDLE and SILENCED, and before full start ends, START is refused (R65). -/
theorem takeStart_of_refused {n : Nat} {s : State}
    (refused : s.inPlay = true ∨ s.play.state = .idle ∨ s.play.state = .silenced ∨ s.play.state = .starting) : takeStart n s = s := by
  rcases refused.imp_left state_of_inPlay with (state | state | state) | state | state | state <;> simp only [takeStart, state]

end Sys2Proof.Machine
end

section

open Sys2Proof Sys2Proof.Machine

/-- Settles O36: START by the play state that it finds, with the entry into play written out. -/
theorem startBeginsPlay : Obligations.StartBeginsPlay := by
  unfold Obligations.StartBeginsPlay
  intro bytes p n s heard
  have taken (awake : s.isHalted = false) : exec (.start bytes) s = .next (takeStart n (s.afterFrameFrom bytes p)) :=
    receiveCue_of_heard heard awake
  have awake {st : PlayState} (state : s.play.state = st) (other : st ≠ .halted) : s.isHalted = false := by
    simpa [State.isHalted, state] using other
  have loaded (state : s.play.state = .loaded) := takeStart_of_loaded (n := n) (s := s.afterFrameFrom bytes p) state
  have loading (state : s.play.state = .loading) := takeStart_of_loading (n := n) (s := s.afterFrameFrom bytes p) state
  refine ⟨fun h state number header seek => ?_,
    fun state number => (taken (awake state nofun)).trans (congrArg _ ((loading state).trans (if_pos number))),
    fun state number => (taken (awake state nofun)).trans (congrArg _ ((loading state).trans (if_neg number))),
    fun state number => (taken (awake state nofun)).trans (congrArg _ ((loaded state).trans (if_neg number))), fun refused => ?_⟩
  · intro lead start
    have begins := playBegin_of_unsought (s := s.afterFrameFrom bytes p) s.line.markLatch header seek
    obtain ⟨queue, notes, watch, broaden, entered⟩ := enterPlay_eq 0 ⟨0, start, h.period⟩ 0 .playBegin
      { s.afterFrameFrom bytes p with play := { s.play with pendingStart := none, join := none } }
    have effect := ((loaded state).trans (if_pos number)).trans (begins.trans entered)
    exact ⟨_, (taken (awake state nofun)).trans (congrArg _ effect), rfl, rfl, rfl, rfl, rfl, rfl, rfl, rfl, rfl, rfl, rfl, rfl, rfl,
      startPass_pass _, rfl, rfl, rfl, rfl, rfl⟩
  · refine (taken ?_).trans (congrArg _ (takeStart_of_refused (s := s.afterFrameFrom bytes p) refused))
    rcases refused with inPlay | state | state | state
    · exact awake_of_refused (.inl inPlay)
    · exact awake state nofun
    · exact awake state nofun
    · exact awake state nofun

end

section
/-! Section boundaries, broadening, and BROADEN marks reached (R71, R93, R103, R115). -/

namespace Sys2Proof.Machine

variable {s : State} {slot : Slot} {b : Nat}

/-! ## BROADEN marks reached (R51, R115) -/

/-- Whether a mark is a BROADEN mark not reached, at or before a position. -/
def Mark.broadensBy (limit : Int) (m : Mark) : Bool := m.broaden == .unserved && decide ((m.position : Int) ≤ limit)

theorem broadensBy_iff (limit : Int) (m : Mark) : m.broadensBy limit = true ↔ m.broaden = .unserved ∧ (m.position : Int) ≤ limit := by
  simp [Mark.broadensBy]

theorem reachBroaden_of_hit {limit : Int} {m : Mark} (mem : m ∈ s.store.queue) (hit : m.broadensBy limit = true) :
    reachBroaden limit s =
      { s with
        follow.broaden := true
        store.queue := serveMarks (fun m => if m.broadensBy limit then { m with broaden := m.broaden.serve } else m) s.store.queue } :=
  if_pos (List.any_eq_true.2 ⟨m, mem, hit⟩)

theorem reachBroaden_of_ahead {limit : Int} (ahead : ∀ m ∈ s.store.queue, m.broaden = .unserved → limit < m.position) :
    reachBroaden limit s = s := by
  refine if_neg fun some => ?_
  obtain ⟨m, mem, hit⟩ := List.any_eq_true.1 some
  obtain ⟨unserved, by_⟩ := (broadensBy_iff limit m).1 hit
  exact absurd (ahead m mem unserved) (not_lt.2 by_)

/-- While broadening, a mark reached changes the mark queue alone. -/
theorem reachBroaden_of_broadening (limit : Int) (broadening : s.follow.broaden = true) :
    ∃ queue, reachBroaden limit s = { s with store.queue := queue, follow.broaden := true } := by
  unfold reachBroaden
  dsimp only
  split
  · exact ⟨_, rfl⟩
  · refine ⟨s.store.queue, ?_⟩
    rw [← broadening]

theorem serve_ne_unserved (f : MarkFlag) : f.serve ≠ .unserved := by cases f <;> decide

/-- After a service of what a test names, a mark the test does not name is as it was. -/
theorem mem_serveMarks_of_unnamed {q : List Mark} {test : Mark → Bool} {change : Mark → Mark} {m : Mark} (mem : m ∈ q)
    (unnamed : test m = false) (unspent : m.spent = false) : m ∈ serveMarks (fun m => if test m then change m else m) q := by
  refine List.mem_filter.2 ⟨List.mem_map.2 ⟨m, mem, if_neg (ne_true_of_eq_false unnamed)⟩, ?_⟩
  rw [unspent, Bool.not_false]

theorem of_mem_serveMarks {q : List Mark} {change : Mark → Mark} {m : Mark} (mem : m ∈ serveMarks change q) : ∃ x ∈ q, change x = m :=
  List.mem_map.1 (List.mem_of_mem_filter mem)

/-- The report that ends a change: BROADEN marks at or before the position reached, the open gathers afresh, the pass begun (R93, R103, R115,
R158). With every such mark still ahead the mark queue stays. -/
theorem reportAnchor_spec (s : State) :
    ∃ queue broaden,
      reportAnchor s =
          { s with
            store.queue := queue
            gather := { s.gather with opens := s.gather.opens.map (Gather.underLine s queue) }.prunePool
            sched := startPass s.sched
            follow := { s.follow with broaden := broaden, change := none } } ∧
        (s.follow.broaden = true → broaden = true) ∧
        ((∀ m ∈ s.store.queue, m.broaden = .unserved → s.position < m.position) → queue = s.store.queue) := by
  obtain ⟨queue, broaden, reached, kept, ahead⟩ : ∃ queue broaden,
      reachBroaden s.position s = { s with store.queue := queue, follow.broaden := broaden } ∧ (s.follow.broaden = true → broaden = true) ∧
        ((∀ m ∈ s.store.queue, m.broaden = .unserved → s.position < m.position) → queue = s.store.queue) := by
    by_cases ahead : ∀ m ∈ s.store.queue, m.broaden = .unserved → s.position < m.position
    · exact ⟨_, _, reachBroaden_of_ahead ahead, id, fun _ => rfl⟩
    · obtain ⟨queue, broaden, reached⟩ := reachBroaden_eq s.position s
      refine ⟨queue, broaden, reached, fun broadening => ?_, fun all => absurd all ahead⟩
      obtain ⟨_, kept⟩ := reachBroaden_of_broadening s.position broadening
      exact congrArg (fun u : State => u.follow.broaden) (reached.symm.trans kept)
  refine ⟨queue, broaden, ?_, kept, ahead⟩
  unfold reportAnchor
  rw [reached]
  dsimp only
  rw [funext (refreshGather_eq _)]
  rfl

/-! ## Beats without claims (R114, R116) -/

theorem coupledClaims_of_none (none : ∀ q : Station, (s.gather.peers[q]).claim = none) : coupledClaims s b = [] := by
  refine List.filterMap_eq_nil_iff.2 fun p mem => ?_
  obtain ⟨q, bound, rfl⟩ := Vector.mem_iff_getElem.1 (Vector.mem_toList_iff.1 mem)
  have claim : (s.gather.peers[q]).claim = Option.none := none ⟨q, bound⟩
  cases present : (s.gather.peers[q]).present <;> simp only [coupledClaim, claim, present]

/-- What follows the broadening stage of a beat with no claim to couple to: the PULSE, the swell and the report (R114). -/
theorem beatStages_uncoupled {v : State} (broadened : stage (broadenStage b) (stage (sectionStage b) (rebase b s)) = v)
    (change : v.follow.change.isSome = true) (moving : v.moving = true) (claims : ∀ q : Station, (v.gather.peers[q]).claim = none) :
    ∃ line out, beatStages b s = reportAnchor { v with line := line, out := out, follow.resyncPending := false } := by
  have coupled : stage (couplingStage b) v = v := by
    rw [stage_of_change change, couplingStage, coupledClaims_of_none claims]
    exact if_pos rfl
  obtain ⟨line, pulsed⟩ : ∃ line, stage (pulseStage b (s.timeOf (24 * b)) (stage (sectionStage b) (rebase b s)).tempo) v =
      { v with line := line, follow.resyncPending := false } :=
    ⟨_, (stage_of_change change).trans (pulseStage_of_awake (not_halted_of_moving moving))⟩
  obtain ⟨out, swelled⟩ : ∃ out, stage swellStage { v with line := line, follow.resyncPending := false } =
      { v with line := line, out := out, follow.resyncPending := false } := by
    rw [stage_of_change (by exact change), swellStage]
    split <;> exact ⟨_, rfl⟩
  refine ⟨line, out, ?_⟩
  unfold beatStages
  dsimp only
  rw [broadened, coupled, pulsed, swelled]
  exact stage_of_change (by exact change)

/-- BROADEN_MARK_REACHED looks at the first BROADEN mark not reached (R115). -/
theorem broadenMarkReached_eq {pre post : List Mark} {m : Mark} (queue : s.store.queue = pre ++ m :: post)
    (first : ∀ x ∈ pre, x.broaden ≠ .unserved) (unserved : m.broaden = .unserved) :
    exec .broadenMarkReached s =
      act s (s.moving && decide ((m.position : Int) ≤ s.position) && !beatGoesFirst s m.position) (reachBroaden m.position s) := by
  have found : (s.store.queue.find? fun m => m.broaden == .unserved) = some m := by
    rw [List.find?_eq_some_iff_append]
    exact ⟨beq_iff_eq.2 unserved, pre, post, queue, fun x mem => by simpa using first x mem⟩
  change execBroadenMarkReached s = _
  unfold execBroadenMarkReached
  rw [found]

theorem beatEvent_of_due (moving : s.moving = true) (next : s.follow.nextBeat = some b) (due : 0 ≤ since s.now (s.timeOf (24 * b))) :
    exec .beatEvent s = .next (beatStages b s) := by
  change execBeatEvent s = _
  unfold execBeatEvent
  rw [next]
  exact act_of_due (by rw [moving]; exact decide_eq_true due)

/-! ## The section boundary and the broadening (R71, R115) -/

section
variable {h : Header} (moving : s.moving = true) (top : s.follow.slots[s.follow.top] = some slot) (header : s.header = some h)
  (due : 0 ≤ since s.now (s.timeOf (24 * b))) (range : s.masked .range = true)
  (claims : ∀ q : Station, (s.gather.peers[q]).claim = none)
include moving top header due range claims

/-- A section boundary: the section and its period, LEADING, the broaden flag cleared, then the rest of the beat (R71). -/
theorem beatStages_of_boundary {v : Nat} {plan : PlanEntry} (boundary : boundaryAt s b = some v)
    (planned : State.plan { s with play.sect := some v } = some plan) (unbroadened : ∀ m ∈ s.store.queue, m.broaden ≠ .unserved) :
    ∃ inHand passed sticky line out,
      beatStages b s =
        reportAnchor
          (({ s.onBeat b inHand passed with
              play := { s.play with state := .leading, sect := some v, run := 0, leadLock := false }
              follow :=
                { (s.onBeat b inHand passed).follow with broaden := false, sticky := sticky, resyncPending := false }
              line := line, out := out } : State).rules slot
            ⟨24 * b, s.timeOf (24 * b), h.clampPeriod (roundDiv (s.period * plan.scale) 16)⟩) := by
  obtain ⟨inHand, passed, rebased, -, -⟩ := rebase_eq moving top header due
  let a : Anchor := ⟨24 * b, s.timeOf (24 * b), s.period⟩
  let entered : State :=
    { s.onBeat b inHand passed with
      play := { s.play with state := .leading, sect := some v, run := 0, leadLock := false }
      follow := { (s.onBeat b inHand passed).follow with broaden := false } }
  have period : (entered.rules slot a).period = s.period := by rw [State.period, rules_anchor]
  obtain ⟨sticky, written, -⟩ := writePeriod_rules (s := entered) (slot := slot) (a := a) (h := h)
    (roundDiv (s.period * plan.scale) 16) rfl range header
  let w := ({ entered with follow.sticky := sticky } : State).rules slot { a with period := h.clampPeriod (roundDiv (s.period * plan.scale) 16) }
  have sectioned : stage (sectionStage b) (rebase b s) = w := by
    rw [rebased, stage_of_change rfl, sectionStage, show boundaryAt ((s.onBeat b inHand passed).rules slot a) b = some v from boundary]
    have planned' : (entered.rules slot a).plan = some plan := planned
    have scaled : writePeriod (roundDiv ((entered.rules slot a).period * plan.scale) 16) none (entered.rules slot a) = w := by
      rw [period]
      exact written
    refine Eq.trans ?_ scaled
    dsimp only
    split
    · rename_i plan' here
      cases Option.some.inj (planned'.symm.trans here)
      rfl
    · rename_i here
      cases planned'.symm.trans here
  have broadened : stage (broadenStage b) (stage (sectionStage b) (rebase b s)) = w := by
    rw [sectioned, stage_of_change rfl, broadenStage, reachBroaden_of_none (s := w) _ unbroadened]
    exact if_neg Bool.false_ne_true
  obtain ⟨line, out, ran⟩ := beatStages_uncoupled broadened rfl rfl claims
  exact ⟨inHand, passed, sticky, line, out, ran⟩

/-- A beat while broadening, within a section: the period lengthened by P/64, then the rest of the beat (R115). -/
theorem beatStages_of_broadening (within : boundaryAt s b = none) (broadening : s.follow.broaden = true) :
    ∃ inHand passed queue sticky line out,
      beatStages b s =
        reportAnchor
          (({ s.onBeat b inHand passed with
              store := { (s.onBeat b inHand passed).store with queue := queue }
              follow :=
                { (s.onBeat b inHand passed).follow with broaden := true, sticky := sticky, resyncPending := false }
              line := line, out := out } : State).rules slot
            ⟨24 * b, s.timeOf (24 * b), h.clampPeriod (s.period + roundDiv s.period 64)⟩) := by
  obtain ⟨inHand, passed, rebased, -, -⟩ := rebase_eq moving top header due
  let a : Anchor := ⟨24 * b, s.timeOf (24 * b), s.period⟩
  let r := (s.onBeat b inHand passed).rules slot a
  obtain ⟨queue, reached⟩ := reachBroaden_of_broadening (s := r) (24 * b : Nat) broadening
  let entered : State :=
    { s.onBeat b inHand passed with
      store := { (s.onBeat b inHand passed).store with queue := queue }
      follow := { (s.onBeat b inHand passed).follow with broaden := true } }
  have period : (entered.rules slot a).period = s.period := by rw [State.period, rules_anchor]
  obtain ⟨sticky, written, -⟩ := writePeriod_rules (s := entered) (slot := slot) (a := a) (h := h)
    (s.period + roundDiv s.period 64) (inPlay_of_moving (s := s) moving) range header
  let w := ({ entered with follow.sticky := sticky } : State).rules slot { a with period := h.clampPeriod (s.period + roundDiv s.period 64) }
  have sectioned : stage (sectionStage b) (rebase b s) = r := by
    rw [rebased, stage_of_change rfl, sectionStage, show boundaryAt r b = none from within]
  have broadened : stage (broadenStage b) (stage (sectionStage b) (rebase b s)) = w := by
    have lengthened : writePeriod ((entered.rules slot a).period + roundDiv (entered.rules slot a).period 64) none (entered.rules slot a) = w := by
      rw [period]
      exact written
    rw [sectioned, stage_of_change rfl, broadenStage, reached]
    exact (if_pos rfl).trans lengthened
  obtain ⟨line, out, ran⟩ := beatStages_uncoupled broadened rfl moving claims
  exact ⟨inHand, passed, queue, sticky, line, out, ran⟩

end

end Sys2Proof.Machine
end

section

open Sys2Proof Sys2Proof.Machine

/-- Settles O50: a beat event at a section boundary and one while broadening, stage by stage, and the reaching of a BROADEN mark. -/
theorem sectionsAndBroadening : Obligations.SectionsAndBroadening := by
  unfold Obligations.SectionsAndBroadening
  intro b slot h s moving next top header range
  refine ⟨fun v hymn plan due held sect more start planned unbroadened claims => ?_, fun due within broadening claims => ?_,
    fun pre post m queue unserved first after past => ⟨fun before due => ?_, fun ahead => ?_⟩⟩
  · have boundary : boundaryAt s b = some (v + 1) := by
      simp only [boundaryAt, header, sect]
      exact if_pos (by simp [more, start])
    have planned' : State.plan { s with play.sect := some (v + 1) } = some plan := by simp only [State.plan, held, planned]
    obtain ⟨inHand, passed, sticky, line, out, ran⟩ :=
      beatStages_of_boundary moving top header due range claims boundary planned' unbroadened
    rw [reportAnchor_of_unbroadened (by exact unbroadened)] at ran
    exact ⟨_, (beatEvent_of_due moving next due).trans (congrArg _ ran), rfl, rfl, rfl, rules_ruling _, rfl, ⟨startPass_pass _, rfl⟩, rfl⟩
  · obtain ⟨inHand, passed, queue, sticky, line, out, ran⟩ :=
      beatStages_of_broadening moving top header due range claims within broadening
    obtain ⟨queue', broaden, reported, kept, -⟩ := reportAnchor_spec
      (({ s.onBeat b inHand passed with
          store := { (s.onBeat b inHand passed).store with queue := queue }
          follow := { (s.onBeat b inHand passed).follow with broaden := true, sticky := sticky, resyncPending := false }
          line := line, out := out } : State).rules slot
        ⟨24 * b, s.timeOf (24 * b), h.clampPeriod (s.period + roundDiv s.period 64)⟩)
    exact ⟨_, (beatEvent_of_due moving next due).trans (congrArg _ (ran.trans reported)), rfl, kept rfl, rules_ruling _,
      ⟨startPass_pass _, rfl⟩⟩
  · rw [broadenMarkReached_eq queue first unserved]
    refine act_of_not_due ?_
    have goesFirst : beatGoesFirst s m.position = true := by
      simp [beatGoesFirst, moving, next, reached, before, due]
    rw [goesFirst, Bool.not_true, Bool.and_false]
  · have goesAfter : beatGoesFirst s m.position = false := by
      simp only [beatGoesFirst, moving, next, reached, Option.any_some, Bool.true_and, Bool.and_eq_false_iff, decide_eq_false_iff_not]
      omega
    have mem : m ∈ s.store.queue := by simp [queue]
    have taken : exec .broadenMarkReached s = .next (reachBroaden m.position s) := by
      rw [broadenMarkReached_eq queue first unserved]
      exact act_of_due (by simp [moving, past, goesAfter])
    rw [reachBroaden_of_hit mem ((broadensBy_iff _ m).2 ⟨unserved, le_rfl⟩)] at taken
    refine ⟨_, taken, rfl, fun x here place => ?_, fun x behind unspent => ?_⟩
    · obtain ⟨y, -, rfl⟩ := of_mem_serveMarks here
      split at place
      · rw [if_pos ‹_›]
        exact serve_ne_unserved y.broaden
      · rename_i unhit
        rw [if_neg unhit]
        exact fun still => unhit ((broadensBy_iff _ y).2 ⟨still, by omega⟩)
    · refine mem_serveMarks_of_unnamed (by simp [queue, behind]) (Bool.eq_false_iff.2 fun hit => ?_) unspent
      have beyond := after x behind
      have by_ := ((broadensBy_iff _ x).1 hit).2
      omega

end

section
/-! Holds taken and released (R101, R139, R143, R146, R152, R162). -/

namespace Sys2Proof.Machine

variable {s t : State} {slot : Slot} {e : EntryNo} {sc : Scheduler}

/-! ## The service of the channels and the untimed actions (R152) -/

theorem mem_of_leastBy {α : Type} {less : α → α → Bool} {as : List α} {a : α} (least : leastBy less as = some a) : a ∈ as := by
  induction as generalizing a with
  | nil => cases least
  | cons b bs ih =>
    unfold leastBy at least
    split at least
    · exact List.mem_cons.2 (.inl (Option.some.inj least).symm)
    · rename_i c found
      have tail : c ∈ bs := ih found
      split at least <;> cases Option.some.inj least
      · exact List.mem_cons_of_mem _ tail
      · exact List.mem_cons_self

theorem readyDue_of_nextWaiter (next : nextWaiter s = some e) : readyDue s.sched e ≠ none := fun unready => by
  have waits := (List.mem_filter.1 (mem_of_leastBy next)).2
  rw [waitsForChannel, unready] at waits
  cases waits

/-- An entry whose action is not ready is not ready under a table and a barrier that agree with the one it stands in. -/
theorem readyDue_congr {sc' : Scheduler} (entry : sc'.table[e] = sc.table[e]) (barrier : sc'.barrier = sc.barrier) :
    readyDue sc' e = readyDue sc e := by
  unfold readyDue
  rw [entry, barrier]

theorem readyDue_of_free (free : sc.table[e] = none) : readyDue sc e = none := by rw [readyDue, free]

theorem readyDue_of_undue {x : Action} (here : sc.table[e] = some x) (undue : x.due = none) : readyDue sc e = none := by
  unfold readyDue
  rw [here]
  dsimp only
  rw [undue, ite_self]

theorem readyDue_of_not_waiting {x : Action} (here : sc.table[e] = some x) (not : x.state ≠ .waiting) : readyDue sc e = none := by
  unfold readyDue
  rw [here]
  exact if_neg (by simp [not])

theorem freeEntry_barrier (e : EntryNo) (sc : Scheduler) : (freeEntry e sc).barrier = sc.barrier := by
  unfold freeEntry freeChannelOf
  split
  · split <;> rfl
  · rfl

/-- What the service of the channels leaves: the scheduler and the output stage alone change, the barrier, the hold counts and every entry
that is not ready standing. -/
def State.Served (s t : State) : Prop :=
  ∃ sched out, t = { s with sched := sched, out := out } ∧ sched.barrier = s.sched.barrier ∧ out.counts = s.out.counts ∧
    ∀ e : EntryNo, readyDue s.sched e = none → sched.table[e] = s.sched.table[e]

theorem State.Served.refl (s : State) : s.Served s := ⟨_, _, rfl, rfl, rfl, fun _ _ => rfl⟩

/-- A channel handed on changes the entry it goes to, which is ready. -/
theorem serveStep_served {u v : State} (served : s.Served u) (turn : serveStep u = some v) : s.Served v := by
  obtain ⟨sched, out, rfl, barrier, counts, kept⟩ := served
  obtain ⟨g, next, sched', out', rfl, barrier', counts', entries⟩ : ∃ g, nextWaiter { s with sched := sched, out := out } = some g ∧
      ∃ sched' out', v = { s with sched := sched', out := out' } ∧ sched'.barrier = sched.barrier ∧ out'.counts = out.counts ∧
        ∀ e, e ≠ g → sched'.table[e] = sched.table[e] := by
    unfold serveStep at turn
    split at turn
    case h_2 => cases turn
    rename_i c g _ next
    refine ⟨g, next, ?_⟩
    split at turn
    case h_2 => cases turn
    rename_i a here
    have armed (d : Time) :
        ∃ sched' out',
          { s with sched := setChannel c (.waiting g d) (setEntry g (some { a with state := .armed c }) sched), out := out } =
              ({ s with sched := sched', out := out' } : State) ∧
            sched'.barrier = sched.barrier ∧ out'.counts = out.counts ∧ ∀ e, e ≠ g → sched'.table[e] = sched.table[e] :=
      ⟨_, _, rfl, rfl, rfl, fun e other => by simpa using Vector.getElem_set_ne _ _ (fun same => other (Fin.ext same.symm))⟩
    split at turn
    · rename_i stop coil d _ _
      split at turn <;> cases turn
      · refine ⟨_, _, rfl, freeEntry_barrier g sched, by cases coil <;> rfl, fun e other => ?_⟩
        rw [setChannel_table, freeEntry_table]
        simpa using Vector.getElem_set_ne _ _ (fun same => other (Fin.ext same.symm))
      · exact armed d
    · rename_i d _ _
      cases turn
      exact armed d
    · cases turn
  refine ⟨sched', out', rfl, barrier'.trans barrier, counts'.trans counts, fun e unready => ?_⟩
  have unready' : readyDue sched e = none := (readyDue_congr (kept e unready) barrier).trans unready
  exact (entries e fun same => readyDue_of_nextWaiter next (same ▸ unready')).trans (kept e unready)

theorem serveWaiters_served (s : State) : s.Served (serveWaiters s) := iterate_invariant (fun _ _ => serveStep_served) 8 (State.Served.refl s)

/-! ## Actions changed (R162) -/

theorem mapActions_table (change : Action → Option Action) (frees : Action → Bool) (sc : Scheduler) (e : EntryNo) :
    (mapActions change frees sc).table[e] = (sc.table[e]).bind change := mapVec_getElem _ sc.table e

theorem holdFrom_table {point : Nat} {x : Action} (here : sc.table[e] = some x) (live : x.live = true) (after : point ≤ x.position) :
    (holdFrom point sc).table[e] = some { x with state := .held .hold, due := none } := by
  rw [holdFrom, holdWhere, mapActions_table, here]
  exact if_pos (by simp [live, after])

theorem returnHeld_table (sc : Scheduler) (e : EntryNo) :
    (returnHeld sc).table[e] =
      (sc.table[e]).map fun x => if x.heldFor .hold then { x with state := .waiting, due := none } else x := by
  rw [returnHeld, returnWhere, mapActions_table]
  cases sc.table[e] with
  | none => rfl
  | some x => exact (apply_ite some _ _ _).symm

/-! ## The watch (R138, R146) -/

/-- In HOLDING no mark is passed: the watch alone changes. -/
theorem settleWatch_of_holding (holding : s.play.state = .holding) : ∃ watch, settleWatch s = { s with follow.watch := watch } := by
  unfold settleWatch watchNext
  rw [not_moving_of_holding holding]
  split
  · exact ⟨_, rfl⟩
  · split
    · exact ⟨_, rfl⟩
    · exact ⟨_, rfl⟩

theorem settleWatch_of_unheld (none : ∀ m ∈ s.store.queue, m.hold ≠ .unserved) : settleWatch s = { s with follow.watch := Option.none } := by
  have first : firstHold s.store.queue = Option.none := List.find?_eq_none.2 fun m mem => by simpa using none m mem
  unfold settleWatch watchNext
  rw [first]

/-! ## The hold taken (R139) -/

@[simp] theorem rules_provisional (slot : Slot) (a : Anchor) (s : State) : (s.rules slot a).provisional = (slot.tag == .provisional) := by
  unfold State.provisional
  rw [show (s.rules slot a).follow.slots[(s.rules slot a).follow.top] = _ from rules_top a]

theorem holdBeatsOf_of_first {q pre post : List Mark} {m : Mark} {mark : Nat} (queue : q = pre ++ m :: post) (place : m.position = mark)
    (first : ∀ x ∈ pre, x.position ≠ mark) : holdBeatsOf q mark = m.holdBeats := by
  have found : (q.find? fun m => m.position == mark) = some m :=
    List.find?_eq_some_iff_append.2 ⟨beq_iff_eq.2 place, pre, post, queue, fun x mem => by simpa using first x mem⟩
  rw [holdBeatsOf, found]

/-- A mark as the service of the HOLD flags at a position leaves it (R51). -/
def Mark.holdServed (position : Nat) (m : Mark) : Mark := if m.position = position then { m with hold := m.hold.serve } else m

theorem serveHold_eq (position : Nat) (s : State) :
    serveHold position s = { s with store.queue := serveMarks (Mark.holdServed position) s.store.queue } := rfl

theorem broaden_holdServed (position : Nat) (m : Mark) : (m.holdServed position).broaden = m.broaden := by
  unfold Mark.holdServed
  split <;> rfl

theorem hold_ne_unserved_of_holdServed {position : Nat} {m : Mark} (place : (m.holdServed position).position = position) :
    (m.holdServed position).hold ≠ .unserved := by
  by_cases here : m.position = position
  · rw [Mark.holdServed, if_pos here]
    exact serve_ne_unserved m.hold
  · rw [Mark.holdServed, if_neg here] at place
    exact absurd place here

/-- A mark elsewhere with a flag to serve stands in the queue after the service. -/
theorem mem_serveMarks_holdServed {q : List Mark} {position : Nat} {m : Mark} (mem : m ∈ q) (other : m.position ≠ position)
    (unspent : m.spent = false) : m ∈ serveMarks (Mark.holdServed position) q :=
  List.mem_filter.2 ⟨List.mem_map.2 ⟨m, mem, if_neg other⟩, by rw [unspent, Bool.not_false]⟩

theorem unspent_of_unsung {m : Mark} (unserved : m.sung = .unserved) : m.spent = false := by simp [Mark.spent, unserved]

/-- HOLDING at a hold point, before the report of the change: the record, the line based at the point, the gathers after it withdrawn (R101,
R139). -/
def State.heldAt (w : Watch) (beats : Nat) (slot : Slot) (notes : NoteReader) (watch : Option Watch) (sched : Scheduler) (out : OutputStage)
    (s : State) : State :=
  ({ s with
    store.notes := notes
    store.queue := serveMarks (Mark.holdServed w.mark) s.store.queue
    play := { s.play with state := .holding, returnState := some s.tempo }
    follow :=
      { s.follow with
        hold := some ⟨w.mark, w.point, s.timeOf w.mark, addTicks (s.timeOf w.point) (beats * s.period), 0, [], false⟩
        watch := watch
        change := some .hold }
    gather := withdrawAfter w.point s.gather
    sched := sched, out := out } : State).rules slot ⟨w.point, s.timeOf w.point, s.period⟩

theorem takeHold_eq (w : Watch) (top : s.follow.slots[s.follow.top] = some slot) (unbroadened : ∀ m ∈ s.store.queue, m.broaden ≠ .unserved) :
    ∃ notes watch sched out,
      takeHold w s = reportAnchor (s.heldAt w (holdBeatsOf s.store.queue w.mark) slot notes watch sched out) ∧
        sched.barrier = some w.point ∧ out.counts = s.out.counts ∧
        ∀ (e : EntryNo) (x : Action), s.sched.table[e] = some x → x.live = true → w.point ≤ x.position →
          sched.table[e] = some { x with state := .held .hold, due := none } := by
  obtain ⟨inHand, passed, before, -⟩ := beforeChange_cases s
  have broadened : reachBroaden w.point { beforeChange s with follow.change := some .hold } =
      { s with
        store.notes := { s.store.notes with inHand := inHand, endPassed := passed }, follow.change := some .hold } := by
    rw [before]
    exact reachBroaden_of_none _ unbroadened
  let held := s.heldAt w (holdBeatsOf s.store.queue w.mark) slot { s.store.notes with inHand := inHand, endPassed := passed } none
    { holdFrom w.point s.sched with barrier := some w.point } s.out
  obtain ⟨sched, out, served, barrier, counts, kept⟩ := serveWaiters_served held
  obtain ⟨watch, watched⟩ := settleWatch_of_holding (s := { held with sched := sched, out := out }) rfl
  refine ⟨{ s.store.notes with inHand := inHand, endPassed := passed }, watch, sched, out, ?_, barrier, counts, fun e x here live after => ?_⟩
  · have settled : settleTable held = { held with sched := sched, out := out } := by
      rw [settleTable, served]
      exact testHymnEnd_of_busy (.inl rfl)
    have based := (congrArg (setAnchor ⟨w.point, s.timeOf w.point, s.period⟩) broadened).trans (setAnchor_of_top (slot := slot) top)
    unfold takeHold
    dsimp only at based ⊢
    rw [based]
    exact congrArg reportAnchor ((congrArg settleWatch settled).trans watched)
  · have now : held.sched.table[e] = some { x with state := .held .hold, due := none } := holdFrom_table here live after
    exact (kept e (readyDue_of_undue now rfl)).trans now

/-- The gathers at or before a hold point stay, those after it are withdrawn (R101). -/
theorem withdrawAfter_eq {point : Nat} {u : GatherUnit} {before after : List Gather} (opens : u.opens = before ++ after)
    (stay : ∀ o ∈ before, o.mark ≤ point) (leave : ∀ o ∈ after, point < o.mark) :
    ∃ pool,
      withdrawAfter point u =
        { u with
          opens := before
          pool := pool
          previousSung :=
            match after with
            | [] => u.previousSung
            | o :: _ => o.gapPrev.map (o.mark - ·) } := by
  have kept : u.opens.filter (fun o => !decide (point < o.mark)) = before := by
    have all : before.filter (fun o => !decide (point < o.mark)) = before := List.filter_eq_self.2 fun o mem => by simpa using stay o mem
    have none : after.filter (fun o => !decide (point < o.mark)) = [] := List.filter_eq_nil_iff.2 fun o mem => by simpa using leave o mem
    rw [opens, List.filter_append, all, none, List.append_nil]
  have first : u.opens.find? (fun o => decide (point < o.mark)) = after.head? := by
    have none : before.find? (fun o => decide (point < o.mark)) = Option.none := List.find?_eq_none.2 fun o mem => by simpa using stay o mem
    rw [opens, List.find?_append, none, Option.none_or]
    cases after with
    | nil => rfl
    | cons o os => exact List.find?_cons_of_pos (decide_eq_true (leave o List.mem_cons_self))
  unfold withdrawAfter
  dsimp only
  rw [first, kept]
  cases after with
  | nil => exact ⟨u.pool, by rw [← (opens.trans (List.append_nil _))]; rfl⟩
  | cons o os => exact ⟨_, rfl⟩

/-! ## The hold released (R143) -/

/-- The hold ended at now under an ACTIVE TOP, before the report of the change (R143). -/
def State.releasedAt (point : Nat) (slot : Slot) (notes : NoteReader) (gather : GatherUnit) (sched : Scheduler) (out : OutputStage)
    (s : State) : State :=
  ({ s with
    store.notes := notes
    play := takeReturn s.play
    follow := { s.follow with hold := none, watch := none, change := some .release }
    gather := gather
    sched := sched, out := out } : State).rules slot ⟨point, s.now, s.period⟩

theorem takeReturn_moving (s : State) : State.moving { s with play := takeReturn s.play } = true := by
  unfold takeReturn
  split <;> rfl

theorem takeReturn_returnState (p : PlayController) : (takeReturn p).returnState = none := by
  unfold takeReturn
  split <;> rfl

theorem takeReturn_of_following {p : PlayController} (back : p.returnState = some .following) :
    (takeReturn p).state = .following ∧ (takeReturn p).run = p.run := by
  unfold takeReturn
  rw [back]
  exact ⟨rfl, rfl⟩

theorem takeReturn_of_leading {p : PlayController} (back : p.returnState = some .leading) :
    (takeReturn p).state = .leading ∧ (takeReturn p).run = 0 := by
  unfold takeReturn
  rw [back]
  exact ⟨rfl, rfl⟩

theorem heldBack_of_none {point : Nat} (none : ∀ e : EntryNo, point ≤ positionOf sc e → readyDue sc e = none) : heldBack point sc = [] := by
  have empty : ((List.finRange 64).filter fun e => (readyDue sc e).isSome && decide (point ≤ positionOf sc e)) = [] := by
    refine List.filter_eq_nil_iff.2 fun e _ both => ?_
    simp only [Bool.and_eq_true, decide_eq_true_eq] at both
    rw [none e both.2] at both
    cases both.1
  rw [heldBack, empty]
  rfl

theorem setBarrier_none {point : Nat} (old : s.sched.barrier = some point) (going : s.store.notes.endReached = false)
    (untimed : heldBack point { s.sched with barrier := none } = []) :
    ∃ sched out, setBarrier none s = { s with sched := sched, out := out } ∧ sched.barrier = none ∧ out.counts = s.out.counts ∧
      ∀ e : EntryNo, readyDue { s.sched with barrier := none } e = none → sched.table[e] = s.sched.table[e] := by
  obtain ⟨sched, out, served, barrier, counts, kept⟩ := serveWaiters_served { s with sched.barrier := none }
  refine ⟨sched, out, ?_, barrier, counts, kept⟩
  unfold setBarrier
  rw [old]
  dsimp only
  rw [if_neg nofun, untimed, List.foldl_nil, settleTable, served]
  exact testHymnEnd_of_going going

theorem releaseSteps_eq {h : HoldRecord} {a : Anchor} {pushed : Option Nat} (top : s.follow.slots[s.follow.top] = some ⟨.active, a, pushed⟩)
    (going : s.store.notes.endReached = false) (hold : s.follow.hold = some h) (barrier : s.sched.barrier = some h.point)
    (untimed : ∀ (e : EntryNo) (x : Action), s.sched.table[e] = some x → x.state = .waiting → h.point ≤ x.position → x.due = none)
    (unheld : ∀ m ∈ s.store.queue, m.hold ≠ .unserved) :
    ∃ notes sched out,
      releaseSteps s =
          s.releasedAt h.point ⟨.active, a, pushed⟩ notes { s.gather with playStart := s.now }.prunePool sched out ∧
        sched.barrier = none ∧ out.counts = s.out.counts ∧
        ∀ (e : EntryNo) (x : Action), s.sched.table[e] = some x → x.heldFor .hold = true →
          sched.table[e] = some { x with state := .waiting, due := none } := by
  obtain ⟨inHand, passed, before, -⟩ := beforeChange_cases s
  let notes : NoteReader := { s.store.notes with inHand := inHand, endPassed := passed }
  let v := s.releasedAt h.point ⟨.active, a, pushed⟩ notes { s.gather with playStart := s.now }.prunePool (returnHeld s.sched) s.out
  have entry (e : EntryNo) :
      v.sched.table[e] = (s.sched.table[e]).map fun x => if x.heldFor .hold then { x with state := .waiting, due := none } else x :=
    returnHeld_table s.sched e
  have still : heldBack h.point { v.sched with barrier := none } = [] := heldBack_of_none fun e after => by
    have now := entry e
    cases here : s.sched.table[e] with
    | none =>
      rw [here] at now
      exact readyDue_of_free now
    | some x =>
      rw [here, Option.map_some] at now
      by_cases heldFor : x.heldFor .hold = true
      · rw [if_pos heldFor] at now
        exact readyDue_of_undue now rfl
      · rw [if_neg heldFor] at now
        by_cases waiting : x.state = .waiting
        · have place : positionOf { v.sched with barrier := none } e = x.position := by
            unfold positionOf
            rw [show ({ v.sched with barrier := none } : Scheduler).table[e] = some x from now]
          exact readyDue_of_undue now (untimed e x here waiting (place ▸ after))
        · exact readyDue_of_not_waiting now waiting
  obtain ⟨sched, out, lifted, now, counts, kept⟩ := setBarrier_none (s := v) barrier going still
  refine ⟨notes, sched, out, ?_, now, counts, fun e x here heldFor => ?_⟩
  · have watched : rewatch v = { v with sched := sched, out := out } := by
      have watch : settleWatch v = v := settleWatch_of_unheld unheld
      have moving : v.moving = true := takeReturn_moving s
      rw [rewatch, watch, moving]
      exact lifted
    have based := setAnchor_of_top (s := { beforeChange s with follow := { s.follow with hold := none, change := some .release } })
      (slot := ⟨.active, a, pushed⟩) (a := ⟨h.point, s.now, s.period⟩) top
    unfold releaseSteps
    rw [hold]
    dsimp only at based ⊢
    rw [based, before]
    simp only [rules_provisional, show (Tag.active == Tag.provisional) = false from rfl, Bool.false_eq_true, if_false]
    rw [testHymnEnd_of_going (by exact going)]
    exact (stage_of_change rfl).trans watched
  · have returned := entry e
    rw [here, Option.map_some, if_pos heldFor] at returned
    exact (kept e (readyDue_of_undue returned rfl)).trans returned

end Sys2Proof.Machine
end

section

open Sys2Proof Sys2Proof.Machine

/-- Settles O52: a hold taken and its release under an ACTIVE TOP, each ended by the report of the change. -/
theorem holdTakenAndReleased : Obligations.HoldTakenAndReleased := by
  unfold Obligations.HoldTakenAndReleased
  intro a pushed s top going
  have period : s.period = a.period := by rw [State.period, State.anchor, State.ruling, top]; rfl
  refine ⟨fun w pre post m moving watch due queue place first unbroadened => ?_,
    fun h holding hold due barrier untimed unheld => ?_⟩
  · obtain ⟨notes, watch', sched, out, taken, barrier, counts, held⟩ := takeHold_eq w top unbroadened
    have served : ∀ x ∈ (s.heldAt w (holdBeatsOf s.store.queue w.mark) ⟨.active, a, pushed⟩ notes watch' sched out).store.queue,
        x.broaden ≠ .unserved := fun x mem => by
      obtain ⟨y, here, rfl⟩ := of_mem_serveMarks mem
      exact broaden_holdServed w.mark y ▸ unbroadened y here
    rw [reportAnchor_of_unbroadened served] at taken
    have ran : exec .holdPointReached s = .next (takeHold w s) := by
      change execHoldPointReached s = _
      unfold execHoldPointReached
      rw [watch]
      exact act_of_due (by rw [moving]; exact decide_eq_true due)
    refine ⟨_, ran.trans (congrArg _ taken), ?_, ?_, rfl, rfl, barrier, rfl, rfl, fun e x here live after => held e x here live after, ?_,
      counts, rfl, rfl, ?_, ?_⟩
    · rw [← period, ← holdBeatsOf_of_first queue place first]
      rfl
    · exact period ▸ rules_ruling _
    · intro x mem here
      obtain ⟨y, -, rfl⟩ := of_mem_serveMarks mem
      exact hold_ne_unserved_of_holdServed here
    · intro x mem unserved other
      exact mem_serveMarks_holdServed mem other (unspent_of_unsung unserved)
    · intro before after opens stay leave
      obtain ⟨pool, withdrawn⟩ := withdrawAfter_eq opens stay leave
      have unit := fun {β : Type} (f : GatherUnit → β) => congrArg f withdrawn
      exact ⟨⟨startPass_pass _, congrArg (List.map _) (unit (·.opens))⟩, unit (·.closed), unit (·.taking), unit (·.queue),
        unit (·.previousSung)⟩
  · obtain ⟨notes, sched, out, released, lifted, counts, returned⟩ := releaseSteps_eq top going hold barrier untimed unheld
    obtain ⟨queue, broaden, reported, -⟩ :=
      reportAnchor_spec (s.releasedAt h.point ⟨.active, a, pushed⟩ notes { s.gather with playStart := s.now }.prunePool sched out)
    have ran : exec .holdRelease s = .next (stage reportAnchor (releaseSteps s)) := by
      change execHoldRelease s = _
      unfold execHoldRelease
      rw [hold]
      exact act_of_due (by simp [holding, due])
    rw [released, stage_of_change rfl, reported] at ran
    refine ⟨_, ran, rfl, period ▸ rules_ruling _, takeReturn_returnState _, ⟨startPass_pass _, rfl⟩, fun back => ?_, fun back => ?_, rfl, lifted,
      rfl, rfl, fun e x here heldFor => returned e x here heldFor, counts, rfl, rfl⟩
    · exact takeReturn_of_following back
    · exact takeReturn_of_leading back

end

section
/-! Closes taken: the acceptance of a close, the pop, and a VOID close (R95, R111, R112, R130, R132). -/

namespace Sys2Proof.Machine

variable {s u : State} {slot : Slot} {e : EntryNo} {sc : Scheduler} {g : Gather} {st : PlayState}

/-! ## The acceptance of a close (R95, R108, R131) -/

/-- The marks with the SUNG flag served of the marks at a position (R51, R95). -/
def sungServed (mark : Nat) (q : List Mark) : List Mark :=
  serveMarks (fun m => if m.position == mark then { m with sung := m.sung.serve } else m) q

theorem gatherCloseTaken_eq (taking : s.gather.taking = .close g) :
    exec .gatherCloseTaken s = act s s.inPlay (if 0 < g.sum then applyMatched g s.play.state s else applyVoid g s.play.state s) := by
  change execGatherCloseTaken s = _
  unfold execGatherCloseTaken
  rw [taking]

theorem acceptClose_of_taken (mark : Nat) (weights : Vector Peer 16 → Vector Peer 16) (taking : s.gather.taking = .close g) :
    acceptClose mark weights s =
      { s with
        gather := { s.gather with taking := .free, peers := weights s.gather.peers }
        store.queue := sungServed mark s.store.queue } := by
  unfold acceptClose
  rw [taking]
  rfl

/-- A close accepted with the report of its change (R93, R95, R103, R158). -/
theorem acceptClose_reportAnchor (mark : Nat) (weights : Vector Peer 16 → Vector Peer 16) (taking : s.gather.taking = .close g) :
    ∃ queue broaden,
      acceptClose mark weights (reportAnchor s) =
          { s with
            store.queue := sungServed mark queue
            gather :=
              { { s.gather with opens := s.gather.opens.map (Gather.underLine s queue) }.prunePool with
                taking := .free, peers := weights s.gather.peers }
            sched := startPass s.sched
            follow := { s.follow with broaden := broaden, change := none } } ∧
        ((∀ m ∈ s.store.queue, m.broaden = .unserved → s.position < m.position) → queue = s.store.queue) := by
  obtain ⟨queue, broaden, reported, -, ahead⟩ := reportAnchor_spec s
  refine ⟨queue, broaden, ?_, ahead⟩
  rw [reported, acceptClose_of_taken (g := g) mark weights (by exact taking)]
  rfl

theorem testExhausted_of_unprovisional (unprovisional : s.provisional = false) : testExhausted s = s := by
  simp [testExhausted, unprovisional]

theorem provisional_of_top {a : Anchor} {pushed : Option Nat} (top : s.follow.slots[s.follow.top] = some ⟨.provisional, a, pushed⟩) :
    s.provisional = true := by
  rw [State.provisional, top]
  rfl

theorem unprovisional_of_active {a : Anchor} {pushed : Option Nat} (top : s.follow.slots[s.follow.top] = some ⟨.active, a, pushed⟩) :
    s.provisional = false := by
  rw [State.provisional, top]
  rfl

/-! ## The pop (R130, R137, R164) -/

theorem resumeSlip_table {x : Action} {key : Key} (here : sc.table[e] = some x) (held : x.heldFor .slip = true) (note : x.kind = .noteOn key) :
    (resumeSlip none sc).table[e] = some { x with state := .waiting, due := none } := by
  rw [resumeSlip, returnWhere, mapActions_table, here]
  refine if_pos ?_
  unfold byNoteOn
  rw [note]
  simp [held]

theorem succ_ne_self (i : Fin 4) : i + 1 ≠ i := by revert i; decide

theorem Follower.pop_eq {f : Follower} {b : Anchor} {under : Option Nat} (below : f.slots[f.top + 1] = some ⟨.fallback, b, under⟩)
    (third : f.slots[f.top + 2] = none) :
    f.pop =
      { f with
        slots := dropFallbacks ((f.slots.set f.top none).set (f.top + 1 : Fin 4) (some ⟨.active, b, under⟩)), top := f.top + 1, confirmCount := 0 } := by
  have next : (f.slots.set f.top none)[f.top + 1] = some ⟨.fallback, b, under⟩ :=
    (slots_set_other _ _ (succ_ne_self _)).trans below
  have last : (f.slots.set f.top none)[f.top + 1 + 1] = none := by
    have place : ∀ i : Fin 4, i + 1 + 1 = i + 2 ∧ i + 2 ≠ i := by decide
    obtain ⟨two, off⟩ := place f.top
    rw [slots_set_other _ _ (two ▸ off), ← third]
    exact congrArg (fun i : Fin 4 => f.slots[i]) two
  unfold Follower.pop
  dsimp only
  rw [last, next]
  rfl

/-- A pop onto the last FALLBACK: it rules as ACTIVE, and every SLIP-held pair resumes (R130, R164). -/
theorem pop_eq {b : Anchor} {under : Option Nat} (below : s.follow.slots[s.follow.top + 1] = some ⟨.fallback, b, under⟩)
    (third : s.follow.slots[s.follow.top + 2] = none) :
    ∃ notes slots,
      pop s =
          { s with
            store.notes := notes
            follow := { s.follow with slots := slots, top := s.follow.top + 1, confirmCount := 0 }
            sched := resumeSlip none s.sched } ∧
        slots[s.follow.top + 1] = some ⟨.active, b, under⟩ ∧ slots[s.follow.top] = none := by
  obtain ⟨inHand, passed, before, -⟩ := beforeChange_cases s
  have popped := Follower.pop_eq below third
  let slots := dropFallbacks ((s.follow.slots.set s.follow.top none).set (s.follow.top + 1 : Fin 4) (some ⟨.active, b, under⟩))
  have ruling : slots[s.follow.top + 1] = some ⟨.active, b, under⟩ := by
    rw [dropFallbacks_getElem, slots_set_self]
    exact if_neg Bool.false_ne_true
  have gone : slots[s.follow.top] = none := by
    rw [dropFallbacks_getElem, slots_set_other _ _ (succ_ne_self _).symm, slots_set_self]
    exact if_neg Bool.false_ne_true
  refine ⟨{ s.store.notes with inHand := inHand, endPassed := passed }, slots, ?_, ruling, gone⟩
  have slip : State.slipPosition { beforeChange s with follow := s.follow.pop } = none := by
    rw [popped]
    unfold State.slipPosition
    rw [show slots[s.follow.top + 1] = _ from ruling]
    exact if_neg Tag.noConfusion
  unfold pop
  dsimp only at slip ⊢
  rw [slip, before, popped]

/-! ## A VOID close (R111, R112, R132) -/

/-- A VOID close with VOID masked counted: the run lost in LEADING, confidence down by 2, a miss in FOLLOWING (R111, R112). -/
def State.voidCounted (st : PlayState) (s : State) : State :=
  { s with
    play := reportVoid s.play
    follow :=
      { s.follow with
        change := some .close, sticky := s.follow.sticky ||| 4#7, confidence := s.follow.confidence - 2
        misses := if st = .following then s.follow.misses + 1 else s.follow.misses } }

/-- The DIVERGE test of a VOID close (R112). -/
def State.divergeTested (st : PlayState) (s : State) : State :=
  takeExceptionIf (st = .following && decide (3 ≤ (s.voidCounted st).follow.misses)) .diverge none (s.voidCounted st)

theorem applyVoid_eq (inPlay : s.inPlay = true) (masked : s.masked .void = true) :
    applyVoid g st s =
      let pops := (st = .leading || st = .following) && (s.divergeTested st).provisional
      let popped := if pops then stage pop (s.divergeTested st) else s.divergeTested st
      testExhausted (acceptClose g.mark id (stage (if pops then reportAnchor else endChange) popped)) := by
  have plays : State.inPlay { s with play := reportVoid s.play, follow := { s.follow with change := some .close } } = true := by
    rw [← plays_iff_inPlay] at inPlay ⊢
    exact reportVoid_state s.play ▸ inPlay
  have voided := takeException_of_masked (e := .void) (c := none) plays masked
  unfold applyVoid
  dsimp only at voided ⊢
  rw [voided]
  rfl

/-- A VOID close without a pop ends with nothing reported (R111). -/
theorem applyVoid_of_standing (inPlay : s.inPlay = true) (masked : s.masked .void = true)
    (tested : s.divergeTested st = u) (change : u.follow.change.isSome = true) (kept : u.gather.taking = .close g)
    (stands : u.provisional = false ∨ st = .holding ∧ u.moving = false) :
    applyVoid g st s = { u with follow.change := none, gather.taking := .free, store.queue := sungServed g.mark u.store.queue } := by
  have pops : ((st = .leading || st = .following) && u.provisional) = false := by
    rcases stands with firm | ⟨rfl, -⟩
    · rw [firm, Bool.and_false]
    · rfl
  rw [applyVoid_eq inPlay masked, tested]
  dsimp only
  rw [pops, if_neg Bool.false_ne_true, if_neg Bool.false_ne_true, stage_of_change change, acceptClose_of_taken (g := g) g.mark id (by exact kept)]
  rcases stands with firm | ⟨-, still⟩
  · exact testExhausted_of_unprovisional firm
  · exact testExhausted_of_still still

theorem reportVoid_of_leading {p : PlayController} (leading : p.state = .leading) : reportVoid p = { p with run := 0 } := by
  unfold reportVoid
  rw [leading]

theorem reportVoid_of_other {p : PlayController} (other : p.state ≠ .leading) : reportVoid p = p := by
  unfold reportVoid
  split
  · contradiction
  · rfl

theorem divergeTested_of_few (few : st = .following → s.follow.misses < 2) : s.divergeTested st = s.voidCounted st := by
  refine if_neg fun both => ?_
  simp only [Bool.and_eq_true, decide_eq_true_eq] at both
  obtain ⟨following, three⟩ := both
  have misses : (s.voidCounted st).follow.misses = s.follow.misses + 1 := if_pos following
  have := few following
  omega

/-- The third miss with DIVERGE unmasked, FOLLOW reporting and no culprit recorded: LEADING, and the FAULT frame names none (R112, R119, R185). -/
theorem divergeTested_of_third (following : s.play.state = .following) (misses : s.follow.misses = 2) (unmasked : s.masked .diverge = false)
    (would : s.wouldReport 2) (culprit : s.follow.culprit = none) :
    s.divergeTested .following =
      { s.withReport 2 none with
        play := { s.play with state := .leading, run := 0 }
        follow :=
          { s.follow with
            change := some .close, sticky := s.follow.sticky ||| 4#7 ||| 0x20#7, confidence := s.follow.confidence - 2, misses := 0 } } := by
  obtain ⟨report, clear, -, running⟩ := would
  let t : State :=
    { s with
      play := { s.play with state := .leading, run := 0 }
      follow :=
        { s.follow with
          change := some .close, sticky := s.follow.sticky ||| 4#7 ||| 0x20#7, confidence := s.follow.confidence - 2, misses := 0 } }
  have silent : reportVoid s.play = s.play := reportVoid_of_other (by simp [following])
  have counted : s.voidCounted .following =
      { s with
        follow :=
          { s.follow with
            change := some .close, sticky := s.follow.sticky ||| 4#7, confidence := s.follow.confidence - 2, misses := 3 } } := by
    rw [State.voidCounted, silent, if_pos rfl, misses]
  have inPlay : (s.voidCounted .following).inPlay = true := by
    rw [counted, ← plays_iff_inPlay]
    exact following ▸ rfl
  have default : exceptionDefault .diverge
      { s.voidCounted .following with follow.sticky := (s.voidCounted .following).follow.sticky ||| 0x20#7 } = t := by
    rw [counted]
    exact if_pos following
  have raised : takeException .diverge none (s.voidCounted .following) = raiseFault 2 t := by
    rcases takeException_cases .diverge none (s.voidCounted .following) with ⟨out, -⟩ | ⟨-, ⟨masked, -⟩ | ⟨-, eq⟩⟩
    · rw [inPlay] at out; cases out
    · exact absurd (unmasked.symm.trans masked) Bool.false_ne_true
    · exact eq.trans (congrArg (raiseFault 2) default)
  have body : faultBody (latch 2 t) 2 = .fault 2 .report none 0 := by
    have nameless : (latch 2 t).follow.culprit = none := culprit
    have reports : (latch 2 t).cfg.reactions[(2 : FaultNo)] = .report := report
    rw [faultBody, if_pos rfl, nameless, reports]
  have offered : raiseFault 2 t = offerFault 2 (latch 2 t) := raiseFault_report rfl running report clear
  have third : 3 ≤ (s.voidCounted .following).follow.misses := by rw [counted]
  rw [State.divergeTested, takeExceptionIf, if_pos (by simp [third]), raised, offered, offerFault, body]
  rfl

/-! ## A VOID close with its pop (R130, R132) -/

theorem applyVoid_of_pop (inPlay : s.inPlay = true) (masked : s.masked .void = true) (provisional : s.provisional = true)
    (popped : pop (s.voidCounted .leading) = u) (change : u.follow.change.isSome = true) :
    applyVoid g .leading s = testExhausted (acceptClose g.mark id (reportAnchor u)) := by
  have pops : ((PlayState.leading = .leading || PlayState.leading = .following) && (s.voidCounted .leading).provisional) = true :=
    provisional
  rw [applyVoid_eq inPlay masked, divergeTested_of_few (st := .leading) nofun]
  dsimp only
  rw [pops, if_pos rfl, if_pos rfl, stage_of_change (s := s.voidCounted .leading) rfl, popped, stage_of_change change]

end Sys2Proof.Machine
end

section

open Sys2Proof Sys2Proof.Machine

/-- Settles O48: a VOID close under an ACTIVE TOP, in HOLDING, and with the pop of a PROVISIONAL TOP. -/
theorem voidCloseTaken : Obligations.VoidCloseTaken := by
  unfold Obligations.VoidCloseTaken
  intro g s taking empty masked
  have applied (inPlay : s.inPlay = true) : exec .gatherCloseTaken s = .next (applyVoid g s.play.state s) := by
    rw [gatherCloseTaken_eq taking, if_neg (by omega)]
    exact act_of_due inPlay
  refine ⟨fun firm => ⟨fun following few => ?_, fun leading => ?_, fun following misses unmasked would culprit => ?_⟩, fun holding => ?_,
    fun a b pushed under leading top below third last => ?_⟩
  · have inPlay : s.inPlay = true := by rw [← plays_iff_inPlay, following]; rfl
    rw [applied inPlay, following, applyVoid_of_standing inPlay masked (divergeTested_of_few fun _ => few) rfl taking (.inl firm)]
    rw [State.voidCounted, reportVoid_of_other (by simp [following])]
    rfl
  · have inPlay : s.inPlay = true := by rw [← plays_iff_inPlay, leading]; rfl
    rw [applied inPlay, leading, applyVoid_of_standing inPlay masked (divergeTested_of_few (st := .leading) nofun) rfl taking (.inl firm)]
    rw [State.voidCounted, reportVoid_of_leading leading]
    rfl
  · have inPlay : s.inPlay = true := by rw [← plays_iff_inPlay, following]; rfl
    rw [applied inPlay, following, applyVoid_of_standing inPlay masked (divergeTested_of_third following misses unmasked would culprit) rfl
      taking (.inl firm)]
    rfl
  · have inPlay : s.inPlay = true := by rw [← plays_iff_inPlay, holding]; rfl
    have still : (s.voidCounted .holding).moving = false := by
      refine not_moving_of_holding ?_
      exact (reportVoid_state s.play).trans holding
    rw [applied inPlay, holding, applyVoid_of_standing inPlay masked (divergeTested_of_few (st := .holding) nofun) rfl taking (.inr ⟨rfl, still⟩)]
    rw [State.voidCounted, reportVoid_of_other (by simp [holding])]
    rfl
  · have inPlay : s.inPlay = true := by rw [← plays_iff_inPlay, leading]; rfl
    obtain ⟨notes, slots, popped, ruling, gone⟩ := pop_eq (s := s.voidCounted .leading) below third
    let u : State :=
      { s.voidCounted .leading with
        store.notes := notes
        follow := { (s.voidCounted .leading).follow with slots := slots, top := s.follow.top + 1, confirmCount := 0 }
        sched := resumeSlip none s.sched }
    have ran : applyVoid g .leading s = _ := applyVoid_of_pop (u := u) inPlay masked (provisional_of_top top) popped rfl
    obtain ⟨queue, broaden, accepted, ahead⟩ := acceptClose_reportAnchor (s := u) (g := g) g.mark id taking
    have active : u.provisional = false := unprovisional_of_active (s := u) ruling
    rw [accepted, testExhausted_of_unprovisional (by exact active)] at ran
    have taken := (applied inPlay).trans (congrArg _ ((congrArg (applyVoid g · s) leading).trans ran))
    refine ⟨_, taken, rfl, ruling, gone, rfl, rfl, rfl, rfl, startPass_pass _, fun behind => ⟨startPass_pass _, ?_⟩,
      fun e x here held note => ?_, rfl, rfl, rfl⟩
    · exact congrArg (fun q => s.gather.opens.map (Gather.underLine _ q)) (ahead behind)
    · obtain ⟨key, note⟩ := note
      exact resumeSlip_table here held note

end

section
/-! Matched closes: the corrections, the weights, the culprit, and a PROVISIONAL TOP judged (R72, R96, R108 to R110, R124, R131, R133). -/

namespace Sys2Proof.Machine

variable {s u : State} {slot : Slot} {e : EntryNo} {sc : Scheduler} {g : Gather} {st : PlayState} {a b : Anchor} {pushed under : Option Nat}
  {h : Header}

/-! ## Exceptions that are masked (R121) -/

/-- A masked exception without a default action sets its sticky flag, when its condition holds, and nothing else. -/
theorem takeExceptionIf_masked_eq {x : FollowerException} {c : Option (Station × BitVec 8)} (cond : Bool) (inPlay : s.inPlay = true)
    (masked : s.masked x = true) (plain : ∀ u, exceptionDefault x u = u) :
    takeExceptionIf cond x c s = { s with follow.sticky := s.follow.sticky ||| if cond then 1#7 <<< x.bit else 0#7 } := by
  cases cond with
  | true => exact (takeException_of_masked inPlay masked).trans (plain _)
  | false =>
    have same : s.follow.sticky ||| 0#7 = s.follow.sticky := BitVec.or_zero
    simp only [takeExceptionIf, Bool.false_eq_true, if_false, same]

/-! ## The corrections of a matched close (R109, R110) -/

theorem correction_eq (c : Configuration) (st : PlayState) (overrun : Bool) (period : Nat) (mean : Int) :
    let phase := if st = .following then roundDiv (mean * c.kp) 16 else roundDiv (mean * c.kp) 64
    let change := if st = .following then if overrun then 0 else roundDiv (mean * c.ki) 256 else 0
    let phase' := clampInt (-(period / 8 : Nat)) (period / 8 : Nat) phase
    let change' := clampInt (-(period / 32 : Nat)) (period / 32 : Nat) change
    correction c st overrun period mean = ⟨phase', change', decide (phase' ≠ phase ∨ change' ≠ change)⟩ := by
  intro phase change phase' change'
  have clamped : decide (phase' ≠ phase ∨ change' ≠ change) = (phase' != phase || change' != change) := by
    rw [Bool.eq_iff_iff]
    simp
  rw [clamped]
  cases st <;> rfl

/-- The weighted mean of the members against a line, with the weights of the close counted (R108). -/
theorem meanFrom_eq {start : Time} (sum : (g.members.map (·.weight)).sum = g.sum) :
    meanFrom start g.members = roundDiv ((g.members.map fun m => (m.weight : Int) * since m.time start).sum) g.sum := by
  rw [meanFrom, weightSum, sum]

/-- A period written with RANGE masked: within the hymn's limits, the sticky flag set when that changes it (R106). -/
theorem writePeriod_rules_eq {c : Option (Station × BitVec 8)} (period : Int) (inPlay : s.inPlay = true) (masked : s.masked .range = true)
    (header : s.header = some h) :
    writePeriod period c (s.rules slot a) =
      ({ s with
        follow.sticky := s.follow.sticky ||| if ((h.clampPeriod period : Nat) : Int) ≠ period then 1#7 else 0#7 } : State).rules slot
          { a with period := h.clampPeriod period } := by
  have clamped : (s.rules slot a).clampPeriod period = h.clampPeriod period := by
    unfold State.clampPeriod
    rw [show (s.rules slot a).header = some h from header]
  unfold writePeriod clampsPeriod
  rw [clamped, rules_anchor, setAnchor_rules,
    takeExceptionIf_masked_eq (s := s.rules slot { a with period := h.clampPeriod period }) (x := .range) _ inPlay masked fun _ => rfl]
  simp only [bne_iff_ne]
  rfl

/-- The line of a matched close written with SLEW and RANGE masked (R109, R110). -/
theorem writeClose_eq (mean : Int) (top : s.follow.slots[s.follow.top] = some slot) (change : s.follow.change.isSome = true)
    (inPlay : s.inPlay = true) (slew : s.masked .slew = true) (range : s.masked .range = true) (header : s.header = some h) :
    let k := correction s.cfg st s.follow.overrunPending slot.anchor.period mean
    let wanted := (slot.anchor.period : Int) + k.change
    ∃ notes, notes.endReached = s.store.notes.endReached ∧
      writeClose g st mean s =
        ({ s with
          store.notes := notes
          follow :=
            { s.follow with
              overrunPending := false
              sticky :=
                (s.follow.sticky ||| if k.clamped then 2#7 else 0#7) |||
                  if ((h.clampPeriod wanted : Nat) : Int) ≠ wanted then 1#7 else 0#7 } } : State).rules slot
          ⟨g.mark, addTicks (slot.anchor.timeOf g.mark) k.phase, h.clampPeriod wanted⟩ := by
  intro k wanted
  obtain ⟨inHand, passed, before, -⟩ := beforeChange_cases s
  refine ⟨{ s.store.notes with inHand := inHand, endPassed := passed }, rfl, ?_⟩
  have anchor : s.anchor = slot.anchor := by rw [State.anchor, State.ruling, top]; rfl
  have corrected : correction s.cfg st s.follow.overrunPending s.period mean = k := by rw [State.period, anchor]
  have predicted : s.timeOf g.mark = slot.anchor.timeOf g.mark := by rw [State.timeOf, anchor]
  let v : State :=
    { s with
      store.notes := { s.store.notes with inHand := inHand, endPassed := passed }
      follow := { s.follow with overrunPending := false, sticky := s.follow.sticky ||| if k.clamped then 2#7 else 0#7 } }
  have slewed (who : Option (Station × BitVec 8)) :
      takeExceptionIf k.clamped .slew who { beforeChange s with follow.overrunPending := false } = v := by
    rw [before]
    exact takeExceptionIf_masked_eq _ inPlay slew fun _ => rfl
  have period : v.period = slot.anchor.period := congrArg Anchor.period anchor
  unfold writeClose
  rw [corrected, predicted]
  dsimp only
  rw [slewed, stage_of_change (by exact change), period, setAnchor_of_top (s := v) top]
  exact writePeriod_rules_eq wanted inPlay range header

/-! ## The weights (R96) -/

section
variable {most period : Nat} {time : Time} {mean : Int} {q : Station}

/-- The peer table with one member of a close assessed. -/
def assessMember (most period : Nat) (time : Time) (mean : Int) (peers : Vector Peer 16) (m : Observation) : Vector Peer 16 :=
  match m.source with
  | .own => peers
  | .peer p => peers.set p (assess most period (errorFrom time m - mean) peers[p])

theorem assessMembers_cons (m : Observation) (members : List Observation) (peers : Vector Peer 16) :
    assessMembers most period time mean (m :: members) peers =
      assessMembers most period time mean members (assessMember most period time mean peers m) := rfl

theorem assessMember_of_other {m : Observation} (other : m.source ≠ .peer q) (peers : Vector Peer 16) :
    (assessMember most period time mean peers m)[q] = peers[q] := by
  unfold assessMember
  split
  · rfl
  · rename_i p source
    exact Vector.getElem_set_ne _ _ fun same => other (source.trans (congrArg Source.peer (Fin.ext same)))

theorem assessMember_of_source {m : Observation} (source : m.source = .peer q) (peers : Vector Peer 16) :
    (assessMember most period time mean peers m)[q] = assess most period (errorFrom time m - mean) peers[q] := by
  unfold assessMember
  rw [source]
  exact Vector.getElem_set_self _

/-- A peer without a member in the close keeps its weight. -/
theorem assessMembers_of_absent {members : List Observation} (absent : ∀ m ∈ members, m.source ≠ .peer q) (peers : Vector Peer 16) :
    (assessMembers most period time mean members peers)[q] = peers[q] := by
  induction members generalizing peers with
  | nil => rfl
  | cons m ms ih =>
    rw [assessMembers_cons, ih (fun x mem => absent x (List.mem_cons_of_mem _ mem))]
    exact assessMember_of_other (absent m List.mem_cons_self) peers

/-- A peer with one member in the close has its weight moved by that member's residual. -/
theorem assessMembers_of_member {members : List Observation} (once : members.Pairwise fun x y => x.source ≠ y.source) {m : Observation}
    (mem : m ∈ members) (source : m.source = .peer q) (peers : Vector Peer 16) :
    (assessMembers most period time mean members peers)[q] = assess most period (errorFrom time m - mean) peers[q] := by
  induction members generalizing peers with
  | nil => cases mem
  | cons x xs ih =>
    obtain ⟨apart, rest⟩ := List.pairwise_cons.1 once
    rw [assessMembers_cons]
    rcases List.mem_cons.1 mem with rfl | later
    · rw [assessMembers_of_absent fun y here same => apart y here (source.trans same.symm)]
      exact assessMember_of_source source peers
    · rw [ih rest later]
      exact congrArg _ (assessMember_of_other (fun same => apart m later (same.trans source.symm)) peers)

theorem assess_of_absent {p : Peer} (absent : p.present = false) (residual : Int) : assess most period residual p = p :=
  if_pos (by rw [absent]; rfl)

theorem assess_of_present {p : Peer} (present : p.present = true) (residual : Int) :
    assess most period residual p =
      { p with
        weight :=
          if residual.natAbs ≤ period / 16 then min most (p.weight + 1)
          else if period / 8 < residual.natAbs then p.weight - 1 else p.weight } := by
  obtain ⟨_, heard, weight, claim⟩ := p
  cases present
  simp only [assess, Bool.not_true, Bool.false_eq_true, if_false]
  split
  · rfl
  · split <;> rfl

/-- An absent peer, and one without a member in the close, stands. -/
theorem assessMembers_of_still {members : List Observation} (once : members.Pairwise fun x y => x.source ≠ y.source)
    {peers : Vector Peer 16} (still : (peers[q]).present = false ∨ ∀ m ∈ members, m.source ≠ .peer q) :
    (assessMembers most period time mean members peers)[q] = peers[q] := by
  by_cases member : ∃ m ∈ members, m.source = .peer q
  · obtain ⟨m, mem, source⟩ := member
    rw [assessMembers_of_member once mem source]
    rcases still with absent | none
    · exact assess_of_absent absent _
    · exact absurd source (none m mem)
  · exact assessMembers_of_absent (fun m mem source => member ⟨m, mem, source⟩) peers

/-! ## The culprit (R124) -/

/-- The culprit record after a matched close: the record alone can change, cleared by a member from its station near the mean. -/
theorem clearCulprit_eq (period : Nat) (time : Time) (mean : Int) (members : List Observation) (s : State) :
    ∃ culprit, clearCulprit period time mean members s = { s with follow.culprit := culprit } ∧
      (∀ p n, s.follow.culprit = some (p, n) →
        ((∃ m ∈ members, s.stationOf m.source = p ∧ (since m.time time - mean).natAbs ≤ period / 16) → culprit = none) ∧
          ((∀ m ∈ members, s.stationOf m.source = p → period / 16 < (since m.time time - mean).natAbs) → culprit = s.follow.culprit)) ∧
      (s.follow.culprit = none → culprit = none) := by
  cases record : s.follow.culprit with
  | none =>
    have stays : clearCulprit period time mean members s = s := by
      unfold clearCulprit
      rw [record]
    exact ⟨none, stays.trans (by rw [← record]), nofun, fun _ => rfl⟩
  | some named =>
    obtain ⟨p, n⟩ := named
    have cleared : clearCulprit period time mean members s =
        if members.any fun m => s.stationOf m.source == p && decide ((errorFrom time m - mean).natAbs ≤ period / 16) then
          { s with follow.culprit := none }
        else s := by
      unfold clearCulprit
      rw [record]
    by_cases near : ∃ m ∈ members, s.stationOf m.source = p ∧ (since m.time time - mean).natAbs ≤ period / 16
    · refine ⟨none, cleared.trans (if_pos ?_), fun p' n' same => ⟨fun _ => rfl, fun far => ?_⟩, fun _ => rfl⟩
      · obtain ⟨m, mem, station, close⟩ := near
        exact List.any_eq_true.2 ⟨m, mem, by simp [station, errorFrom, close]⟩
      · cases same
        obtain ⟨m, mem, station, close⟩ := near
        exact absurd close (not_le.2 (far m mem station))
    · refine ⟨some (p, n), (cleared.trans (if_neg fun some => near ?_)).trans ?_, fun p' n' same => ⟨fun near' => ?_, fun _ => rfl⟩, nofun⟩
      · obtain ⟨m, mem, both⟩ := List.any_eq_true.1 some
        simp only [Bool.and_eq_true, beq_iff_eq, decide_eq_true_eq] at both
        exact ⟨m, mem, both.1, both.2⟩
      · rw [← record]
      · cases same
        exact absurd near' near

end

/-! ## The stack at a matched close (R131, R133, R164) -/

theorem fitsFallback_eq {mean : Int} (below : s.follow.slots[s.follow.top + 1] = some ⟨.fallback, b, under⟩)
    (sum : (g.members.map (·.weight)).sum = g.sum) :
    fitsFallback s g mean = true ↔
      (roundDiv ((g.members.map fun m => (m.weight : Int) * since m.time (b.timeOf g.mark)).sum) g.sum).natAbs < mean.natAbs ∧
        (roundDiv ((g.members.map fun m => (m.weight : Int) * since m.time (b.timeOf g.mark)).sum) g.sum).natAbs ≤
          halfWidth b.period s.cfg.windowFactor g.gapPrev g.gapNext := by
  unfold fitsFallback
  rw [below]
  simp only [meanFrom_eq sum, Bool.and_eq_true, decide_eq_true_eq]

/-- With no channel to free, the channels stand. -/
theorem mapActions_channels (change : Action → Option Action) (sc : Scheduler) :
    (mapActions change (fun _ => false) sc).channels = sc.channels := by
  refine Vector.ext fun i inside => (mapVec_getElem _ sc.channels ⟨i, inside⟩).trans ?_
  split
  · exact if_neg (by simp)
  · rfl

theorem resumeSlip_channels (slip : Option Nat) (sc : Scheduler) : (resumeSlip slip sc).channels = sc.channels :=
  mapActions_channels _ sc

theorem freeSlip_table {x : Action} (here : sc.table[e] = some x) :
    (freeSlip sc).table[e] = if x.heldFor .slip then none else some x := by
  rw [freeSlip, mapActions_table, here]
  rfl

theorem succ_succ_ne_self (i : Fin 4) : i + 2 ≠ i := by revert i; decide

/-- A PROVISIONAL TOP confirmed: it rules as ACTIVE, the FALLBACK slots are EMPTY (R131). -/
theorem confirm_slots {f : Follower} {t : Tag} (top : f.slots[f.top] = some ⟨t, a, pushed⟩)
    (below : f.slots[f.top + 1] = some ⟨.fallback, b, under⟩) :
    f.confirm.slots[f.top] = some ⟨.active, a, pushed⟩ ∧ f.confirm.slots[f.top + 1] = none := by
  unfold Follower.confirm
  dsimp only
  constructor
  · rw [dropFallbacks_getElem, slots_set_self, top]
    rfl
  · rw [dropFallbacks_getElem, slots_set_other _ _ (succ_ne_self _), below]
    rfl

section
variable {mean : Int}

theorem judgeMatched_of_unprovisional (unprovisional : s.provisional = false) : judgeMatched g mean s = s :=
  if_pos (by rw [unprovisional]; rfl)

variable (provisional : s.provisional = true)
include provisional

theorem judgeMatched_of_nearer (nearer : fitsFallback s g mean = true) : judgeMatched g mean s = pop s := by
  rw [judgeMatched, provisional, nearer]
  rfl

theorem judgeMatched_of_first (farther : fitsFallback s g mean = false) (first : s.follow.confirmCount = 0) :
    judgeMatched g mean s = { s with follow.confirmCount := 1 } := by
  rw [judgeMatched, provisional, farther, first]
  rfl

theorem judgeMatched_of_second (farther : fitsFallback s g mean = false) (second : s.follow.confirmCount ≠ 0) :
    judgeMatched g mean s = confirmTop s := by
  rw [judgeMatched, provisional, farther]
  exact if_neg second

end

/-! ## A matched close applied (R72, R108) -/

theorem reportMatched_eq (p : PlayController) :
    reportMatched p =
      match p.state with
      | .leading =>
        if p.run = 0 then { p with run := 1 } else if p.leadLock then { p with run := 2 } else { p with run := 2, state := .following }
      | _ => p := by
  cases state : p.state
  case leading =>
    rw [reportMatched, state]
    dsimp only
    by_cases first : p.run = 0
    · rw [if_pos first, if_pos (by omega), first]
    · rw [if_neg first, if_neg (by omega)]
  all_goals rw [reportMatched, state]

/-- A matched close counted (R72, R112). -/
def State.matchedCounted (s : State) : State :=
  { s with
    play := reportMatched s.play
    follow := { s.follow with change := some .close, confidence := min 15 (s.follow.confidence + 1), misses := 0 } }

/-- What the steps of a matched close up to its acceptance keep of the state it was taken in. -/
structure State.CloseCounted (s v : State) : Prop where
  confidence : v.follow.confidence = min 15 (s.follow.confidence + 1)
  misses : v.follow.misses = 0
  nextBeat : v.follow.nextBeat = s.follow.nextBeat
  taking : v.gather.taking = s.gather.taking
  observations : v.gather.queue = s.gather.queue
  closed : v.gather.closed = s.gather.closed
  peers : v.gather.peers = s.gather.peers
  channels : v.sched.channels = s.sched.channels
  out : v.out = s.out
  line : v.line = s.line
  fault : v.fault = s.fault
  front : v.front = s.front
  cue : v.cue = s.cue
  clock : v.clock = s.clock
  startup : v.startup = s.startup

/-- What a matched close of a gather leaves, the residuals judged against a mean error at a time, and at a period (R95, R96, R112, R124). -/
def State.ClosedBy (g : Gather) (t : Time) (mean : Int) (period : Nat) (s u : State) : Prop :=
  u.follow.confidence = min 15 (s.follow.confidence + 1) ∧ u.follow.misses = 0 ∧ u.follow.change = none ∧
    u.follow.nextBeat = s.follow.nextBeat ∧ u.gather.taking = .free ∧ u.gather.queue = s.gather.queue ∧
    u.gather.closed = s.gather.closed ∧ (∀ x ∈ u.store.queue, x.position = g.mark → x.sung ≠ .unserved) ∧
    (∀ p q, s.follow.culprit = some (p, q) →
      ((∃ m ∈ g.members, s.stationOf m.source = p ∧ (since m.time t - mean).natAbs ≤ period / 16) → u.follow.culprit = none) ∧
        ((∀ m ∈ g.members, s.stationOf m.source = p → period / 16 < (since m.time t - mean).natAbs) →
          u.follow.culprit = s.follow.culprit)) ∧
    (s.follow.culprit = none → u.follow.culprit = none) ∧
    (∀ m ∈ g.members, ∀ q : Station, m.source = .peer q → (s.gather.peers[q]).present = true →
      let r := (since m.time t - mean).natAbs
      let w := (s.gather.peers[q]).weight
      u.gather.peers[q] =
        { s.gather.peers[q] with
          weight := if r ≤ period / 16 then min s.cfg.weightMax (w + 1) else if period / 8 < r then w - 1 else w }) ∧
    (∀ q : Station, ((s.gather.peers[q]).present = false ∨ ∀ m ∈ g.members, m.source ≠ .peer q) →
      u.gather.peers[q] = s.gather.peers[q]) ∧
    u.sched.channels = s.sched.channels ∧ u.out = s.out ∧ u.line = s.line ∧ u.fault = s.fault ∧
    u.front = s.front ∧ u.cue = s.cue ∧ u.clock = s.clock ∧ u.startup = s.startup

theorem sung_ne_unserved_of_sungServed {mark : Nat} {q : List Mark} {x : Mark} (mem : x ∈ sungServed mark q) (place : x.position = mark) :
    x.sung ≠ .unserved := by
  obtain ⟨y, -, rfl⟩ := of_mem_serveMarks mem
  by_cases here : y.position = mark
  · rw [if_pos (beq_iff_eq.2 here)]
    exact serve_ne_unserved y.sung
  · rw [if_neg (by simpa using here)] at place
    exact absurd place here

/-- The culprit record of a matched close against the one it found (R124). -/
def State.CulpritJudged (g : Gather) (t : Time) (mean : Int) (period : Nat) (s : State) (culprit : Option (Station × BitVec 8)) : Prop :=
  (∀ p n, s.follow.culprit = some (p, n) →
    ((∃ m ∈ g.members, s.stationOf m.source = p ∧ (since m.time t - mean).natAbs ≤ period / 16) → culprit = none) ∧
      ((∀ m ∈ g.members, s.stationOf m.source = p → period / 16 < (since m.time t - mean).natAbs) → culprit = s.follow.culprit)) ∧
  (s.follow.culprit = none → culprit = none)

theorem State.CloseCounted.accepts {v : State} {t : Time} {mean : Int} {period : Nat} (counted : s.CloseCounted v)
    (once : g.members.Pairwise fun x y => x.source ≠ y.source) (taking : s.gather.taking = .close g)
    (change : v.follow.change = none) (culprit : s.CulpritJudged g t mean period v.follow.culprit) :
    s.ClosedBy g t mean period (acceptClose g.mark (assessMembers s.cfg.weightMax period t mean g.members) v) := by
  obtain ⟨named, unnamed⟩ := culprit
  rw [acceptClose_of_taken (g := g) g.mark _ (counted.taking.trans taking)]
  refine ⟨counted.confidence, counted.misses, change, counted.nextBeat, rfl, counted.observations, counted.closed,
    fun x mem place => sung_ne_unserved_of_sungServed mem place, named, unnamed, fun m mem q source present => ?_, fun q still => ?_,
    counted.channels, counted.out, counted.line, counted.fault, counted.front, counted.cue, counted.clock, counted.startup⟩
  · dsimp only
    rw [counted.peers, assessMembers_of_member once mem source]
    exact assess_of_present present _
  · dsimp only
    rw [counted.peers]
    exact assessMembers_of_still once still

/-! ## The end of a matched close that wrote the line (R93, R95, R103, R158) -/

/-- What a matched close that wrote the line leaves beside what every matched close does: the follower and the scheduler as judged, with the
report's pass and windows. -/
structure State.CloseMoved (s v u : State) : Prop where
  ruling : u.follow.slots[u.follow.top] = v.follow.slots[v.follow.top]
  slots : ∀ i : Fin 4, u.follow.slots[i] = v.follow.slots[i]
  top : u.follow.top = v.follow.top
  confirmCount : u.follow.confirmCount = v.follow.confirmCount
  overrun : u.follow.overrunPending = v.follow.overrunPending
  sticky : u.follow.sticky = v.follow.sticky
  play : u.play = v.play
  pass : u.passBegun
  table : u.sched.table = v.sched.table
  ended : u.store.marks.ended = v.store.marks.ended
  opens : (∀ x ∈ s.store.queue, x.broaden = .unserved → u.position < x.position) →
    u.gather.opens = s.gather.opens.map (Gather.underLine u s.store.queue)

/-- A judged close reported and accepted. -/
theorem State.CloseCounted.reports {v : State} {t : Time} {mean : Int} {period : Nat} (counted : s.CloseCounted v)
    (once : g.members.Pairwise fun x y => x.source ≠ y.source) (taking : s.gather.taking = .close g)
    (opens : v.gather.opens = s.gather.opens) (queue : v.store.queue = s.store.queue) (culprit : v.follow.culprit = s.follow.culprit) :
    let u := acceptClose g.mark (assessMembers s.cfg.weightMax period t mean g.members)
      (reportAnchor (clearCulprit period t mean g.members v))
    s.ClosedBy g t mean period u ∧ s.CloseMoved v u := by
  obtain ⟨named, cleared, judged⟩ := clearCulprit_eq period t mean g.members v
  have station (x : Source) : v.stationOf x = s.stationOf x := by
    cases x
    · exact congrArg StartUp.strap counted.startup
    · rfl
  simp only [station, culprit] at judged
  obtain ⟨marks, broaden, reported, -, ahead⟩ := reportAnchor_spec { v with follow.culprit := named }
  intro u
  constructor
  · refine State.CloseCounted.accepts ?_ once taking ?_ ?_ <;> rw [cleared, reported]
    · exact ⟨counted.confidence, counted.misses, counted.nextBeat, counted.taking, counted.observations, counted.closed, counted.peers,
        counted.channels, counted.out, counted.line, counted.fault, counted.front, counted.cue, counted.clock, counted.startup⟩
    · exact judged
  · have accepted : u = _ := acceptClose_of_taken (g := g) g.mark _ (by rw [cleared, reported]; exact counted.taking.trans taking)
    rw [accepted, cleared, reported]
    refine ⟨rfl, fun _ => rfl, rfl, rfl, rfl, rfl, rfl, startPass_pass _, rfl, rfl, fun behind => ?_⟩
    rw [← queue] at behind ⊢
    rw [← opens]
    exact congrArg (fun q => v.gather.opens.map (Gather.underLine _ q)) (ahead behind)

/-- A matched close counted, and its line written (R72, R109, R110). -/
def State.closeWritten (notes : NoteReader) (sticky : BitVec 7) (slot : Slot) (a : Anchor) (s : State) : State :=
  ({ s.matchedCounted with
    store.notes := notes
    follow := { s.matchedCounted.follow with overrunPending := false, sticky := sticky } } : State).rules slot a

theorem closeWritten_counted (notes : NoteReader) (sticky : BitVec 7) (slot : Slot) (a : Anchor) (s : State) :
    s.CloseCounted (s.closeWritten notes sticky slot a) := ⟨rfl, rfl, rfl, rfl, rfl, rfl, rfl, rfl, rfl, rfl, rfl, rfl, rfl, rfl, rfl⟩

/-! ## The steps of a matched close in each play state (R107, R108) -/

theorem testExhausted_of_unended (unended : s.store.marks.ended = false) : testExhausted s = s := by
  simp [testExhausted, unended]

theorem inPlay_matchedCounted (inPlay : s.inPlay = true) : s.matchedCounted.inPlay = true := by
  rw [← plays_iff_inPlay] at inPlay ⊢
  change (reportMatched s.play).state.plays = true
  rw [reportMatched_eq]
  split
  · split
    · exact inPlay
    · split
      · exact inPlay
      · rfl
  · exact inPlay

theorem moves_of_moving (moving : s.moving = true) : (s.play.state = .leading || s.play.state = .following : Bool) = true := by
  unfold State.moving at moving
  split at moving
  · rename_i state
    rw [state]
    rfl
  · rename_i state
    rw [state]
    rfl
  · cases moving

theorem applyMatched_of_moving {w v : State} {t : Time} {mean : Int} (moving : s.moving = true) (predicted : s.timeOf g.mark = t)
    (error : meanFrom t g.members = mean) (written : writeClose g s.play.state mean s.matchedCounted = w)
    (wrote : w.follow.change.isSome = true) (judged : judgeMatched g mean w = v) (change : v.follow.change.isSome = true) :
    applyMatched g s.play.state s =
      testExhausted
        (acceptClose g.mark (assessMembers s.cfg.weightMax w.period t mean g.members)
          (reportAnchor (clearCulprit w.period t mean g.members v))) := by
  obtain ⟨culprit, cleared, -⟩ := clearCulprit_eq w.period t mean g.members v
  have still : (clearCulprit w.period t mean g.members v).follow.change.isSome = true := by
    rw [cleared]
    exact change
  have counted : { s with
      play := reportMatched s.play
      follow := { s.follow with change := some .close, confidence := min 15 (s.follow.confidence + 1), misses := 0 } } = s.matchedCounted :=
    rfl
  unfold applyMatched
  dsimp only at counted ⊢
  rw [moves_of_moving moving, predicted, error, counted, if_pos rfl, if_pos rfl, if_pos rfl, written, stage_of_change wrote, judged,
    stage_of_change change, stage_of_change still]

theorem applyMatched_of_holding {t : Time} {mean : Int} (holding : s.play.state = .holding) (predicted : s.timeOf g.mark = t)
    (error : meanFrom t g.members = mean) :
    applyMatched g s.play.state s =
      testExhausted
        (acceptClose g.mark (assessMembers s.cfg.weightMax s.period t mean g.members)
          (endChange (clearCulprit s.period t mean g.members s.matchedCounted))) := by
  obtain ⟨culprit, cleared, -⟩ := clearCulprit_eq s.period t mean g.members s.matchedCounted
  have still : (clearCulprit s.period t mean g.members s.matchedCounted).follow.change.isSome = true := by
    rw [cleared]
    rfl
  have counted : { s with
      play := reportMatched s.play
      follow := { s.follow with change := some .close, confidence := min 15 (s.follow.confidence + 1), misses := 0 } } = s.matchedCounted :=
    rfl
  have period : s.matchedCounted.period = s.period := rfl
  have moves : (s.play.state = .leading || s.play.state = .following : Bool) = false := by
    rw [holding]
    rfl
  unfold applyMatched
  dsimp only at counted ⊢
  rw [moves, predicted, error, counted, if_neg Bool.false_ne_true, if_neg Bool.false_ne_true, if_neg Bool.false_ne_true, period,
    stage_of_change (s := s.matchedCounted) rfl, stage_of_change still]

end Sys2Proof.Machine
end

section

open Sys2Proof Sys2Proof.Machine

/-- Settles O47: a matched close under an ACTIVE TOP, in HOLDING, and under a PROVISIONAL TOP, popped, counted or confirmed. -/
theorem matchedCloseCorrects : Obligations.MatchedCloseCorrects := by
  unfold Obligations.MatchedCloseCorrects
  intro g tag a pushed h s taking positive sum once top header slew range t error mean limited phase change phase' change' wanted period line
    station moved kept
  have anchor : s.anchor = a := by rw [State.anchor, State.ruling, top]; rfl
  have predicted : s.timeOf g.mark = t := congrArg (Anchor.timeOf · g.mark) anchor
  have meanEq : meanFrom t g.members = mean := meanFrom_eq sum
  have applied (inPlay : s.inPlay = true) : exec .gatherCloseTaken s = .next (applyMatched g s.play.state s) := by
    rw [gatherCloseTaken_eq taking, if_pos positive]
    exact act_of_due inPlay
  have correctionEq : correction s.cfg s.play.state s.follow.overrunPending a.period mean =
      ⟨phase', change', decide (phase' ≠ phase ∨ change' ≠ change)⟩ := correction_eq _ _ _ _ _
  let sticky : BitVec 7 :=
    (s.follow.sticky ||| (if phase' ≠ phase ∨ change' ≠ change then 2#7 else 0#7)) ||| (if (period : Int) ≠ wanted then 1#7 else 0#7)
  have writes (moving : s.moving = true) : ∃ notes, notes.endReached = s.store.notes.endReached ∧
      writeClose g s.play.state mean s.matchedCounted = s.closeWritten notes sticky ⟨tag, a, pushed⟩ line := by
    obtain ⟨notes, going, written⟩ := writeClose_eq (s := s.matchedCounted) (g := g) (st := s.play.state) mean top rfl
      (inPlay_matchedCounted (inPlay_of_moving moving)) slew range header
    have corrected : correction s.matchedCounted.cfg s.play.state s.matchedCounted.follow.overrunPending a.period mean =
      ⟨phase', change', decide (phase' ≠ phase ∨ change' ≠ change)⟩ := correctionEq
    rw [corrected] at written
    simp only [decide_eq_true_eq] at written
    exact ⟨notes, going, written⟩
  have closes (moving : s.moving = true) {notes : NoteReader} {v : State}
      (written : writeClose g s.play.state mean s.matchedCounted = s.closeWritten notes sticky ⟨tag, a, pushed⟩ line)
      (judged : judgeMatched g mean (s.closeWritten notes sticky ⟨tag, a, pushed⟩ line) = v) (counted : s.CloseCounted v)
      (change : v.follow.change.isSome = true) (opens : v.gather.opens = s.gather.opens) (queue : v.store.queue = s.store.queue)
      (culprit : v.follow.culprit = s.follow.culprit) (overrun : v.follow.overrunPending = false) (flags : v.follow.sticky = sticky)
      (play : v.play = reportMatched s.play) :
      ∃ u, exec .gatherCloseTaken s = .next (testExhausted u) ∧ s.CloseMoved v u ∧ moved u ∧ kept u period := by
    have ran := (applied (inPlay_of_moving moving)).trans
      (congrArg _ (applyMatched_of_moving moving predicted meanEq written rfl judged change))
    have periodEq : (s.closeWritten notes sticky ⟨tag, a, pushed⟩ line).period = period := congrArg Anchor.period (rules_anchor line)
    rw [periodEq] at ran
    obtain ⟨closed, m⟩ := counted.reports (t := t) (mean := mean) (period := period) once taking opens queue culprit
    exact ⟨_, ran, m, ⟨m.pass, fun behind => ⟨m.pass, m.opens behind⟩, m.overrun.trans overrun, m.sticky.trans flags,
      (m.play.trans play).trans (reportMatched_eq s.play)⟩, closed⟩
  refine ⟨fun moving active => ?_, fun holding => ?_, fun b under moving provisional unended going below third last => ?_⟩
  · subst active
    obtain ⟨notes, -, written⟩ := writes moving
    have ruling : (s.closeWritten notes sticky ⟨.active, a, pushed⟩ line).follow.slots[s.follow.top] = some ⟨.active, line, pushed⟩ :=
      rules_top line
    obtain ⟨u, ran, m, moves, keeps⟩ := closes moving written (judgeMatched_of_unprovisional (unprovisional_of_active ruling))
      (closeWritten_counted _ _ _ _ s) rfl rfl rfl rfl rfl rfl rfl
    have rules := m.ruling.trans ruling
    rw [testExhausted_of_unprovisional (unprovisional_of_active rules)] at ran
    exact ⟨u, ran, rules, m.top, m.table, moves, keeps⟩
  · have inPlay : s.inPlay = true := by rw [← plays_iff_inPlay, holding]; rfl
    have ran := (applied inPlay).trans (congrArg _ (applyMatched_of_holding holding predicted meanEq))
    have periodEq : s.period = a.period := congrArg Anchor.period anchor
    obtain ⟨culprit, cleared, judged⟩ := clearCulprit_eq a.period t mean g.members s.matchedCounted
    have play : reportMatched s.play = s.play := by
      rw [reportMatched_eq, holding]
    let v : State := { s.matchedCounted with follow := { s.matchedCounted.follow with culprit := culprit, change := none } }
    have counted : s.CloseCounted v := ⟨rfl, rfl, rfl, rfl, rfl, rfl, rfl, rfl, rfl, rfl, rfl, rfl, rfl, rfl, rfl⟩
    have keeps := counted.accepts once taking rfl judged
    have still : v.moving = false := not_moving_of_holding ((congrArg (·.state) play).trans holding)
    rw [periodEq, cleared, show endChange { s.matchedCounted with follow.culprit := culprit } = v from rfl,
      acceptClose_of_taken (s := v) (g := g) g.mark _ taking, testExhausted_of_still (by exact still)] at ran
    rw [acceptClose_of_taken (s := v) (g := g) g.mark _ taking] at keeps
    refine ⟨_, ran, ?_, rfl, rfl, rfl, play, rfl, rfl, keeps⟩
    exact congrArg (Option.map (·.anchor)) top
  · subst provisional
    obtain ⟨notes, notesGoing, written⟩ := writes moving
    let w := s.closeWritten notes sticky ⟨.provisional, a, pushed⟩ line
    have ruling : w.follow.slots[w.follow.top] = some ⟨.provisional, line, pushed⟩ := rules_top line
    have belowW : w.follow.slots[w.follow.top + 1] = some ⟨.fallback, b, under⟩ :=
      (slots_set_other _ _ (succ_ne_self _)).trans below
    have judges := provisional_of_top ruling
    intro term width nearer
    have fits : fitsFallback w g mean = true ↔ nearer := by
      have widthEq : halfWidth b.period s.cfg.windowFactor g.gapPrev g.gapNext = width := by
        simp only [halfWidth, width, term]
        cases g.gapPrev <;> cases g.gapNext <;> rfl
      have iff := fitsFallback_eq (mean := mean) belowW sum
      rw [show w.cfg = s.cfg from rfl, widthEq] at iff
      exact iff
    have farther (far : ¬nearer) : fitsFallback w g mean = false := Bool.eq_false_iff.2 fun near => far (fits.1 near)
    refine ⟨fun near => ?_, fun far first => ?_, fun far second => ?_⟩
    · have thirdW : w.follow.slots[w.follow.top + 2] = none := (slots_set_other _ _ (succ_succ_ne_self _)).trans third
      obtain ⟨notes', slots, popped, active, gone⟩ := pop_eq belowW thirdW
      obtain ⟨u, ran, m, moves, keeps⟩ := closes moving written ((judgeMatched_of_nearer judges (fits.2 near)).trans popped)
        ⟨rfl, rfl, rfl, rfl, rfl, rfl, rfl, resumeSlip_channels none _, rfl, rfl, rfl, rfl, rfl, rfl, rfl⟩ rfl rfl rfl rfl rfl rfl rfl
      have rules := m.ruling.trans active
      rw [testExhausted_of_unprovisional (unprovisional_of_active rules)] at ran
      refine ⟨u, ran, m.top, rules, (m.slots _).trans gone, m.confirmCount, moves, keeps, fun e x here held note => ?_⟩
      obtain ⟨key, note⟩ := note
      exact m.table ▸ resumeSlip_table here held note
    · obtain ⟨u, ran, m, moves, keeps⟩ := closes moving written (judgeMatched_of_first judges (farther far) first)
        ⟨rfl, rfl, rfl, rfl, rfl, rfl, rfl, rfl, rfl, rfl, rfl, rfl, rfl, rfl, rfl⟩ rfl rfl rfl rfl rfl rfl rfl
      rw [testExhausted_of_unended (m.ended.trans unended)] at ran
      exact ⟨u, ran, m.top, m.ruling.trans ruling, m.confirmCount, (m.slots _).trans belowW, m.table, moves, keeps⟩
    · have confirmed : confirmTop w = { w with follow := w.follow.confirm, sched := freeSlip w.sched } :=
        testHymnEnd_of_going (notesGoing.trans going)
      obtain ⟨active, dropped⟩ := confirm_slots ruling belowW
      obtain ⟨u, ran, m, moves, keeps⟩ := closes moving written ((judgeMatched_of_second judges (farther far) second).trans confirmed)
        ⟨rfl, rfl, rfl, rfl, rfl, rfl, rfl, mapActions_channels _ _, rfl, rfl, rfl, rfl, rfl, rfl, rfl⟩ rfl rfl rfl rfl rfl rfl rfl
      have rules := m.ruling.trans active
      rw [testExhausted_of_unprovisional (unprovisional_of_active rules)] at ran
      refine ⟨u, ran, m.top, rules, m.confirmCount, (m.slots _).trans dropped, moves, keeps, fun e x here => ?_⟩
      have entry : u.sched.table[e] = if x.heldFor .slip then none else some x := m.table ▸ freeSlip_table here
      exact ⟨fun held => entry.trans (if_pos held), fun other => entry.trans (if_neg (by rw [other]; exact Bool.false_ne_true))⟩

end

section
/-! What the gather unit takes, opens and closes (R85, R89 to R94): one rule per operation, in the terms of the statements. -/

namespace Sys2Proof.Machine

variable {s : State} {u : GatherUnit} {g : Gather} {o : Observation} {rest : List Observation} {opens : List Gather}

/-! ## Takings (R85) -/

theorem nextTaking_of_head (inPlay : s.inPlay = true) (free : s.gather.taking = .free) (queue : s.gather.queue = o :: rest) :
    nextTaking o.kind s = some o := by
  unfold nextTaking
  rw [free, queue]
  exact if_pos (by rw [inPlay]; simp)

theorem inWindow_iff {first last t : Time} : inWindow first last t = true ↔ 0 ≤ since t first ∧ 0 ≤ since last t := by
  simp [inWindow, reached]

theorem hasSource_iff {source : Source} {members : List Observation} : hasSource source members = true ↔ ∃ m ∈ members, m.source = source := by
  simp [hasSource]

theorem not_hasSource_of_new {source : Source} {members : List Observation} (new : ∀ m ∈ members, m.source ≠ source) :
    ¬hasSource source members = true := fun has =>
  have ⟨m, mem, same⟩ := hasSource_iff.1 has
  new m mem same

/-! ## The stale boundary and the pool (R92, R97) -/

/-- The stale boundary over open gathers and the time that stands for them when there are none. -/
def boundaryOver (opens : List Gather) (alone : Time) : Time :=
  match opens with
  | x :: _ => x.window.first
  | [] => alone

theorem staleBoundary_of_opened (opened : u.opens = opens ++ [g]) : u.staleBoundary = boundaryOver opens g.window.first := by
  unfold GatherUnit.staleBoundary
  rw [opened]
  cases opens <;> rfl

/-- The newest window of the record is the one recorded last. -/
theorem recordClosed_newest (u : GatherUnit) (w : Window) : (u.recordClosed w).closed.getLast? = some w := by
  change ((u.closed ++ [w]).drop (u.closed.length + 1 - 2)).getLast? = some w
  rw [List.drop_append_of_le_length (by omega), List.getLast?_concat]

theorem staleBoundary_of_recorded (u : GatherUnit) (w : Window) : (u.recordClosed w).staleBoundary = boundaryOver u.opens w.last := by
  have newest := recordClosed_newest u w
  have still : (u.recordClosed w).opens = u.opens := rfl
  unfold GatherUnit.staleBoundary
  rw [newest, still]
  cases u.opens <;> rfl

/-- Among gathers of different marks, one removed leaves the others. -/
theorem filter_mark_middle {pre post : List Gather} (apart : ∀ x ∈ pre ++ post, x.mark ≠ g.mark) :
    ((pre ++ g :: post).filter fun x => x.mark != g.mark) = pre ++ post := by
  rw [List.filter_append, List.filter_cons_of_neg (by simp), ← List.filter_append]
  exact List.filter_eq_self.2 fun x mem => by simpa using apart x mem

/-- A gather closed and handed over, when the others of the open set are known (R94). -/
theorem closeGather_eq (others : u.opens.filter (fun x => x.mark != g.mark) = opens) :
    closeGather g u =
      { u with
        opens := opens, taking := .close g
        closed := (u.closed ++ [g.window]).drop (u.closed.length + 1 - 2)
        pool := u.pool.filter fun x => decide (0 ≤ since x.time (boundaryOver opens g.window.last)) } := by
  unfold closeGather
  rw [others, GatherUnit.prunePool, staleBoundary_of_recorded]
  rfl

end Sys2Proof.Machine
end

section
/-! Releases counted in the hold record (R141, R142). -/

namespace Sys2Proof.Machine

variable {s : State} {h : HoldRecord} {o : Observation} {quorum : Nat}

theorem count_of_counting (undue : h.due = false) (after : 0 ≤ since o.time h.threshold) (new : o.source ∉ h.sources) :
    h.count o quorum =
      { h with
        sum := h.sum + o.weight, sources := h.sources ++ [o.source], due := decide (quorum ≤ h.sum + o.weight) } := by
  refine if_neg ?_
  simp [undue, after, new]

theorem count_of_passed_over (passed : h.due = true ∨ since o.time h.threshold < 0 ∨ o.source ∈ h.sources) : h.count o quorum = h := by
  refine if_pos ?_
  rw [Bool.or_eq_true, Bool.or_eq_true, decide_eq_true_eq, List.contains_iff_mem, or_assoc]
  exact passed

theorem releaseTaken_eq {rest : List Observation} (inPlay : s.inPlay = true) (free : s.gather.taking = .free)
    (queue : s.gather.queue = o :: rest) (kind : o.kind = .release) :
    exec .releaseTaken s =
      .next
        (if s.play.state = .holding then
          { s with gather.queue := rest, follow.hold := s.follow.hold.map fun h => h.count o s.cfg.quorum }
        else { s with gather.queue := rest }) := by
  have next : nextTaking .release s = some o := kind ▸ nextTaking_of_head inPlay free queue
  change execReleaseTaken s = _
  rw [execReleaseTaken, next, queue]
  exact act_of_due rfl

theorem holdLimitExpiry_of_due (holding : s.play.state = .holding) (hold : s.follow.hold = some h) (undue : h.due = false)
    (expired : 0 ≤ since s.now h.limit) :
    exec .holdLimitExpiry s = .next { s with follow.hold := some { h with due := true } } := by
  change execHoldLimitExpiry s = _
  rw [execHoldLimitExpiry, hold]
  exact act_of_due (by simp [holding, undue, reached, expired])

end Sys2Proof.Machine
end

section

open Sys2Proof Sys2Proof.Machine

/-- Settles O45: a RELEASE in LEADING and FOLLOWING, one counted and one passed over in HOLDING, and the hold limit. -/
theorem releasesCounted : Obligations.ReleasesCounted := by
  unfold Obligations.ReleasesCounted
  refine fun s => ⟨fun o rest free queue kind => ⟨fun moving => ?_, fun h holding hold => ?_⟩, fun h holding hold undue expired => ?_⟩
  · rw [releaseTaken_eq (inPlay_of_moving moving) free queue kind, if_neg fun holding => ?_]
    rw [not_moving_of_holding holding] at moving
    cases moving
  · have taken := releaseTaken_eq (inPlay_of_holding holding) free queue kind
    rw [if_pos holding, hold, Option.map_some] at taken
    refine ⟨fun undue after new => ?_, fun passed => ?_⟩
    · rw [taken, count_of_counting undue after new]
    · rw [taken, count_of_passed_over passed, ← hold]
  · exact holdLimitExpiry_of_due holding hold undue expired

end

section
/-! The next gather to open, its window, and what its opening leaves (R89, R90, R97, R101). -/

namespace Sys2Proof.Machine

variable {s : State} {m : Mark} {before rest : List Mark}

/-! ## The mark whose gather is next (R90, R101) -/

theorem gatherBegun_of_free {u : GatherUnit} {position : Nat} (free : u.taking = .free) :
    gatherBegun u position = true ↔ ∃ g ∈ u.opens, g.mark = position := by
  simp [gatherBegun, free]

/-- The first SUNG mark that is not yet begun, when those before it are (R90). -/
theorem firstSung_of_begun_before (free : s.gather.taking = .free) (queue : s.store.queue = before ++ m :: rest) (unserved : m.sung = .unserved)
    (unopened : ∀ g ∈ s.gather.opens, g.mark ≠ m.position)
    (begun : ∀ x ∈ before, x.sung = .unserved → ∃ g ∈ s.gather.opens, g.mark = x.position) :
    (firstSung s.store.queue fun x => !gatherBegun s.gather x.position) = some m := by
  have skipped : ∀ x ∈ before, ¬(x.sung == .unserved && !gatherBegun s.gather x.position) = true := by
    intro x mem test
    rw [Bool.and_eq_true, beq_iff_eq, Bool.not_eq_true', ← Bool.not_eq_true, gatherBegun_of_free free] at test
    exact test.2 (begun x mem test.1)
  have chosen : (m.sung == .unserved && !gatherBegun s.gather m.position) = true := by
    rw [Bool.and_eq_true, beq_iff_eq, Bool.not_eq_true', ← Bool.not_eq_true, gatherBegun_of_free free]
    exact ⟨unserved, fun ⟨g, mem, mark⟩ => unopened g mem mark⟩
  rw [firstSung, queue, List.find?_append, List.find?_eq_none.2 skipped, Option.none_or]
  exact List.find?_cons_of_pos chosen

section
variable (first : (firstSung s.store.queue fun x => !gatherBegun s.gather x.position) = some m)
include first

theorem nextToOpen_of_allowed (allowed : ∀ h, s.play.state = .holding → s.holdPoint = some h → m.position ≤ h) : nextToOpen s = some m := by
  rw [nextToOpen, first, Option.filter_some]
  refine if_pos ?_
  split
  · rename_i h holding hold
    exact decide_eq_true (allowed h holding hold)
  · rfl

theorem nextToOpen_of_past {h : Nat} (holding : s.play.state = .holding) (hold : s.holdPoint = some h) (past : h < m.position) :
    nextToOpen s = none := by
  rw [nextToOpen, first, Option.filter_some, holding, hold]
  exact if_neg (by simpa using past)

end

/-! ## Its window (R89) -/

/-- The next SUNG mark after one is looked for behind that one. -/
theorem nextSung_of_behind (behind : ∀ x ∈ before, x.position ≤ m.position) :
    ((before ++ m :: rest).find? fun x => decide (x.sung ≠ .absent ∧ m.position < x.position)) =
      rest.find? fun x => decide (x.sung ≠ .absent ∧ m.position < x.position) := by
  rw [List.find?_append, List.find?_eq_none.2 fun x mem => ?_, Option.none_or, List.find?_cons_of_neg]
  · simp
  · simpa using fun _ => behind x mem

/-! ## Its opening (R90, R94) -/

theorem openGather_eq (position : Nat) (s : State) :
    openGather position s =
      let g := newGather s position
      { s with
        gather :=
          { s.gather with
            previousSung := some position, opens := s.gather.opens ++ [g]
            pool := s.gather.pool.filter fun x =>
              decide (0 < since x.time g.window.last ∧ 0 ≤ since x.time (boundaryOver s.gather.opens g.window.first)) } } := by
  unfold openGather GatherUnit.prunePool
  dsimp only
  rw [staleBoundary_of_opened rfl, List.filter_filter]
  simp only [Bool.decide_and, Bool.and_comm]

theorem gatherOpen_of_none (none : openDue s = none) : exec .gatherOpen s = .next s := by
  change execGatherOpen s = _
  rw [execGatherOpen, none]
  exact act_of_not_due rfl

theorem gatherOpen_of_due (free : s.gather.taking = .free) (due : openDue s = some m) :
    exec .gatherOpen s =
      .next
        (let t := openGather m.position s
         if reached (newGather s m.position).expiry s.now then { t with gather := closeGather (newGather s m.position) t.gather } else t) := by
  have still : (openGather m.position s).gather.taking = .free := free
  have newest : (openGather m.position s).gather.opens.getLast? = some (newGather s m.position) := List.getLast?_concat
  change execGatherOpen s = _
  rw [execGatherOpen, due]
  dsimp only
  rw [still, newest]
  exact act_of_due rfl

theorem openDue_of_next (inPlay : s.inPlay = true) (room : s.gather.opens.length < 2) (next : nextToOpen s = some m) :
    openDue s = if 0 ≤ since s.now (newGather s m.position).window.first then some m else none := by
  rw [openDue, inPlay, decide_eq_true room, next]
  simp [reached, Option.filter_some]

theorem openDue_of_full (full : 2 ≤ s.gather.opens.length) : openDue s = none :=
  if_neg (by simpa using fun _ => Nat.lt_of_succ_le full)

theorem openDue_of_no_next (none : nextToOpen s = none) : openDue s = Option.none := by
  rw [openDue, none]
  exact ite_self _

/-! ## The close expiry (R94) -/

theorem filter_mark_eraseIdx {opens : List Gather} {g : Gather} {i : Nat} (here : opens[i]? = some g)
    (apart : opens.Pairwise fun a b => a.mark ≠ b.mark) : (opens.filter fun x => x.mark != g.mark) = opens.eraseIdx i := by
  induction opens generalizing i with
  | nil => cases here
  | cons x xs ih =>
    obtain ⟨first, others⟩ := List.pairwise_cons.1 apart
    cases i with
    | zero =>
      cases here
      rw [List.filter_cons_of_neg (by simp), List.eraseIdx_cons_zero]
      exact List.filter_eq_self.2 fun y mem => by simpa using (first y mem).symm
    | succ i =>
      have mem : g ∈ xs := List.mem_of_getElem? here
      rw [List.filter_cons_of_pos (by simpa using first g mem), List.eraseIdx_cons_succ, ih here others]

theorem gatherCloseExpiry_of_due {which : Fin 2} {g : Gather} (inPlay : s.inPlay = true) (free : s.gather.taking = .free)
    (here : s.gather.opens[which.val]? = some g) (expired : 0 ≤ since s.now g.expiry) :
    exec (.gatherCloseExpiry which) s = .next { s with gather := closeGather g s.gather } := by
  change execGatherCloseExpiry which s = _
  rw [execGatherCloseExpiry, here]
  exact act_of_due (by simp [inPlay, free, reached, expired])

end Sys2Proof.Machine
end

section

open Sys2Proof Sys2Proof.Machine

/-- Settles O46: the next gather opened, opened and closed at once, or not opened, and an open gather that expires. -/
theorem gathersOpenAndClose : Obligations.GathersOpenAndClose := by
  unfold Obligations.GathersOpenAndClose
  refine fun s free => ⟨fun before m rest inPlay room queue unserved unopened ahead => ?_, fun full => ?_,
    fun which g inPlay here apart expired => ?_⟩
  · intro p t gapPrev gapNext cut w window g oldest boundary pool
    have first := firstSung_of_begun_before free queue unserved unopened fun x mem => (ahead x mem).2
    have new : newGather s m.position = g := by
      rw [newGather, refreshGather_eq, Gather.underLine]
      dsimp only
      rw [queue, nextSung_of_behind fun x mem => (ahead x mem).1]
      rfl
    have opened := openGather_eq m.position s
    rw [new] at opened
    refine ⟨fun allowed started => ?_, fun held => ?_⟩
    · have due := openDue_of_next inPlay room (nextToOpen_of_allowed first allowed)
      rw [new, if_pos started] at due
      have ran := gatherOpen_of_due free due
      rw [new, opened] at ran
      refine ⟨fun early => ran.trans (congrArg _ (if_neg ?_)), fun late => ran.trans (congrArg _ ((if_pos (decide_eq_true late)).trans ?_))⟩
      · simpa [reached] using early
      · have others : ((s.gather.opens ++ [g]).filter fun x => x.mark != g.mark) = s.gather.opens :=
          (filter_mark_middle fun x mem => unopened x (by simpa using mem)).trans (List.append_nil _)
        rw [closeGather_eq others]
        rfl
    · refine gatherOpen_of_none ?_
      by_cases past : ∃ h, s.play.state = .holding ∧ s.holdPoint = some h ∧ h < m.position
      · obtain ⟨h, holding, hold, past⟩ := past
        exact openDue_of_no_next (nextToOpen_of_past first holding hold past)
      · have allowed (h : Nat) (holding : s.play.state = .holding) (hold : s.holdPoint = some h) : m.position ≤ h :=
          not_lt.1 fun past' => past ⟨h, holding, hold, past'⟩
        rw [openDue_of_next inPlay room (nextToOpen_of_allowed first allowed), new]
        exact if_neg (not_le.2 (held.resolve_right past))
  · exact gatherOpen_of_none (openDue_of_full full)
  · rw [gatherCloseExpiry_of_due inPlay free here expired, closeGather_eq (filter_mark_eraseIdx here apart)]
    rfl

end

section
/-! Signed differences of times, spans of time, the order of a list and the rounded quotient, as the pool uses them (R1, R2, R98). -/

namespace Sys2Proof.Machine

variable {a b c : Time}

/-! ## Signed differences of times (R1) -/

theorem since_self (a : Time) : since a a = 0 := by rw [since, sub_self]; rfl

theorem eq_of_since_eq_zero (zero : since a b = 0) : a = b := sub_eq_zero.1 (BitVec.toInt_inj.1 zero)

theorem since_neg_of_pos (later : 0 < since a b) : since b a < 0 := by
  simpa [reached] using not_reached_of_pos later

/-- Differences of times that lie near each other add up. -/
theorem since_add (near : (since a b).natAbs < 2 ^ 30) (near' : (since b c).natAbs < 2 ^ 30) : since a b + since b c = since a c := by
  have split : a - c = a - b + (b - c) := (sub_add_sub_cancel a b c).symm
  have whole : since a c = (since a b + since b c).bmod (2 ^ 32) := by rw [since, split, BitVec.toInt_add]; rfl
  rw [whole, Int.bmod_eq_of_le] <;> omega

theorem addTicks_zero (a : Time) : addTicks a 0 = a := add_zero a

/-- A short span of time from a moment on, both ends included. -/
theorem inWindow_span {length : Nat} (short : length ≤ 3000) :
    inWindow a (addTicks a length) b = (decide (0 ≤ since b a) && decide (since b a ≤ length)) := by
  have rearranged : a + BitVec.ofInt 32 length - b = BitVec.ofInt 32 length - (b - a) := by abel
  have ticks : (BitVec.ofInt 32 length).toInt = length := BitVec.toInt_ofInt_eq_self (by decide) (by omega) (by omega)
  have left : since (addTicks a length) b = (length - since b a).bmod (2 ^ 32) := by
    rw [since, addTicks, rearranged, BitVec.toInt_sub, ticks]
    rfl
  have bound : since b a < 2 ^ 31 := BitVec.toInt_lt
  unfold inWindow reached
  rw [left]
  by_cases after : 0 ≤ since b a
  · rw [Int.bmod_eq_of_le (by omega) (by omega)]
    simp
  · simp [after]

/-! ## Lists put in order -/

section
variable {α : Type} {less : α → α → Bool} {key : α → Int} {x : α} {l : List α}

theorem insertBy_eq_orderedInsert {r : α → α → Prop} [DecidableRel r] (agrees : ∀ y ∈ l, less x y = decide (r x y)) :
    insertBy less x l = l.orderedInsert r x := by
  induction l with
  | nil => rfl
  | cons y ys ih =>
    rw [insertBy, List.orderedInsert_cons, agrees y List.mem_cons_self, ih fun z mem => agrees z (List.mem_cons_of_mem _ mem)]
    simp only [decide_eq_true_eq]

theorem orderBy_eq_insertionSort {r : α → α → Prop} [DecidableRel r] (agrees : ∀ x ∈ l, ∀ y ∈ l, (!less y x) = decide (r x y)) :
    orderBy less l = l.insertionSort r := by
  induction l with
  | nil => rfl
  | cons x xs ih =>
    rw [orderBy, List.insertionSort_cons,
      ih fun y mem z mem' => agrees y (List.mem_cons_of_mem _ mem) z (List.mem_cons_of_mem _ mem')]
    exact insertBy_eq_orderedInsert fun y mem =>
      agrees x List.mem_cons_self y (List.mem_cons_of_mem _ ((List.mem_insertionSort r).1 mem))

theorem mem_orderBy : x ∈ orderBy less l ↔ x ∈ l := by
  rw [orderBy_eq_insertionSort (r := fun x y => (!less y x) = true) fun _ _ _ _ => Bool.decide_eq_true.symm]
  exact List.mem_insertionSort _

/-- A comparison by a key puts the keys in rising order. -/
theorem orderBy_pairwise (keyed : ∀ x ∈ l, ∀ y ∈ l, less x y = decide (key x < key y)) :
    (orderBy less l).Pairwise fun x y => key x ≤ key y := by
  rw [orderBy_eq_insertionSort (r := key ⁻¹'o (· ≤ ·)) fun x mem y mem' => ?_]
  · exact List.pairwise_insertionSort (key ⁻¹'o (· ≤ ·)) l
  · rw [keyed y mem' x mem, ← decide_not, decide_eq_decide]
    exact not_lt

/-- The first element of an order by key that passes a test, against one that passes it while none of a lower key does. -/
theorem find?_orderBy {e : α} {test : α → Bool} (keyed : ∀ x ∈ l, ∀ y ∈ l, less x y = decide (key x < key y)) (mem : e ∈ l)
    (passes : test e = true) (least : ∀ x ∈ l, key x < key e → test x = false) :
    ∃ m ∈ l, (orderBy less l).find? test = some m ∧ key m = key e := by
  obtain ⟨m, found⟩ := Option.isSome_iff_exists.1 (List.find?_isSome.2 ⟨e, mem_orderBy.2 mem, passes⟩)
  obtain ⟨passes', before, after, eq, fail⟩ := List.find?_eq_some_iff_append.1 found
  have memM : m ∈ l := mem_orderBy.1 (List.mem_of_find?_eq_some found)
  refine ⟨m, memM, found, le_antisymm ?_ (not_lt.1 fun lower => ?_)⟩
  · have memE : e ∈ before ++ m :: after := eq ▸ mem_orderBy.2 mem
    have sorted := orderBy_pairwise keyed
    rw [eq, List.pairwise_append] at sorted
    rcases List.mem_append.1 memE with early | late
    · have failed := fail e early
      rw [passes] at failed
      cases failed
    · rcases List.mem_cons.1 late with rfl | later
      · exact le_rfl
      · exact (List.pairwise_cons.1 sorted.2.1).1 e later
  · rw [least m memM lower] at passes'
    cases passes'

end

/-! ## The rounded quotient (R2) -/

theorem roundDiv_zero {d : Int} (pos : 0 < d) : roundDiv 0 d = 0 := (if_pos le_rfl).trans (Int.ediv_eq_zero_of_lt (by omega) (by omega))

/-- A rounded quotient lies nearest, and a tie is rounded away from zero. -/
theorem roundDiv_nearest (n : Int) {w : Nat} (pos : 0 < w) :
    2 * (w * roundDiv n w - n).natAbs ≤ w ∧ (2 * (w * roundDiv n w - n).natAbs = w → n.natAbs < (w * roundDiv n w).natAbs) := by
  have nearest (m : Int) (nonneg : 0 ≤ m) :
      ∃ k : Int, w * ((2 * m + w) / (2 * w)) = k ∧ 2 * k ≤ 2 * m + w ∧ 2 * m + w < 2 * k + 2 * w ∧ 0 ≤ k := by
    have whole := Int.mul_ediv_add_emod (2 * m + w) (2 * w)
    have low := Int.emod_nonneg (2 * m + w) (b := 2 * w) (by omega)
    have high := Int.emod_lt_of_pos (2 * m + w) (b := 2 * w) (by omega)
    have kept : 0 ≤ (w : Int) * ((2 * m + w) / (2 * w)) := Int.mul_nonneg (by omega) (Int.ediv_nonneg (by omega) (by omega))
    rw [mul_assoc] at whole
    exact ⟨_, rfl, by omega, by omega, kept⟩
  unfold roundDiv
  by_cases nonneg : 0 ≤ n
  · obtain ⟨k, eq, low, high, kept⟩ := nearest n nonneg
    rw [if_pos nonneg, eq]
    omega
  · obtain ⟨k, eq, low, high, kept⟩ := nearest (-n) (by omega)
    rw [if_neg nonneg, mul_neg, eq]
    omega

end Sys2Proof.Machine
end

section
/-! The unmatched pool and its clusters (R97, R98). -/

namespace Sys2Proof.Machine

variable {s : State} {o e : Observation} {pool others : List Observation} {period quorum seed : Nat}

/-! ## Members by source -/

/-- Among members of different sources, a source names one member. -/
theorem eq_of_source {x y : Observation} (apart : pool.Pairwise fun x y => x.source ≠ y.source) (mem : x ∈ pool) (mem' : y ∈ pool)
    (same : x.source = y.source) : x = y :=
  List.inj_on_of_nodup_map (List.pairwise_map.2 apart) mem mem' same

/-- An ONSET beside the members of the other sources. -/
theorem pairwise_source_concat (apart : others.Pairwise fun x y => x.source ≠ y.source) (other : ∀ m ∈ others, m.source ≠ o.source) :
    (others ++ [o]).Pairwise fun x y => x.source ≠ y.source :=
  List.pairwise_append.2 ⟨apart, List.pairwise_singleton _ _, fun x mem _ last => List.mem_singleton.1 last ▸ other x mem⟩

theorem hasSource_sublist_iff {members : List Observation} (apart : pool.Pairwise fun x y => x.source ≠ y.source)
    (within : members.Sublist pool) {m : Observation} (mem : m ∈ pool) : hasSource m.source members = members.contains m := by
  rw [Bool.eq_iff_iff, hasSource_iff, List.contains_iff_mem]
  exact ⟨fun ⟨x, here, same⟩ => eq_of_source apart (within.subset here) mem same ▸ here, fun here => ⟨m, here, rfl⟩⟩

/-! ## Entering the pool (R97) -/

theorem enterPool_of_room (eq : (pool.filter fun m => m.source != o.source) = others) (room : others.length < 8) :
    enterPool o pool seed = some (others ++ [o]) := by
  rw [enterPool, eq]
  exact if_pos room

/-- A member earlier than every other one is the one that is earliest. -/
theorem earliestOf_eq (mem : e ∈ pool) (apart : pool.Pairwise fun x y => x.source ≠ y.source)
    (earliest : ∀ m ∈ pool, m ≠ e → 0 < since m.time e.time) : earliestOf pool = [e] := by
  have nodup : pool.Nodup := apart.imp fun differ same => differ (congrArg _ same)
  have only : ∀ m ∈ pool, (!pool.any fun x => earlierThan x m) = decide (m = e) := by
    intro m here
    rw [Bool.eq_iff_iff, Bool.not_eq_true', List.any_eq_false, decide_eq_true_eq]
    simp only [earlierThan, decide_eq_true_eq, not_lt]
    constructor
    · intro first
      by_contra other
      exact absurd (first e mem) (not_le.2 (since_neg_of_pos (earliest m here other)))
    · rintro rfl x here'
      by_cases same : x = m
      · rw [same, since_self]
      · exact (earliest x here' same).le
  rw [earliestOf, List.filter_congr only, List.filter_eq, List.count_eq_one_of_mem nodup mem]
  rfl

/-- At a full pool the earliest member makes room for a later ONSET. -/
theorem enterPool_of_full (eq : (pool.filter fun m => m.source != o.source) = others) (full : others.length = 8)
    (earliest : earliestOf others = [e]) (later : 0 < since o.time e.time) :
    enterPool o pool seed = some ((others.filter fun m => m.source != e.source) ++ [o]) := by
  have differ : o.time ≠ e.time := by
    intro same
    rw [same, since_self] at later
    exact lt_irrefl _ later
  have enters : ¬(earlierThan o e || (o.time == e.time && !Config.poolTieEnters seed)) = true := by
    simp [earlierThan, later.le, differ]
  have leaver : [e].getD (Config.poolTieLeaver seed % [e].length) e = e := by
    rw [List.length_singleton, Nat.mod_one]
    rfl
  rw [enterPool, eq, if_neg (by rw [full]; decide), enterFull, earliest]
  dsimp only
  rw [if_neg enters, leaver]

/-! ## Clusters (R98) -/

theorem spanFrom_eq (short : period ≤ 24000) (start : Time) (pool : List Observation) :
    spanFrom (period / 8) start pool =
      pool.filter fun x => decide (0 ≤ since x.time start) && decide (since x.time start ≤ (period / 8 : Int)) :=
  List.filter_congr fun x _ => inWindow_span (b := x.time) (by omega)

theorem weightSum_le_of_sublist {members : List Observation} (within : members.Sublist pool) : weightSum members ≤ weightSum pool :=
  (within.map _).sum_le_sum fun _ _ => Nat.zero_le _

theorem findCluster_eq_none (below : ∀ m ∈ pool, weightSum (spanFrom (period / 8) m.time pool) < quorum) :
    findCluster period quorum pool = none := by
  have none : ((orderBy earlierThan pool).find? fun m => decide (quorum ≤ weightSum (spanFrom (period / 8) m.time pool))) = none :=
    List.find?_eq_none.2 fun m mem => by simpa using below m (mem_orderBy.1 mem)
  rw [findCluster, none]
  rfl

/-- A pool whose weights together stay below the quorum has no cluster. -/
theorem findCluster_eq_none_of_light (light : weightSum pool < quorum) : findCluster period quorum pool = none :=
  findCluster_eq_none fun _ _ => (weightSum_le_of_sublist List.filter_sublist).trans_lt light

/-- Members that lie near each other are put in the order of their differences from one of them. -/
theorem earlierThan_eq_of_near (mem : e ∈ pool) (near : ∀ x ∈ pool, ∀ y ∈ pool, (since x.time y.time).natAbs < 2 ^ 30) {x y : Observation}
    (memX : x ∈ pool) (memY : y ∈ pool) : earlierThan x y = decide (since x.time e.time < since y.time e.time) := by
  have sum := since_add (near x memX y memY) (near y memY e mem)
  rw [earlierThan, decide_eq_decide]
  omega

/-- The first span that reaches the quorum makes the cluster; members of one time span the same. -/
theorem findCluster_of_first (mem : e ∈ pool) (near : ∀ x ∈ pool, ∀ y ∈ pool, (since x.time y.time).natAbs < 2 ^ 30)
    (reaches : quorum ≤ weightSum (spanFrom (period / 8) e.time pool))
    (first : ∀ m ∈ pool, since m.time e.time < 0 → weightSum (spanFrom (period / 8) m.time pool) < quorum) :
    findCluster period quorum pool =
      some ⟨spanFrom (period / 8) e.time pool, addTicks e.time (meanFrom e.time (spanFrom (period / 8) e.time pool))⟩ := by
  have keyed : ∀ x ∈ pool, ∀ y ∈ pool, earlierThan x y = decide (since x.time e.time < since y.time e.time) :=
    fun _ memX _ memY => earlierThan_eq_of_near mem near memX memY
  have least : ∀ m ∈ pool, since m.time e.time < since e.time e.time →
      decide (quorum ≤ weightSum (spanFrom (period / 8) m.time pool)) = false :=
    fun m here earlier => decide_eq_false (not_le.2 (first m here (earlier.trans_eq (since_self e.time))))
  obtain ⟨m, -, found, level⟩ :=
    find?_orderBy (less := earlierThan) (e := e) (key := fun x => since x.time e.time)
      (test := fun m => decide (quorum ≤ weightSum (spanFrom (period / 8) m.time pool))) keyed mem (decide_eq_true reaches) least
  have same : m.time = e.time := eq_of_since_eq_zero (level.trans (since_self e.time))
  rw [findCluster, found, ← same]
  rfl

/-- An ONSET alone in the pool that reaches the quorum is a cluster at its own time. -/
theorem findCluster_singleton (short : period ≤ 24000) (weighs : 1 ≤ o.weight) (reaches : quorum ≤ o.weight) :
    findCluster period quorum [o] = some ⟨[o], o.time⟩ := by
  have whole : spanFrom (period / 8) o.time [o] = [o] := by
    rw [spanFrom_eq short]
    refine List.filter_eq_self.2 fun x mem => ?_
    rw [List.mem_singleton.1 mem, since_self, decide_eq_true le_rfl, decide_eq_true (by omega)]
    rfl
  have weight : weightSum [o] = o.weight := List.sum_singleton
  have mean : meanFrom o.time [o] = 0 := by
    rw [meanFrom, weight, List.map_singleton, since_self, mul_zero, List.sum_singleton]
    exact roundDiv_zero (by omega)
  rw [findCluster_of_first (List.mem_singleton_self o) (by simp [since_self]) (by rw [whole, weight]; exact reaches) (by simp [since_self]),
    whole, mean, addTicks_zero]

/-! ## An ONSET put to the pool -/

theorem poolOnset_of_apart (enters : enterPool o s.gather.pool s.clock.opened = some pool) (none : findCluster s.period s.cfg.quorum pool = none) :
    poolOnset o s = { s with clock.opened := s.clock.opened + 1, gather.pool := pool } := by
  have apart :
      findCluster ({ s with clock.opened := s.clock.opened + 1 } : State).period
        ({ s with clock.opened := s.clock.opened + 1 } : State).cfg.quorum pool = Option.none := none
  unfold poolOnset State.takeFree
  dsimp only
  rw [enters]
  dsimp only
  rw [apart]

theorem poolOnset_of_cluster {c : Cluster} (enters : enterPool o s.gather.pool s.clock.opened = some pool)
    (found : findCluster s.period s.cfg.quorum pool = some c) (apart : pool.Pairwise fun x y => x.source ≠ y.source)
    (within : c.members.Sublist pool) :
    poolOnset o s =
      { s with
        clock.opened := s.clock.opened + 1
        gather := { s.gather with pool := pool.filter fun x => !c.members.contains x, taking := .cluster c } } := by
  have left : (pool.filter fun m => !hasSource m.source c.members) = pool.filter fun x => !c.members.contains x :=
    List.filter_congr fun m mem => by rw [hasSource_sublist_iff apart within mem]
  have completed :
      findCluster ({ s with clock.opened := s.clock.opened + 1 } : State).period
        ({ s with clock.opened := s.clock.opened + 1 } : State).cfg.quorum pool = some c := found
  unfold poolOnset State.takeFree
  dsimp only
  rw [enters]
  dsimp only
  rw [completed]
  dsimp only
  rw [left]

end Sys2Proof.Machine
end

section
/-! ONSET_TAKEN (R85, R91, R92, R94): the open gather, the closed windows, the stale boundary, or the pool. -/

namespace Sys2Proof.Machine

variable {s : State} {o : Observation} {rest : List Observation} {g : Gather} {pre post : List Gather}

theorem onsetTaken_eq (inPlay : s.inPlay = true) (free : s.gather.taking = .free) (queue : s.gather.queue = o :: rest)
    (kind : o.kind = .onset) : exec .onsetTaken s = .next (judgeOnset o { s with gather.queue := rest }) := by
  have next : nextTaking .onset s = some o := kind ▸ nextTaking_of_head inPlay free queue
  change execOnsetTaken s = _
  rw [execOnsetTaken, next, queue]
  exact act_of_due rfl

/-! ## In the window of an open gather (R91, R94) -/

/-- An observation in a gather it has no source's member in yet. -/
def Gather.joined (g : Gather) (o : Observation) : Gather := { g with members := g.members ++ [o], sum := g.sum + o.weight }

theorem join_of_new (new : ∀ m ∈ g.members, m.source ≠ o.source) : g.join o = g.joined o :=
  if_neg (not_hasSource_of_new new)

theorem gatherAt_of_first {t : Time} (opens : s.gather.opens = pre ++ g :: post) (inside : inWindow g.window.first g.window.last t = true)
    (outside : ∀ x ∈ pre, inWindow x.window.first x.window.last t = false) : gatherAt s.gather t = some g := by
  rw [gatherAt, opens, List.find?_append, List.find?_eq_none.2 fun x mem => ne_true_of_eq_false (outside x mem), Option.none_or]
  exact List.find?_cons_of_pos inside

/-- Of gathers of different marks, one of the open set replaced leaves the others. -/
theorem replaceOpen_eq {u : GatherUnit} {g' : Gather} (opens : u.opens = pre ++ g :: post) (others : ∀ x ∈ pre ++ post, x.mark ≠ g.mark)
    (same : g'.mark = g.mark) : u.replaceOpen g' = { u with opens := pre ++ g' :: post } := by
  have kept (l : List Gather) (apart : ∀ x ∈ l, x.mark ≠ g.mark) : (l.map fun x => if x.mark = g'.mark then g' else x) = l :=
    (List.map_congr_left fun x mem => if_neg (by rw [same]; exact apart x mem)).trans (List.map_id' l)
  rw [GatherUnit.replaceOpen, opens, List.map_append, List.map_cons, if_pos same.symm, kept pre fun x mem => others x (List.mem_append_left _ mem),
    kept post fun x mem => others x (List.mem_append_right _ mem)]

theorem closeAtQuorum_eq {u : GatherUnit} (quorum : Nat) (opens : u.opens = pre ++ g :: post) (others : ∀ x ∈ pre, x.mark ≠ g.mark) :
    closeAtQuorum quorum g.mark u = if quorum ≤ g.sum then closeGather g u else u := by
  have found : (u.opens.find? fun x => x.mark == g.mark) = some g := by
    rw [opens, List.find?_append, List.find?_eq_none.2 fun x mem => by simpa using others x mem, Option.none_or]
    exact List.find?_cons_of_pos (beq_self_eq_true g.mark)
  rw [closeAtQuorum, found]

theorem judgeOnset_of_member (at_ : gatherAt s.gather o.time = some g) (member : ∃ m ∈ g.members, m.source = o.source) :
    judgeOnset o s = s := by
  rw [judgeOnset, at_]
  exact if_pos (hasSource_iff.2 member)

theorem judgeOnset_of_new (at_ : gatherAt s.gather o.time = some g) (new : ∀ m ∈ g.members, m.source ≠ o.source)
    (opens : s.gather.opens = pre ++ g :: post) (others : ∀ x ∈ pre ++ post, x.mark ≠ g.mark) :
    judgeOnset o s =
      let u : GatherUnit := { s.gather with opens := pre ++ g.joined o :: post }
      { s with gather := if s.cfg.quorum ≤ g.sum + o.weight then closeGather (g.joined o) u else u } := by
  rw [judgeOnset, at_]
  dsimp only
  rw [if_neg (not_hasSource_of_new new), join_of_new new, replaceOpen_eq (g' := g.joined o) opens others rfl]
  exact congrArg (fun u => { s with gather := u })
    (closeAtQuorum_eq (u := { s.gather with opens := pre ++ g.joined o :: post }) (g := g.joined o) s.cfg.quorum rfl fun x mem =>
      others x (List.mem_append_left _ mem))

/-! ## In no window of an open gather (R91, R92, R97) -/

section
variable (at_ : gatherAt s.gather o.time = none)
include at_

theorem judgeOnset_of_closed (closed : (s.gather.closed.any fun w => inWindow w.first w.last o.time) = true) : judgeOnset o s = s := by
  rw [judgeOnset, at_]
  exact if_pos closed

variable (unclosed : (s.gather.closed.any fun w => inWindow w.first w.last o.time) = false)
include unclosed

theorem judgeOnset_of_stale (stale : since o.time s.gather.staleBoundary < 0) :
    judgeOnset o s = takeException .stale (some (s.stationOf o.source, o.sequence)) s := by
  rw [judgeOnset, at_]
  dsimp only
  rw [unclosed, if_neg Bool.false_ne_true]
  exact if_pos stale

theorem judgeOnset_of_unmatched (fresh : 0 ≤ since o.time s.gather.staleBoundary) : judgeOnset o s = poolOnset o s := by
  rw [judgeOnset, at_]
  dsimp only
  rw [unclosed, if_neg Bool.false_ne_true]
  exact if_neg (not_lt.2 fresh)

end

end Sys2Proof.Machine
end

section

open Sys2Proof Sys2Proof.Machine

/-- Settles O44: an ONSET in the window of an open gather, in a closed one, before the stale boundary, and in the pool, which may complete a
cluster. -/
theorem onsetTaken : Obligations.OnsetTaken := by
  unfold Obligations.OnsetTaken
  intro o rest s inPlay free queue kind within taken others span weight boundary
  let t : State := { s with gather.queue := rest }
  have ran : exec .onsetTaken s = .next (judgeOnset o t) := onsetTaken_eq inPlay free queue kind
  have outside (w : Window) (out : ¬within w) : inWindow w.first w.last o.time = false :=
    Bool.eq_false_iff.2 fun inside => out (inWindow_iff.1 inside)
  refine ⟨fun pre g post opens inside before apart => ?_, fun unopened => ?_⟩
  · intro joined
    have at_ : gatherAt t.gather o.time = some g :=
      gatherAt_of_first (s := t) opens (inWindow_iff.2 inside) fun x mem => outside x.window (before x mem)
    refine ⟨fun member => ?_, fun new few => ?_, fun new reaches empty => ?_⟩
    · rw [ran, judgeOnset_of_member at_ member]
    · rw [ran, judgeOnset_of_new at_ new opens apart]
      exact congrArg (fun u => Host.Outcome.next { s with gather := u }) (if_neg (not_le.2 few))
    · have closed := closeGather_eq (g := joined) (u := { t.gather with opens := pre ++ joined :: post }) (filter_mark_middle apart)
      dsimp only at closed
      rw [show t.gather.pool = [] from empty, List.filter_nil, ← empty] at closed
      rw [ran, judgeOnset_of_new at_ new opens apart]
      exact congrArg (fun u => Host.Outcome.next { s with gather := u }) ((if_pos reaches).trans closed)
  · have at_ : gatherAt t.gather o.time = none :=
      List.find?_eq_none.2 fun x mem => ne_true_of_eq_false (outside x.window (unopened x mem))
    refine ⟨fun closed => ?_, fun unclosed => ?_⟩
    · obtain ⟨w, mem, inside⟩ := closed
      rw [ran, judgeOnset_of_closed at_ (List.any_eq_true.2 ⟨w, mem, inWindow_iff.2 inside⟩)]
    have no : (t.gather.closed.any fun w => inWindow w.first w.last o.time) = false :=
      List.any_eq_false.2 fun w mem => ne_true_of_eq_false (outside w (unclosed w mem))
    have unmatched (fresh : 0 ≤ since o.time boundary) : exec .onsetTaken s = .next (poolOnset o t) :=
      ran.trans (congrArg _ (judgeOnset_of_unmatched at_ no fresh))
    have enters (room : others.length < 8) : enterPool o t.gather.pool t.clock.opened = some (others ++ [o]) := enterPool_of_room rfl room
    have spans (short : s.period ≤ 24000) (pool : List Observation) (m : Observation) :
        spanFrom (t.period / 8) m.time pool = span pool m := spanFrom_eq short m.time pool
    refine ⟨fun stale masked => ?_, fun fresh room short below => ?_, fun e mem fresh full differ earliest later below => ?_,
      fun fresh alone weighs reaches short => ?_, fun e mem => ?_⟩
    · rw [ran, judgeOnset_of_stale at_ no stale, takeException_of_masked (s := t) inPlay masked]
      rfl
    · have calm : findCluster t.period t.cfg.quorum (others ++ [o]) = none := findCluster_eq_none fun m mem => by
        rw [spans short]
        exact below m mem
      rw [unmatched fresh, poolOnset_of_apart (enters room) calm]
    · have calm : findCluster t.period t.cfg.quorum (others.filter (fun m => m.source != e.source) ++ [o]) = none :=
        findCluster_eq_none_of_light ((weightSum_le_of_sublist (List.filter_sublist.append_right [o])).trans_lt below)
      have enters : enterPool o t.gather.pool t.clock.opened = some (others.filter (fun m => m.source != e.source) ++ [o]) :=
        enterPool_of_full rfl full (earliestOf_eq mem differ earliest) later
      rw [unmatched fresh, poolOnset_of_apart enters calm]
    · have enters : enterPool o t.gather.pool t.clock.opened = some [o] := by rw [enters (by rw [alone]; decide), alone]; rfl
      have left : ([o].filter fun x => !([o].contains x)) = [] := List.filter_eq_nil_iff.2 fun x mem => by simpa using mem
      rw [unmatched fresh, poolOnset_of_cluster enters (findCluster_singleton short weighs reaches) (List.pairwise_singleton _ _)
        (List.Sublist.refl _), left]
    · intro pool cluster moment fresh room differ near short positive reaches first
      have apart : pool.Pairwise fun x y => x.source ≠ y.source :=
        pairwise_source_concat differ fun m mem => by simpa using (List.mem_filter.1 mem).2
      obtain ⟨nearest, away⟩ := roundDiv_nearest moment (w := weight cluster) (by omega)
      have below (m : Observation) (mem : m ∈ pool) (earlier : since m.time e.time < 0) :
          weightSum (spanFrom (t.period / 8) m.time pool) < t.cfg.quorum := by
        rw [spans short]
        exact first m mem earlier
      have found := findCluster_of_first mem near (by rw [spans short]; exact reaches) below
      rw [spans short] at found
      refine ⟨_, nearest, away, ?_⟩
      rw [unmatched fresh, poolOnset_of_cluster (enters room) found apart List.filter_sublist]
      rfl

end

section
/-! The line of an anchor: the nearest tick to a position, and the beats of a line anchored on a whole beat (R2, R104). -/

namespace Sys2Proof.Machine

/-- A quotient without a remainder is not rounded. -/
theorem roundDiv_mul (k : Int) {w : Nat} (pos : 0 < w) : roundDiv (w * k) w = k := by
  have near := (roundDiv_nearest (w * k) pos).1
  rw [← mul_sub, Int.natAbs_mul, Int.natAbs_natCast] at near
  by_contra differ
  have whole : w * 1 ≤ w * (roundDiv (w * k) w - k).natAbs := Nat.mul_le_mul_left w (by omega)
  omega

variable {a : Anchor}

/-- On a line anchored on a whole beat, a beat lies as many whole periods from the anchor as it lies beats from it. -/
theorem timeOf_beat (whole : a.position % 24 = 0) (b : Nat) :
    a.timeOf (24 * b) = addTicks a.time (((b : Int) - (a.position / 24 : Nat)) * a.period) := by
  have distance : ((24 * b : Nat) : Int) - a.position = (24 : Nat) * ((b : Int) - (a.position / 24 : Nat)) := by omega
  rw [Anchor.timeOf, distance, mul_assoc]
  exact congrArg (addTicks a.time) (roundDiv_mul _ (by decide))

theorem timeOf_beat_succ (whole : a.position % 24 = 0) (b : Nat) :
    a.timeOf (24 * (b + 1)) = a.timeOf (24 * b) + BitVec.ofNat 32 a.period := by
  have further : (((b + 1 : Nat) : Int) - (a.position / 24 : Nat)) * a.period = ((b : Int) - (a.position / 24 : Nat)) * a.period + a.period := by
    push_cast
    ring
  rw [timeOf_beat whole, timeOf_beat whole, further, addTicks, addTicks, BitVec.ofInt_add, BitVec.ofInt_natCast, ← add_assoc]

end Sys2Proof.Machine
end

section

open Sys2Proof Sys2Proof.Machine

/-- Settles O17: the rounded quotient of the line is the nearest, and from a whole beat to a beat it has nothing to round. -/
theorem predictedTime : Obligations.PredictedTime := by
  unfold Obligations.PredictedTime
  intro a p
  obtain ⟨nearest, away⟩ := roundDiv_nearest (((p : Int) - a.position) * a.period) (w := 24) (by decide)
  exact ⟨⟨_, rfl, nearest, away⟩, fun whole b => ⟨timeOf_beat whole b, timeOf_beat_succ whole b⟩⟩

end

section
/-! The stack, the start step and the load (R46, R127, R202): shown move by move, as the periods are, and on their own. -/

namespace Sys2Proof.Machine

/-- The stack, the start and the load need no bound on the periods: whatever is reached from a station placed is placed. -/
theorem Reaches.placed {loads : Prop} {s t : State} (h : Reaches loads s t) (before : s.bearing.Placed) : t.bearing.Placed :=
  h.keeps (fun _ _ => Move.placed) before

end Sys2Proof.Machine

open Sys2Proof Sys2Proof.Machine

/-- Settles O8: a step goes by moves, and every move leaves the stack as the play state has it, a play state exactly once full start is done,
and a load only in LOADING. -/
theorem stackStaysLegal : Obligations.StackStaysLegal := by
  unfold Obligations.StackStaysLegal
  intro s t legal next
  rw [placed_iff] at legal ⊢
  exact (step_reaches s t next).placed legal

end

section
/-! The action table, the fire channels and the hold counts as R147, R152 and R155 have them, in terms that each change of them can be judged
by: how the actions pair, how the channels serve them, and how the counts number them. -/

namespace Sys2Proof.Machine

theorem vector_set_getElem {α : Type} {n : Nat} (v : Vector α n) (i j : Fin n) (x : α) : (v.set i x)[j] = if j = i then x else v[j] := by
  rw [Fin.getElem_fin, Vector.getElem_set]
  exact if_congr (by rw [Fin.ext_iff, eq_comm]) rfl rfl

/-! ## How the actions pair (R147, R163) -/

/-- A NOTE_ON and a NOTE_OFF of one key, in either order. -/
def Partners (k l : ActionKind) : Prop := ∃ key, k = .noteOn key ∧ l = .noteOff key ∨ k = .noteOff key ∧ l = .noteOn key

/-- An action with no partner in the table: a STOP, or a NOTE_OFF whose NOTE_ON has fired; it is not SLIP-held. -/
def Action.lone (a : Action) : Prop :=
  ((∃ stop coil, a.kind = .stop stop coil ∧ a.pair = .absent) ∨ ∃ key floor, a.kind = .noteOff key ∧ a.pair = .fired floor) ∧
    a.heldFor .slip = false

/-- Whether the action at an entry names a partner that names it back, SLIP-held only together, or has none to name. -/
structure PairsAt (table : Vector (Option Action) 64) (e : EntryNo) (a : Action) : Prop where
  named : ∀ p, a.pair = .entry p → ∃ b, table[p] = some b ∧ b.pair = .entry e ∧ Partners a.kind b.kind ∧ a.heldFor .slip = b.heldFor .slip
  lone : (∀ p, a.pair ≠ .entry p) → a.lone

/-- A table whose actions pair. -/
def Paired (table : Vector (Option Action) 64) : Prop := ∀ (e : EntryNo) (a : Action), table[e] = some a → PairsAt table e a

/-- What the pairing of an action turns on. -/
def Action.link (a : Action) : ActionKind × Pair × Bool := (a.kind, a.pair, a.heldFor .slip)

variable {table table' : Vector (Option Action) 64} {e p : EntryNo} {a b : Action}

theorem partners_noteOn {key : Key} {k : ActionKind} : Partners (.noteOn key) k ↔ k = .noteOff key := by simp [Partners]

theorem partners_noteOff {key : Key} {k : ActionKind} : Partners (.noteOff key) k ↔ k = .noteOn key := by simp [Partners]

theorem pairsAt_of_entry (pair : a.pair = .entry p) :
    PairsAt table e a ↔
      ∃ b, table[p] = some b ∧ b.pair = .entry e ∧ Partners a.kind b.kind ∧ a.heldFor .slip = b.heldFor .slip :=
  ⟨fun h => h.named p pair, fun partner => ⟨fun q pair' => by cases pair.symm.trans pair'; exact partner, fun alone => absurd pair (alone p)⟩⟩

theorem pairsAt_of_alone (alone : ∀ p, a.pair ≠ .entry p) : PairsAt table e a ↔ a.lone :=
  ⟨fun h => h.lone alone, fun lone => ⟨fun p pair => absurd pair (alone p), fun _ => lone⟩⟩

theorem pairLegal_iff : pairLegal table e a = true ↔ PairsAt table e a := by
  unfold pairLegal
  split
  · rename_i key p kind pair
    rw [pairsAt_of_entry pair, Option.any_eq_true]
    simp only [kind, partners_noteOn, Bool.and_eq_true, beq_iff_eq]
    exact exists_congr fun b => and_congr_right fun _ => by tauto
  · rename_i key p kind pair
    rw [pairsAt_of_entry pair, Option.any_eq_true]
    simp only [kind, partners_noteOff, Bool.and_eq_true, beq_iff_eq]
    exact exists_congr fun b => and_congr_right fun _ => by tauto
  · rename_i key floor kind pair
    rw [pairsAt_of_alone (by simp [pair])]
    simp [Action.lone, kind, pair]
  · rename_i stop coil kind pair
    rw [pairsAt_of_alone (by simp [pair])]
    simp [Action.lone, kind, pair]
  · rename_i noteOn noteOff fired stop
    refine iff_of_false Bool.false_ne_true fun h => ?_
    by_cases paired : ∃ p, a.pair = .entry p
    · obtain ⟨p, pair⟩ := paired
      obtain ⟨b, -, -, ⟨key, ⟨kind, -⟩ | ⟨kind, -⟩⟩, -⟩ := h.named p pair
      · exact noteOn key p kind pair
      · exact noteOff key p kind pair
    · obtain ⟨⟨n, coil, kind, pair⟩ | ⟨key, floor, kind, pair⟩, -⟩ := h.lone (not_exists.1 paired)
      · exact stop n coil kind pair
      · exact fired key floor kind pair

/-- Actions with the same links pair the same way. -/
theorem Paired.relinked (h : Paired table) (alike : ∀ e : EntryNo, (table'[e]).map Action.link = (table[e]).map Action.link) : Paired table' := by
  intro e b here
  obtain ⟨a, here', link⟩ : ∃ a, table[e] = some a ∧ a.link = b.link := Option.map_eq_some_iff.1 ((alike e).symm.trans (by rw [here]; rfl))
  obtain ⟨kind, pair, slip⟩ : a.kind = b.kind ∧ a.pair = b.pair ∧ a.heldFor .slip = b.heldFor .slip := by simpa [Action.link] using link
  obtain ⟨named, lone⟩ := h e a here'
  rw [pair, kind, slip] at named
  rw [pair] at lone
  refine ⟨fun p entry => ?_, fun alone => ?_⟩
  · obtain ⟨c, at_, back, partners, together⟩ := named p entry
    obtain ⟨d, at', link'⟩ : ∃ d, table'[p] = some d ∧ d.link = c.link := Option.map_eq_some_iff.1 ((alike p).trans (by rw [at_]; rfl))
    obtain ⟨kind', pair', slip'⟩ : d.kind = c.kind ∧ d.pair = c.pair ∧ d.heldFor .slip = c.heldFor .slip := by
      simpa [Action.link] using link'
    exact ⟨d, at', by rw [pair', back], by rw [kind']; exact partners, by rw [slip', together]⟩
  · unfold Action.lone at lone ⊢
    rw [← kind, ← pair, ← slip]
    exact lone alone

/-- Actions that leave the table, each with its partner, leave the others paired. -/
theorem Paired.without (h : Paired table) (gone : EntryNo → Prop) [DecidablePred gone]
    (together : ∀ e p a, table[e] = some a → a.pair = .entry p → (gone e ↔ gone p))
    (left : ∀ e : EntryNo, table'[e] = if gone e then none else table[e]) : Paired table' := by
  intro e a here
  rw [left] at here
  split at here
  · cases here
  · rename_i stays
    refine ⟨fun p entry => ?_, (h e a here).lone⟩
    obtain ⟨b, at_, rest⟩ := (h e a here).named p entry
    exact ⟨b, by rw [left, if_neg (mt (together e p a here entry).2 stays), at_], rest⟩

/-- An action with no partner enters a FREE entry. -/
theorem Paired.enters (h : Paired table) (free : table[e] = none) (lone : a.lone) : Paired (table.set e (some a)) := by
  intro g b here
  rw [vector_set_getElem] at here
  split at here
  · cases here
    refine ⟨fun p entry => ?_, fun _ => lone⟩
    obtain ⟨⟨_, _, -, pair⟩ | ⟨_, _, -, pair⟩, -⟩ := lone <;> rw [pair] at entry <;> cases entry
  · refine ⟨fun p entry => ?_, (h g b here).lone⟩
    obtain ⟨c, at_, rest⟩ := (h g b here).named p entry
    refine ⟨c, ?_, rest⟩
    rw [vector_set_getElem, if_neg (fun same => ?_), at_]
    rw [same, free] at at_
    cases at_

/-- Two partners that name each other enter FREE entries. -/
theorem Paired.enter (h : Paired table) (apart : e ≠ p) (free : table[e] = none) (free' : table[p] = none) (names : a.pair = .entry p)
    (named : b.pair = .entry e) (partners : Partners a.kind b.kind) (together : a.heldFor .slip = b.heldFor .slip) :
    Paired ((table.set e (some a)).set p (some b)) := by
  have at_e : ((table.set e (some a)).set p (some b))[e] = some a := by simp only [vector_set_getElem, if_neg apart, if_true]
  have at_p : ((table.set e (some a)).set p (some b))[p] = some b := by simp only [vector_set_getElem, if_true]
  have partners' : Partners b.kind a.kind := by
    obtain ⟨key, ⟨on, off⟩ | ⟨on, off⟩⟩ := partners
    · exact ⟨key, .inr ⟨off, on⟩⟩
    · exact ⟨key, .inl ⟨off, on⟩⟩
  intro g c here
  by_cases same : g = p
  · cases same
    cases at_p.symm.trans here
    exact (pairsAt_of_entry named).2 ⟨a, at_e, names, partners', together.symm⟩
  · by_cases same' : g = e
    · cases same'
      cases at_e.symm.trans here
      exact (pairsAt_of_entry names).2 ⟨b, at_p, named, partners, together⟩
    · simp only [vector_set_getElem, if_neg same, if_neg same'] at here
      refine ⟨fun q entry => ?_, (h g c here).lone⟩
      obtain ⟨d, at_, rest⟩ := (h g c here).named q entry
      refine ⟨d, ?_, rest⟩
      have taken (x : EntryNo) (none : table[x] = Option.none) : q ≠ x := by
        rintro rfl
        cases none.symm.trans at_
      simp only [vector_set_getElem, if_neg (taken p free'), if_neg (taken e free), at_]

/-! ## How the channels serve the actions (R152, R154) -/

/-- A channel that serves no action. -/
def Channel.idle (ch : Channel) : Prop := ∀ e d, ch ≠ .waiting e d

/-- An entry with no ARMED action. -/
def Unarmed (x : Option Action) : Prop := ∀ a, x = some a → ∀ c, a.state ≠ .armed c

theorem unarmed_none : Unarmed none := nofun

theorem unarmed_some (not : ∀ c, a.state ≠ .armed c) : Unarmed (some a) := by
  rintro _ ⟨⟩
  exact not

/-- Every ARMED action could fire and is served by the channel it names at its due time, and every WAITING channel serves such an action. -/
structure Serving (table : Vector (Option Action) 64) (channels : Vector Channel 8) : Prop where
  armed : ∀ (e : EntryNo) (a : Action) (c : ChannelNo), table[e] = some a → a.state = .armed c →
    (∃ d, channels[c] = .waiting e d ∧ a.due = some d) ∧ eligible none a = true
  waiting : ∀ (c : ChannelNo) (e : EntryNo) (d : Time), channels[c] = .waiting e d → ∃ a, table[e] = some a ∧ a.state = .armed c

variable {channels : Vector Channel 8} {c : ChannelNo} {ch : Channel} {x : Option Action}

/-- An entry with no ARMED action changed. -/
theorem Serving.entry (h : Serving table channels) (was : Unarmed table[e]) (now : Unarmed x) : Serving (table.set e x) channels := by
  refine ⟨fun g a c here armed => ?_, fun c g d serves => ?_⟩
  · rw [vector_set_getElem] at here
    split at here
    · exact absurd armed (now a here c)
    · exact h.armed g a c here armed
  · obtain ⟨a, here, armed⟩ := h.waiting c g d serves
    refine ⟨a, ?_, armed⟩
    rw [vector_set_getElem, if_neg, here]
    rintro rfl
    exact was a here c armed

/-- A channel that serves no action changed. -/
theorem Serving.channel (h : Serving table channels) (was : Channel.idle channels[c]) (now : ch.idle) : Serving table (channels.set c ch) := by
  refine ⟨fun g a b here armed => ?_, fun b g d serves => ?_⟩
  · obtain ⟨⟨d, serves, due⟩, fit⟩ := h.armed g a b here armed
    refine ⟨⟨d, ?_, due⟩, fit⟩
    rw [vector_set_getElem, if_neg, serves]
    rintro rfl
    exact was g d serves
  · rw [vector_set_getElem] at serves
    split at serves
    · exact absurd serves (now g d)
    · exact h.waiting b g d serves

/-- An ARMED action changed or freed, its channel given up. -/
theorem Serving.disarm (h : Serving table channels) (here : table[e] = some a) (armed : a.state = .armed c) (now : Unarmed x) (idle : ch.idle) :
    Serving (table.set e x) (channels.set c ch) := by
  obtain ⟨⟨due, mine, -⟩, -⟩ := h.armed e a c here armed
  refine ⟨fun g b b' at_ armed' => ?_, fun b g d serves => ?_⟩
  · rw [vector_set_getElem] at at_
    split at at_
    · exact absurd armed' (now b at_ b')
    · rename_i other
      obtain ⟨⟨d, serves, due'⟩, fit⟩ := h.armed g b b' at_ armed'
      refine ⟨⟨d, ?_, due'⟩, fit⟩
      rw [vector_set_getElem, if_neg, serves]
      rintro rfl
      cases mine.symm.trans serves
      exact other rfl
  · rw [vector_set_getElem] at serves
    split at serves
    · exact absurd serves (idle g d)
    · rename_i other
      obtain ⟨b', at_, armed'⟩ := h.waiting b g d serves
      refine ⟨b', ?_, armed'⟩
      rw [vector_set_getElem, if_neg, at_]
      rintro rfl
      cases here.symm.trans at_
      cases armed.symm.trans armed'
      exact other rfl

/-- An action that could fire arms on a channel that serves none. -/
theorem Serving.arm {d : Time} (h : Serving table channels) (was : Unarmed table[e]) (idle : Channel.idle channels[c]) (state : a.state = .armed c)
    (due : a.due = some d) (fit : eligible none a = true) : Serving (table.set e (some a)) (channels.set c (.waiting e d)) := by
  refine ⟨fun g b b' at_ armed => ?_, fun b g d' serves => ?_⟩
  · rw [vector_set_getElem] at at_
    split at at_
    · rename_i same
      cases at_
      cases same
      cases state.symm.trans armed
      exact ⟨⟨d, by rw [vector_set_getElem, if_pos rfl], due⟩, fit⟩
    · obtain ⟨⟨d', serves, due'⟩, fit'⟩ := h.armed g b b' at_ armed
      refine ⟨⟨d', ?_, due'⟩, fit'⟩
      rw [vector_set_getElem, if_neg, serves]
      rintro rfl
      exact idle g d' serves
  · rw [vector_set_getElem] at serves
    split at serves
    · rename_i same
      cases serves
      exact ⟨a, by rw [vector_set_getElem, if_pos rfl], by rw [same]; exact state⟩
    · obtain ⟨b', at_, armed⟩ := h.waiting b g d' serves
      refine ⟨b', ?_, armed⟩
      rw [vector_set_getElem, if_neg, at_]
      rintro rfl
      exact was b' at_ b armed

/-! ## How the hold counts number the actions (R155) -/

theorem isFiredOff_iff {key : Key} : isFiredOff key (some a) = true ↔ a.kind = .noteOff key ∧ ∃ floor, a.pair = .fired floor := by
  obtain ⟨_, kind, _, _, _, pair⟩ := a
  cases kind <;> cases pair <;> simp [isFiredOff]

theorem firedOffs_set (e : EntryNo) (x : Option Action) (key : Key) :
    firedOffs (table.set e x) key =
      firedOffs table key - (if isFiredOff key table[e] then 1 else 0) + (if isFiredOff key x then 1 else 0) := by
  unfold firedOffs
  rw [Vector.toList_set, List.countP_set]
  rfl

theorem firedOffs_congr {key : Key} (alike : ∀ e : EntryNo, isFiredOff key table'[e] = isFiredOff key table[e]) :
    firedOffs table' key = firedOffs table key := by
  have maps : table'.toList.map (isFiredOff key) = table.toList.map (isFiredOff key) := by
    refine List.ext_getElem (by simp) fun i inside _ => ?_
    simpa using alike ⟨i, by simpa using inside⟩
  have count (l : List (Option Action)) : l.countP (isFiredOff key) = (l.map (isFiredOff key)).countP id := by
    rw [List.countP_map]
    rfl
  rw [firedOffs, firedOffs, count, count, maps]

theorem isFiredOff_relinked {y : Option Action} (alike : y.map Action.link = x.map Action.link) (key : Key) :
    isFiredOff key y = isFiredOff key x := by
  cases x <;> cases y <;> simp [Action.link] at alike
  · rfl
  · obtain ⟨kind, pair, -⟩ := alike
    unfold isFiredOff
    dsimp only
    rw [kind, pair]

/-! ## The three together -/

/-- The table, the channels and the hold counts as R147, R152 and R155 have them. -/
structure TableInOrder (table : Vector (Option Action) 64) (channels : Vector Channel 8) (counts : Vector Nat 64) : Prop where
  paired : Paired table
  serving : Serving table channels
  counted : ∀ key : Key, counts[key] = firedOffs table key

variable {s : State}

/-- A state whose table, channels and hold counts are in order. It speaks of these alone, so whatever leaves them as they were keeps it. -/
def Tidy (s : State) : Prop := TableInOrder s.sched.table s.sched.channels s.out.counts

theorem serving_iff (sc : Scheduler) :
    Serving sc.table sc.channels ↔
      (∀ (e : EntryNo) (a : Action), sc.table[e] = some a → armedLegal sc e a = true) ∧ ∀ c : ChannelNo, channelLegal sc c = true := by
  have armed (e : EntryNo) (a : Action) : armedLegal sc e a = true ↔
      ∀ c, a.state = .armed c → (∃ d, sc.channels[c] = .waiting e d ∧ a.due = some d) ∧ eligible none a = true := by
    unfold armedLegal
    cases a.state with
    | waiting | held _ => simp
    | armed c =>
      simp only [ActionState.armed.injEq, forall_eq']
      generalize sc.channels[c] = ch
      cases ch with
      | free | pulsing _ => simp
      | waiting f d =>
        simp only [Bool.and_eq_true, beq_iff_eq, Channel.waiting.injEq]
        exact and_congr_left fun _ => ⟨fun ⟨same, due⟩ => ⟨d, ⟨same, rfl⟩, due⟩, fun ⟨_, ⟨same, at_⟩, due⟩ => ⟨same, at_ ▸ due⟩⟩
  have waiting (c : ChannelNo) : channelLegal sc c = true ↔
      ∀ e d, sc.channels[c] = .waiting e d → ∃ a, sc.table[e] = some a ∧ a.state = .armed c := by
    unfold channelLegal
    generalize sc.channels[c] = ch
    cases ch with
    | free | pulsing _ => simp
    | waiting f d => simp [Option.any_eq_true]
  simp only [armed, waiting]
  exact ⟨fun h => ⟨fun e a here c => h.armed e a c here, h.waiting⟩, fun ⟨h, k⟩ => ⟨fun e a c here => h e a here c, k⟩⟩

/-- The two invariants of the model, taken together, say that a state is tidy. -/
theorem legal_and_countsMatch_iff (s : State) : (s.sched.legal && s.countsMatch) = true ↔ Tidy s := by
  have legal : s.sched.legal = true ↔ Paired s.sched.table ∧ Serving s.sched.table s.sched.channels := by
    rw [serving_iff]
    simp only [Scheduler.legal, Bool.and_eq_true, List.all_eq_true, List.mem_finRange, true_implies, Option.all_eq_true, pairLegal_iff]
    exact ⟨fun ⟨h, k⟩ => ⟨fun e a here => (h e a here).1, fun e a here => (h e a here).2, k⟩,
      fun ⟨h, k, l⟩ => ⟨fun e a here => ⟨h e a here, k e a here⟩, l⟩⟩
  have counted : s.countsMatch = true ↔ ∀ key : Key, s.out.counts[key] = firedOffs s.sched.table key := by
    simp [State.countsMatch, List.all_eq_true]
  rw [Bool.and_eq_true, legal, counted]
  exact ⟨fun ⟨⟨paired, serving⟩, counted⟩ => ⟨paired, serving, counted⟩, fun h => ⟨⟨h.paired, h.serving⟩, h.counted⟩⟩

end Sys2Proof.Machine
end

section
/-! What every operation of the action scheduler keeps of the table, the channels and the hold counts (R149 to R164). -/

namespace Sys2Proof.Machine

variable {s t : State} {sc : Scheduler} {e : EntryNo} {c : ChannelNo} {a b : Action} {key : Key} {x : Option Action} {counts : Vector Nat 64}

theorem Tidy.same (h : Tidy s) (table : t.sched.table = s.sched.table) (channels : t.sched.channels = s.sched.channels)
    (counts : t.out.counts = s.out.counts) : Tidy t := by
  unfold Tidy
  rw [table, channels, counts]
  exact h

theorem tidy_ite {p : Prop} [Decidable p] (h : Tidy s) (k : Tidy t) : Tidy (if p then s else t) := by
  split
  · exact h
  · exact k

/-! ## The table emptied (R165, R166) -/

theorem tableInOrder_empty : TableInOrder Scheduler.initial.table Scheduler.initial.channels (Vector.replicate 64 0) := by
  refine ⟨fun e a here => ?_, ⟨fun e a c here => ?_, fun c e d serves => ?_⟩, fun key => ?_⟩
  · simp [Scheduler.initial] at here
  · simp [Scheduler.initial] at here
  · simp [Scheduler.initial] at serves
  · rw [firedOffs_initial]
    exact Vector.getElem_replicate _

theorem emptyUnfired_tidy (s : State) : Tidy (emptyUnfired s) := tableInOrder_empty

/-- Emptied with firing, each count loses as many as it numbers (R165). -/
theorem emptyFired_tidy (h : Tidy s) : Tidy (emptyFired s) := by
  refine ⟨tableInOrder_empty.paired, tableInOrder_empty.serving, fun key => ?_⟩
  rw [emptyFired_counts, h.counted key, emptyFired_sched, firedOffs_initial, Nat.sub_self]

theorem enterSilenced_tidy (s : State) : Tidy (enterSilenced s) := tableInOrder_empty

theorem enterHalted_tidy (s : State) : Tidy (enterHalted s) := tableInOrder_empty

/-! ## Faults (R184 to R190) -/

theorem silence_tidy (h : Tidy s) : Tidy (silence s) := by
  rcases silence_cases s with ⟨-, e⟩ | ⟨-, e⟩ | ⟨-, -, e⟩ <;> rw [e]
  · exact h
  · exact h
  · exact enterSilenced_tidy s

theorem leadReaction_tidy (h : Tidy s) : Tidy (leadReaction s) := by
  rcases leadReaction_cases s with e | ⟨p, e, -⟩ <;> rw [e] <;> exact h

theorem latchAndReport_tidy {ch : FaultNo} (h : Tidy s) : Tidy (latchAndReport ch s) := by
  rcases latchAndReport_cases ch s with ⟨-, e⟩ | ⟨-, e⟩ <;> rw [e] <;> exact h

theorem nameSilencing_tidy {ch : FaultNo} {before : State} (h : Tidy s) : Tidy (nameSilencing ch before s) := by
  rcases nameSilencing_cases ch before s with e | e <;> rw [e] <;> exact h

theorem raiseFault_tidy {ch : FaultNo} (h : Tidy s) : Tidy (raiseFault ch s) := by
  rcases raiseFault_cases ch s with ⟨-, e⟩ | ⟨-, -, ⟨-, e⟩ | ⟨-, e⟩ | ⟨-, -, e⟩ | ⟨-, -, e⟩⟩ <;> rw [e]
  · exact h
  · exact latchAndReport_tidy h
  · exact leadReaction_tidy (latchAndReport_tidy h)
  · exact enterHalted_tidy _
  · exact silence_tidy (nameSilencing_tidy (latchAndReport_tidy h))

/-! ## An action changed at its entry -/

/-- An entry given another action, or none, the channel that served it given up. -/
theorem Serving.released (h : Serving sc.table sc.channels) (here : sc.table[e] = some a) (now : Unarmed x) :
    Serving (setEntry e x (freeChannelOf a sc)).table (setEntry e x (freeChannelOf a sc)).channels := by
  unfold freeChannelOf
  split
  · rename_i c armed
    exact h.disarm here armed now nofun
  · rename_i other
    refine h.entry (fun b at_ c armed => ?_) now
    cases here.symm.trans at_
    exact other c armed

theorem freeEntry_of_some (here : sc.table[e] = some a) : freeEntry e sc = setEntry e none (freeChannelOf a sc) := by
  unfold freeEntry
  rw [here]

theorem freeEntry_of_none (here : sc.table[e] = none) : freeEntry e sc = sc := by
  unfold freeEntry
  rw [here]

theorem freeEntry_serving (h : Serving sc.table sc.channels) (e : EntryNo) : Serving (freeEntry e sc).table (freeEntry e sc).channels := by
  cases here : sc.table[e] with
  | none =>
    rw [freeEntry_of_none here]
    exact h
  | some a =>
    rw [freeEntry_of_some here]
    exact h.released here unarmed_none

@[simp] theorem freeChannelOf_table (a : Action) (sc : Scheduler) : (freeChannelOf a sc).table = sc.table := by
  unfold freeChannelOf
  split <;> rfl

/-- The channel of the action freed, given up twice, is given up once. -/
theorem freeEntry_setChannel (here : sc.table[e] = some a) (armed : a.state = .armed c) (ch : Channel) :
    freeEntry e (setChannel c ch sc) = freeEntry e sc := by
  have here' : (setChannel c ch sc).table[e] = some a := here
  rw [freeEntry_of_some here, freeEntry_of_some here']
  simp [freeChannelOf, armed, setChannel]

/-- An action given the same links. -/
theorem Paired.set_relinked {table : Vector (Option Action) 64} (h : Paired table) (here : table[e] = some a) (link : b.link = a.link) :
    Paired (table.set e (some b)) := by
  refine h.relinked fun g => ?_
  rw [vector_set_getElem]
  split
  · rename_i same
    rw [same, here, Option.map_some, Option.map_some, link]
  · rfl

theorem firedOffs_set_relinked {table : Vector (Option Action) 64} (here : table[e] = some a) (link : b.link = a.link) (key : Key) :
    firedOffs (table.set e (some b)) key = firedOffs table key := by
  refine firedOffs_congr fun g => ?_
  rw [vector_set_getElem]
  split
  · rename_i same
    rw [same, here]
    exact isFiredOff_relinked (by rw [Option.map_some, Option.map_some, link]) key
  · rfl

/-- An action made WAITING with another due time, its channel given up. -/
theorem Tidy.released (h : Tidy s) (here : s.sched.table[e] = some a) (link : b.link = a.link) (unarmed : ∀ c, b.state ≠ .armed c) :
    Tidy { s with sched := setEntry e (some b) (freeChannelOf a s.sched) } := by
  refine ⟨?_, h.serving.released here (unarmed_some unarmed), fun key => ?_⟩
  · simpa using h.paired.set_relinked here link
  · refine (h.counted key).trans ?_
    simpa using (firedOffs_set_relinked here link key).symm

theorem waiting_link_of_live (live : a.live = true) (due : Option Time) : ({ a with state := .waiting, due := due } : Action).link = a.link := by
  unfold Action.live at live
  unfold Action.link Action.heldFor
  split at live <;> simp_all

theorem live_of_armed (armed : a.state = .armed c) : a.live = true := by simp [Action.live, armed]

theorem live_of_waiting (waiting : a.state = .waiting) : a.live = true := by simp [Action.live, waiting]

/-! ## Actions applied (R155, R156) -/

theorem eligible_none_iff : eligible none a = true ↔ ∀ key p, a.kind = .noteOff key → a.pair ≠ .entry p := by
  obtain ⟨_, kind, _, _, _, pair⟩ := a
  cases kind <;> cases pair <;> simp [eligible]

theorem eligible_none_of_eligible {barrier : Option Nat} (h : eligible barrier a = true) : eligible none a = true := by
  unfold eligible at h ⊢
  exact (Bool.and_eq_true _ _ ▸ h).2

theorem readyDue_eq_some {due : Time} (ready : readyDue sc e = some due) (here : sc.table[e] = some a) :
    a.state = .waiting ∧ eligible sc.barrier a = true ∧ a.due = some due := by
  unfold readyDue at ready
  rw [here] at ready
  dsimp only at ready
  split at ready
  · rename_i fit
    rw [Bool.and_eq_true, decide_eq_true_eq] at fit
    exact ⟨fit.1, fit.2, ready⟩
  · cases ready

/-- An action with no partner leaves the others paired. -/
theorem Paired.freed (h : Paired sc.table) (here : sc.table[e] = some a) (lone : a.lone) : Paired (freeEntry e sc).table := by
  have alone (p : EntryNo) : a.pair ≠ .entry p := by
    obtain ⟨⟨_, _, -, pair⟩ | ⟨_, _, -, pair⟩, -⟩ := lone <;> rw [pair] <;> nofun
  refine h.without (· = e) (fun g p x at_ entry => ⟨?_, ?_⟩) fun g => ?_
  · rintro rfl
    cases here.symm.trans at_
    exact absurd entry (alone p)
  · rintro rfl
    obtain ⟨y, at_', back, -⟩ := (h g x at_).named p entry
    cases here.symm.trans at_'
    exact absurd back (alone g)
  · exact (congrArg (·[g]) (freeEntry_table e sc)).trans (vector_set_getElem _ _ _ _)

/-- A fired NOTE_OFF leaves the table, and its key's count goes down with it (R155). -/
theorem applyNoteOff_tidy (h : Tidy s) (here : s.sched.table[e] = some a) (kind : a.kind = .noteOff key) (fit : eligible none a = true) :
    Tidy (applyNoteOff e key s) := by
  have lone : a.lone := (h.paired e a here).lone fun p => eligible_none_iff.1 fit key p kind
  obtain ⟨floor, fired⟩ : ∃ floor, a.pair = .fired floor := by
    obtain ⟨⟨_, _, kind', -⟩ | ⟨_, floor, -, pair⟩, -⟩ := lone
    · rw [kind] at kind'
      cases kind'
    · exact ⟨floor, pair⟩
  refine ⟨h.paired.freed here lone, freeEntry_serving h.serving e, fun k => ?_⟩
  change (s.out.counts.set key (s.out.counts[key] - 1))[k] = firedOffs (freeEntry e s.sched).table k
  have off : isFiredOff k (some a) = true ↔ key = k := by
    simp only [isFiredOff_iff, kind, fired, ActionKind.noteOff.injEq, exists_apply_eq_apply', and_true]
  rw [freeEntry_table, firedOffs_set, here, vector_set_getElem, if_congr off rfl rfl]
  by_cases same : k = key
  · subst same
    rw [if_pos rfl, if_pos rfl, h.counted]
    rfl
  · rw [if_neg same, if_neg (Ne.symm same), h.counted]
    rfl

theorem freeEntry_channel (here : sc.table[e] = some a) (channel : sc.channels[c] = .free ∨ a.state = .armed c) :
    (freeEntry e sc).channels[c] = .free := by
  rw [freeEntry_of_some here]
  change (freeChannelOf a sc).channels[c] = .free
  unfold freeChannelOf
  split
  · rename_i d armed
    rw [setChannel_channels, vector_set_getElem]
    split
    · rfl
    · rename_i other
      exact channel.resolve_right fun armed' => other (ActionState.armed.inj (armed'.symm.trans armed))
  · rename_i not
    exact channel.resolve_right (not c)

/-- A STOP leaves the table for the coil, on a FREE channel or on its own (R156). -/
theorem startPulse_tidy {stop : StopNo} {coil : Coil} (h : Tidy s) (here : s.sched.table[e] = some a) (kind : a.kind = .stop stop coil)
    (channel : s.sched.channels[c] = .free ∨ a.state = .armed c) : Tidy (startPulse e stop coil c s) := by
  have alone (p : EntryNo) : a.pair ≠ .entry p := fun entry => by
    obtain ⟨_, -, -, ⟨_, ⟨kind', -⟩ | ⟨kind', -⟩⟩, -⟩ := (h.paired e a here).named p entry <;> rw [kind] at kind' <;> cases kind'
  have idle : Channel.idle (freeEntry e s.sched).channels[c] := by
    rw [freeEntry_channel here channel]
    nofun
  refine ⟨h.paired.freed here ((h.paired e a here).lone alone), (freeEntry_serving h.serving e).channel idle nofun, fun key => ?_⟩
  have counts : (startPulse e stop coil c s).out.counts = s.out.counts := by cases coil <;> rfl
  have off : isFiredOff key (some a) = false := Bool.eq_false_iff.2 fun off => by
    rw [isFiredOff_iff, kind] at off
    cases off.1
  change _ = firedOffs (freeEntry e s.sched).table key
  rw [counts, freeEntry_table, firedOffs_set, here, off, h.counted key]
  rfl

/-- A NOTE_ON of an orderly table and its NOTE_OFF. -/
theorem Paired.noteOff_of_noteOn {table : Vector (Option Action) 64} (h : Paired table) (here : table[e] = some a) (kind : a.kind = .noteOn key) :
    ∃ off b, a.pair = .entry off ∧ off ≠ e ∧ table[off] = some b ∧ b.kind = .noteOff key ∧ b.pair = .entry e ∧
      a.heldFor .slip = b.heldFor .slip := by
  obtain ⟨off, entry⟩ : ∃ off, a.pair = .entry off := by
    by_contra alone
    obtain ⟨⟨_, _, kind', -⟩ | ⟨_, _, kind', -⟩, -⟩ := (h e a here).lone (not_exists.1 alone) <;> rw [kind] at kind' <;> cases kind'
  obtain ⟨b, at_, back, partners, together⟩ := (h e a here).named off entry
  rw [kind, partners_noteOn] at partners
  refine ⟨off, b, entry, ?_, at_, partners, back, together⟩
  rintro rfl
  cases here.symm.trans at_
  rw [kind] at partners
  cases partners

/-- A NOTE_ON and its NOTE_OFF leave the others paired. -/
theorem Paired.freedPair {table : Vector (Option Action) 64} {off : EntryNo} (h : Paired table) (here : table[e] = some a)
    (entry : a.pair = .entry off) (here' : table[off] = some b) (back : b.pair = .entry e) : Paired ((table.set e none).set off none) := by
  refine h.without (fun g => g = off ∨ g = e) (fun g p y at_ names => ⟨?_, ?_⟩) fun g => ?_
  · rintro (rfl | rfl)
    · cases here'.symm.trans at_
      exact .inr (Pair.entry.inj (names.symm.trans back))
    · cases here.symm.trans at_
      exact .inl (Pair.entry.inj (names.symm.trans entry))
  · obtain ⟨z, at_', back', -⟩ := (h g y at_).named p names
    rintro (rfl | rfl)
    · cases here'.symm.trans at_'
      exact .inr (Pair.entry.inj (back'.symm.trans back))
    · cases here.symm.trans at_'
      exact .inl (Pair.entry.inj (back'.symm.trans entry))
  · rw [vector_set_getElem, vector_set_getElem]
    by_cases one : g = off <;> by_cases other : g = e <;> simp [one, other]

theorem dropPair_eq {off : EntryNo} (entry : a.pair = .entry off) (sc : Scheduler) : dropPair e a sc = freeEntry off (freeEntry e sc) := by
  unfold dropPair Action.pairEntry
  rw [entry]

/-- A NOTE_ON dropped with its NOTE_OFF (R153, R155). -/
theorem dropPair_tidy (h : Tidy s) (here : s.sched.table[e] = some b) (kind : b.kind = .noteOn key) (pair : a.pair = b.pair) :
    Tidy { s with sched := dropPair e a s.sched } := by
  obtain ⟨off, y, entry, other, at_, kind', back, -⟩ := h.paired.noteOff_of_noteOn here kind
  rw [dropPair_eq (pair.trans entry)]
  have table : (freeEntry off (freeEntry e s.sched)).table = (s.sched.table.set e none).set off none := by
    rw [freeEntry_table, freeEntry_table]
  refine ⟨?_, freeEntry_serving (freeEntry_serving h.serving e) off, fun k => ?_⟩
  · rw [table]
    exact h.paired.freedPair here entry at_ back
  · have on : isFiredOff k (some b) = false := Bool.eq_false_iff.2 fun fired => by
      rw [isFiredOff_iff, kind] at fired
      cases fired.1
    have unfired : isFiredOff k (some y) = false := Bool.eq_false_iff.2 fun fired => by
      rw [isFiredOff_iff, back] at fired
      obtain ⟨-, _, pair'⟩ := fired
      cases pair'
    dsimp only
    rw [table, firedOffs_set, firedOffs_set, vector_set_getElem, if_neg other, here, at_, on, unfired, h.counted k]
    rfl

/-- What the firing of a NOTE_ON leaves before its NOTE_OFF is tested (R155). -/
def State.noteFired (e off : EntryNo) (y : Action) (key : Key) (floor : Time) (s : State) : State :=
  { s with
    sched := setEntry off (some { y with pair := .fired floor }) (freeEntry e s.sched)
    out := { s.out with counts := s.out.counts.set key (s.out.counts[key] + 1) } }

theorem applyNoteOn_of_full {due : Time} (full : 15 ≤ s.out.counts[key]) :
    applyNoteOn e key a due s = raiseFault 4 { s with sched := dropPair e a s.sched } := if_pos full

theorem applyNoteOn_of_room {off : EntryNo} {y : Action} {due : Time} (room : ¬15 ≤ s.out.counts[key]) (entry : a.pair = .entry off)
    (other : off ≠ e) (at_ : s.sched.table[off] = some y) :
    applyNoteOn e key a due s = testReleased off (s.noteFired e off y key (addTicks due 100)) := by
  have at_' : (freeEntry e s.sched).table[off] = some y := by rw [freeEntry_table, vector_set_getElem, if_neg other, at_]
  unfold applyNoteOn
  rw [if_neg room]
  dsimp only [Action.pairEntry]
  rw [entry]
  dsimp only [firePair]
  rw [at_']
  rfl

theorem noteFired_tidy {off : EntryNo} {y : Action} {floor : Time} (h : Tidy s) (here : s.sched.table[e] = some b) (kind : b.kind = .noteOn key)
    (live : b.heldFor .slip = false) (entry : b.pair = .entry off) (at_ : s.sched.table[off] = some y) :
    Tidy (s.noteFired e off y key floor) := by
  obtain ⟨off', y', entry', other, at_', kind', back, together⟩ := h.paired.noteOff_of_noteOn here kind
  cases entry.symm.trans entry'
  cases at_.symm.trans at_'
  have table : (s.noteFired e off y key floor).sched.table = (s.sched.table.set e none).set off (some { y with pair := .fired floor }) :=
    congrArg (·.set off (some { y with pair := .fired floor })) (freeEntry_table e s.sched)
  have unarmed (c : ChannelNo) : y.state ≠ .armed c := fun armed =>
    eligible_none_iff.1 (h.serving.armed off y c at_ armed).2 key e kind' back
  have left : (freeEntry e s.sched).table[off] = some y := by rw [freeEntry_table, vector_set_getElem, if_neg other, at_]
  refine ⟨?_, ?_, fun k => ?_⟩
  · have gone := h.paired.freedPair here entry at_ back
    have lone : Action.lone { y with pair := .fired floor } := ⟨.inr ⟨key, floor, kind', rfl⟩, together ▸ live⟩
    have entered := gone.enters (e := off) (by rw [vector_set_getElem, if_pos rfl]) lone
    rw [table]
    simpa using entered
  · refine (freeEntry_serving h.serving e).entry ?_ (unarmed_some (a := { y with pair := .fired floor }) unarmed)
    rw [left]
    exact unarmed_some unarmed
  · have on : isFiredOff k (some b) = false := Bool.eq_false_iff.2 fun fired => by
      rw [isFiredOff_iff, kind] at fired
      cases fired.1
    have unfired : isFiredOff k (some y) = false := Bool.eq_false_iff.2 fun fired => by
      rw [isFiredOff_iff, back] at fired
      obtain ⟨-, _, pair'⟩ := fired
      cases pair'
    have fired : isFiredOff k (some { y with pair := .fired floor }) = true ↔ key = k := by
      simp only [isFiredOff_iff, kind', ActionKind.noteOff.injEq, Pair.fired.injEq, exists_eq', and_true]
    change (s.out.counts.set key (s.out.counts[key] + 1))[k] = _
    rw [table, firedOffs_set, firedOffs_set, vector_set_getElem, vector_set_getElem, if_neg other, here, at_, on, unfired,
      if_congr fired rfl rfl]
    by_cases same : k = key
    · subst same
      rw [if_pos rfl, if_pos rfl, h.counted]
      rfl
    · rw [if_neg same, if_neg (Ne.symm same), h.counted]
      rfl

theorem testReleased_tidy (h : Tidy s) (e : EntryNo) : Tidy (testReleased e s) := by
  unfold testReleased
  split
  · rename_i a due here ready
    split
    · rename_i key kind
      obtain ⟨-, fit, -⟩ := readyDue_eq_some ready here
      exact tidy_ite (applyNoteOff_tidy h here kind (eligible_none_of_eligible fit)) h
    · exact h
  · exact h

/-- A NOTE_ON applied: its pair dropped, or fired (R155). -/
theorem applyNoteOn_tidy {due : Time} (h : Tidy s) (here : s.sched.table[e] = some b) (kind : b.kind = .noteOn key) (pair : a.pair = b.pair)
    (live : b.heldFor .slip = false) : Tidy (applyNoteOn e key a due s) := by
  by_cases full : 15 ≤ s.out.counts[key]
  · rw [applyNoteOn_of_full full]
    exact raiseFault_tidy (dropPair_tidy h here kind pair)
  · obtain ⟨off, y, entry, other, at_, -⟩ := h.paired.noteOff_of_noteOn here kind
    rw [applyNoteOn_of_room full (pair.trans entry) other at_]
    exact testReleased_tidy (noteFired_tidy h here kind live entry at_) off

end Sys2Proof.Machine
end

section
/-! Firing at once, the service of the channels, holding and returning, the barrier, and insertion keep the table in order (R149, R152, R153,
R161 to R164). -/

namespace Sys2Proof.Machine

variable {s t : State} {sc : Scheduler} {e : EntryNo} {c : ChannelNo} {a b : Action} {key : Key}

/-! ## Firing at once (R153) -/

/-- An action that fires at once, as it stands once it has given up its channel (R153). -/
def Action.timed (a : Action) (due : Time) : Action := { a with state := .waiting, due := some due }

/-- The state in which an action fires at once: the action WAITING with its due time, its channel given up (R153). -/
def State.fires (e : EntryNo) (a : Action) (due : Time) (s : State) : State :=
  { s with sched := setEntry e (some (a.timed due)) (freeChannelOf a s.sched) }

theorem fires_table (due : Time) : (s.fires e a due).sched.table[e] = some (a.timed due) := by
  simp only [State.fires, setEntry_table, vector_set_getElem, if_true]

theorem fires_tidy {due : Time} (h : Tidy s) (here : s.sched.table[e] = some a) (live : a.live = true) : Tidy (s.fires e a due) :=
  h.released here (waiting_link_of_live live (some due)) nofun

theorem lowestFreeChannel_free (lowest : lowestFreeChannel sc = some c) : sc.channels[c] = .free := by
  simpa using List.find?_some lowest

section

variable {due : Time}

theorem fireAtOnce_eq :
    fireAtOnce e a due s =
      match a.kind with
      | .noteOn key =>
        if (s.cfg.lateLimit : Int) < since s.now due then
          raiseFault 3 { s.fires e a due with sched := dropPair e a (s.fires e a due).sched }
        else applyNoteOn e key a due (s.fires e a due)
      | .noteOff key => applyNoteOff e key (s.fires e a due)
      | .stop stop coil =>
        match lowestFreeChannel (s.fires e a due).sched with
        | some c => startPulse e stop coil c (s.fires e a due)
        | none => s.fires e a due := rfl

theorem fireAtOnce_of_late (kind : a.kind = .noteOn key) (late : (s.cfg.lateLimit : Int) < since s.now due) :
    fireAtOnce e a due s = raiseFault 3 { s.fires e a due with sched := dropPair e a (s.fires e a due).sched } := by
  rw [fireAtOnce_eq, kind]
  exact if_pos late

theorem fireAtOnce_of_timely (kind : a.kind = .noteOn key) (timely : ¬(s.cfg.lateLimit : Int) < since s.now due) :
    fireAtOnce e a due s = applyNoteOn e key a due (s.fires e a due) := by
  rw [fireAtOnce_eq, kind]
  exact if_neg timely

theorem fireAtOnce_of_noteOff (kind : a.kind = .noteOff key) : fireAtOnce e a due s = applyNoteOff e key (s.fires e a due) := by
  rw [fireAtOnce_eq, kind]

theorem fireAtOnce_of_stop {stop : StopNo} {coil : Coil} (kind : a.kind = .stop stop coil) :
    fireAtOnce e a due s =
      match lowestFreeChannel (s.fires e a due).sched with
      | some c => startPulse e stop coil c (s.fires e a due)
      | none => s.fires e a due := by
  rw [fireAtOnce_eq, kind]

theorem fireAtOnce_tidy (h : Tidy s) (here : s.sched.table[e] = some a) (live : a.live = true) (fit : eligible none a = true) :
    Tidy (fireAtOnce e a due s) := by
  have fires : Tidy (s.fires e a due) := fires_tidy h here live
  have at_ : (s.fires e a due).sched.table[e] = some (a.timed due) := fires_table due
  cases kind : a.kind with
  | noteOn key =>
    by_cases late : (s.cfg.lateLimit : Int) < since s.now due
    · rw [fireAtOnce_of_late kind late]
      exact raiseFault_tidy (dropPair_tidy fires at_ kind rfl)
    · rw [fireAtOnce_of_timely kind late]
      exact applyNoteOn_tidy fires at_ kind rfl rfl
  | noteOff key =>
    rw [fireAtOnce_of_noteOff kind]
    exact applyNoteOff_tidy fires at_ kind fit
  | stop stop coil =>
    rw [fireAtOnce_of_stop kind]
    split
    · rename_i c lowest
      exact startPulse_tidy fires at_ kind (.inl (lowestFreeChannel_free lowest))
    · exact fires

end

theorem testEntry_tidy (h : Tidy s) : Tidy (testEntry e s) := by
  unfold testEntry
  split
  · rename_i a due here ready
    obtain ⟨waiting, fit, -⟩ := readyDue_eq_some ready here
    exact tidy_ite (fireAtOnce_tidy h here (live_of_waiting waiting) (eligible_none_of_eligible fit)) h
  · exact h

/-! ## The service of the channels (R152) -/

/-- An action arms on a FREE channel with its due time (R152). -/
theorem arm_tidy {due : Time} (h : Tidy s) (here : s.sched.table[e] = some a) (waiting : a.state = .waiting) (at_ : a.due = some due)
    (fit : eligible none a = true) (free : s.sched.channels[c] = .free) :
    Tidy { s with sched := setChannel c (.waiting e due) (setEntry e (some { a with state := .armed c }) s.sched) } := by
  have link : ({ a with state := .armed c } : Action).link = a.link := by simp [Action.link, Action.heldFor, waiting]
  refine ⟨h.paired.set_relinked here link, h.serving.arm ?_ ?_ rfl at_ ?_, fun key => ?_⟩
  · rw [here]
    exact unarmed_some (by rw [waiting]; nofun)
  · rw [free]
    nofun
  · rw [eligible_none_iff] at fit ⊢
    exact fit
  · exact (h.counted key).trans (firedOffs_set_relinked here link key).symm

theorem serveStep_tidy (h : Tidy s) (turn : serveStep s = some t) : Tidy t := by
  unfold serveStep at turn
  split at turn
  · rename_i c e lowest next
    have free := lowestFreeChannel_free lowest
    split at turn
    · rename_i a here
      obtain ⟨d, ready⟩ := Option.ne_none_iff_exists'.1 (readyDue_of_nextWaiter next)
      obtain ⟨waiting, fit, -⟩ := readyDue_eq_some ready here
      have arms {d : Time} (due : a.due = some d) := arm_tidy h here waiting due (eligible_none_of_eligible fit) free
      split at turn
      · rename_i stop coil d kind due
        split at turn <;> cases turn
        · exact startPulse_tidy h here kind (.inl free)
        · exact arms due
      · rename_i d due _
        cases turn
        exact arms due
      · cases turn
    · cases turn
  · cases turn

theorem serveWaiters_tidy (h : Tidy s) : Tidy (serveWaiters s) := iterate_invariant (fun _ _ => serveStep_tidy) 8 h

/-! ## Actions changed all over the table (R161 to R164) -/

theorem mapActions_getElem (change : Action → Option Action) (frees : Action → Bool) (sc : Scheduler) (c : ChannelNo) :
    (mapActions change frees sc).channels[c] =
      match sc.channels[c] with
      | .waiting e _ => if (sc.table[e]).any frees then .free else sc.channels[c]
      | _ => sc.channels[c] := mapVec_getElem _ sc.channels c

/-- Every action kept, or un-armed with its channel FREE, or freed when it was not ARMED. -/
theorem Serving.mapped {change : Action → Option Action} {frees : Action → Bool} (h : Serving sc.table sc.channels)
    (freed : ∀ a : Action, frees a = true → Unarmed (change a))
    (kept : ∀ (e : EntryNo) (a : Action), sc.table[e] = some a → frees a = false → change a = some a ∨ Unarmed (some a) ∧ Unarmed (change a)) :
    Serving (mapActions change frees sc).table (mapActions change frees sc).channels := by
  refine ⟨fun e b c here armed => ?_, fun c e d serves => ?_⟩
  · rw [mapActions_table] at here
    obtain ⟨a, at_, becomes⟩ := Option.bind_eq_some_iff.1 here
    have unfreed : frees a = false := Bool.eq_false_iff.2 fun is => freed a is b becomes c armed
    rcases kept e a at_ unfreed with same | ⟨-, unarmed⟩
    · cases same.symm.trans becomes
      obtain ⟨⟨d, serves, due⟩, fit⟩ := h.armed e _ c at_ armed
      refine ⟨⟨d, ?_, due⟩, fit⟩
      rw [mapActions_getElem, serves]
      exact if_neg (by simp [at_, unfreed])
    · exact absurd armed (unarmed b becomes c)
  · rw [mapActions_getElem] at serves
    split at serves
    · rename_i g d' served
      split at serves
      · cases serves
      · rename_i unfreed
        obtain ⟨a, at_, armed⟩ := h.waiting c g d' served
        cases served.symm.trans serves
        rw [at_, Option.any_some] at unfreed
        rcases kept _ a at_ (Bool.eq_false_iff.2 unfreed) with same | ⟨unarmed, -⟩
        · exact ⟨a, by rw [mapActions_table, at_, Option.bind_some, same], armed⟩
        · exact absurd armed (unarmed a rfl c)
    · rename_i other
      exact absurd serves (other e d)

/-- Actions given the same kinds and pairs, those of a pair SLIP-held only together and the others not. -/
theorem Paired.mapped {table table' : Vector (Option Action) 64} {change : Action → Action} (h : Paired table)
    (becomes : ∀ e : EntryNo, table'[e] = (table[e]).map change) (kind : ∀ a, (change a).kind = a.kind) (pair : ∀ a, (change a).pair = a.pair)
    (together : ∀ e p a b, table[e] = some a → a.pair = .entry p → table[p] = some b → b.pair = .entry e → Partners a.kind b.kind →
      a.heldFor .slip = b.heldFor .slip → (change a).heldFor .slip = (change b).heldFor .slip)
    (lone : ∀ a, a.lone → (change a).heldFor .slip = false) : Paired table' := by
  intro e b here
  rw [becomes] at here
  obtain ⟨a, at_, rfl⟩ := Option.map_eq_some_iff.1 here
  refine ⟨fun p entry => ?_, fun alone => ?_⟩
  · rw [pair] at entry
    obtain ⟨y, at_', back, partners, held⟩ := (h e a at_).named p entry
    exact ⟨change y, by rw [becomes, at_']; rfl, by rw [pair, back], by rw [kind, kind]; exact partners,
      together e p a y at_ entry at_' back partners held⟩
  · rw [pair] at alone
    have was := (h e a at_).lone alone
    refine ⟨?_, lone a was⟩
    rw [kind, pair]
    exact was.1

theorem firedOffs_mapped {table table' : Vector (Option Action) 64} {change : Action → Action}
    (becomes : ∀ e : EntryNo, table'[e] = (table[e]).map change) (kind : ∀ a, (change a).kind = a.kind) (pair : ∀ a, (change a).pair = a.pair)
    (key : Key) : firedOffs table' key = firedOffs table key := by
  refine firedOffs_congr fun e => ?_
  rw [becomes]
  cases table[e] with
  | none => rfl
  | some a =>
    rw [Option.map_some, Bool.eq_iff_iff, isFiredOff_iff, isFiredOff_iff, kind, pair]

/-- The actions a test names given a state and a due time, not ARMED ones; their channels become FREE when the test frees. -/
theorem mapActions_tidy {test frees : Action → Bool} {state : ActionState} {due : Action → Option Time} (h : Tidy s)
    (unarmed : ∀ c, state ≠ .armed c) (freeing : ∀ (e : EntryNo) (a : Action), s.sched.table[e] = some a → test a = true → frees a = false → ∀ c, a.state ≠ .armed c)
    (only : ∀ a, frees a = true → test a = true)
    (together : ∀ e p a b, s.sched.table[e] = some a → a.pair = .entry p → s.sched.table[p] = some b → b.pair = .entry e →
      Partners a.kind b.kind → a.heldFor .slip = b.heldFor .slip → state = .held .slip ∨ a.heldFor .slip = true → test a = test b)
    (lone : ∀ a, a.lone → state = .held .slip → test a = false) :
    Tidy { s with sched := mapActions (fun a => if test a then some { a with state := state, due := due a } else some a) frees s.sched } := by
  let change (a : Action) : Action := if test a then { a with state := state, due := due a } else a
  have becomes (e : EntryNo) : (mapActions (fun a => if test a then some { a with state := state, due := due a } else some a) frees
      s.sched).table[e] = (s.sched.table[e]).map change := by
    rw [mapActions_table]
    cases s.sched.table[e] with
    | none => rfl
    | some a => exact (apply_ite some _ _ _).symm
  have kind (a : Action) : (change a).kind = a.kind := by unfold change; split <;> rfl
  have pair (a : Action) : (change a).pair = a.pair := by unfold change; split <;> rfl
  have slip (a : Action) : (change a).heldFor .slip = if test a then decide (state = .held .slip) else a.heldFor .slip := by
    unfold change
    split <;> rfl
  refine ⟨h.paired.mapped becomes kind pair (fun e p a b here entry here' back partners held => ?_) fun a was => ?_,
    h.serving.mapped (fun a is => ?_) fun e a here not => ?_, fun key => ?_⟩
  · rw [slip, slip]
    by_cases matters : state = .held .slip ∨ a.heldFor .slip = true
    · rw [together e p a b here entry here' back partners held matters, held]
    · obtain ⟨other, awake⟩ := not_or.1 matters
      rw [Bool.not_eq_true] at awake
      rw [← held, awake]
      simp [other]
  · rw [slip]
    split
    · rename_i named
      refine decide_eq_false fun held => ?_
      rw [lone a was held] at named
      cases named
    · exact was.2
  · rw [only a is, if_pos rfl]
    exact unarmed_some unarmed
  · split
    · rename_i named
      exact .inr ⟨unarmed_some (freeing e a here named not), unarmed_some unarmed⟩
    · exact .inl rfl
  · exact (h.counted key).trans (firedOffs_mapped becomes kind pair key).symm

theorem not_armed_of_held {reason : HeldReason} (held : a.heldFor reason = true) : ∀ c, a.state ≠ .armed c := by
  have state : a.state = .held reason := by simpa [Action.heldFor] using held
  rw [state]
  nofun

theorem not_live_of_held {reason : HeldReason} (held : a.heldFor reason = true) : a.live = false := by
  have state : a.state = .held reason := by simpa [Action.heldFor] using held
  rw [Action.live, state]

/-- The hold takes live actions, none of them SLIP-held (R162). -/
theorem holdFrom_tidy {point : Nat} (h : Tidy s) : Tidy { s with sched := holdFrom point s.sched } := by
  refine mapActions_tidy h nofun (fun _ a _ named unfreed => ?_) (fun a is => is) (fun e p a b _ _ _ _ _ held matters => ?_) nofun
  · rw [named] at unfreed
    cases unfreed
  · have slip := matters.resolve_left nofun
    rw [not_live_of_held slip, not_live_of_held (held ▸ slip)]
    rfl

/-- The barrier un-arms live actions, none of them SLIP-held (R161). -/
theorem unarmFrom_tidy {barrier : Nat} (h : Tidy s) : Tidy { s with sched := unarmFrom barrier s.sched } := by
  refine mapActions_tidy (due := Action.due) h nofun (fun _ a _ named unfreed => ?_) (fun a is => is) (fun e p a b _ _ _ _ _ held matters => ?_) nofun
  · rw [named] at unfreed
    cases unfreed
  · have slip := matters.resolve_left nofun
    rw [not_live_of_held slip, not_live_of_held (held ▸ slip)]
    rfl

/-- The actions HELD for a hold come back, none of them SLIP-held (R162). -/
theorem returnHeld_tidy (h : Tidy s) : Tidy { s with sched := returnHeld s.sched } := by
  have other {a : Action} (slip : a.heldFor .slip = true) : a.heldFor .hold = false := by
    have state : a.state = .held .slip := by simpa [Action.heldFor] using slip
    simp [Action.heldFor, state]
  refine mapActions_tidy h nofun (fun _ a _ named _ => not_armed_of_held named) nofun (fun e p a b _ _ _ _ _ held matters => ?_) nofun
  have slip := matters.resolve_left nofun
  rw [other slip, other (held ▸ slip)]

/-- A test of NOTE_ONs names both actions of a pair or neither. -/
theorem byNoteOn_together {table : Vector (Option Action) 64} {test : Action → Bool} {p : EntryNo} (here : table[e] = some a)
    (entry : a.pair = .entry p) (here' : table[p] = some b) (back : b.pair = .entry e) (partners : Partners a.kind b.kind) :
    byNoteOn table test a = byNoteOn table test b := by
  obtain ⟨key, ⟨on, off⟩ | ⟨off, on⟩⟩ := partners
  · simp only [byNoteOn, on, off, back, here, Option.any_some]
  · simp only [byNoteOn, on, off, entry, here', Option.any_some]

/-- A test of NOTE_ONs names no action without a partner. -/
theorem byNoteOn_lone {table : Vector (Option Action) 64} {test : Action → Bool} (lone : a.lone) : byNoteOn table test a = false := by
  obtain ⟨⟨_, _, kind, pair⟩ | ⟨_, _, kind, pair⟩, -⟩ := lone <;> simp only [byNoteOn, kind, pair]

/-- Whole pairs are suspended (R163). -/
theorem suspendBelow_tidy {position : Nat} (h : Tidy s) : Tidy { s with sched := suspendBelow position s.sched } := by
  refine mapActions_tidy h nofun (fun _ a _ named unfreed => ?_) (fun a is => is)
    (fun e p a b here entry here' back partners _ _ => byNoteOn_together here entry here' back partners) fun a lone _ => byNoteOn_lone lone
  rw [named] at unfreed
  cases unfreed

/-- An action of an orderly table that a test of SLIP-held NOTE_ONs names is SLIP-held. -/
theorem Paired.slip_of_byNoteOn {table : Vector (Option Action) 64} {test : Action → Bool} (h : Paired table) (here : table[e] = some a)
    (slips : ∀ x, test x = true → x.heldFor .slip = true) (named : byNoteOn table test a = true) : a.heldFor .slip = true := by
  unfold byNoteOn at named
  split at named
  · exact slips a named
  · rename_i key p kind pair
    obtain ⟨b, at_, -, -, together⟩ := (h e a here).named p pair
    rw [at_] at named
    rw [together]
    exact slips b named
  · cases named

/-- SLIP-held pairs come back whole (R164). -/
theorem resumeSlip_tidy {slip : Option Nat} (h : Tidy s) : Tidy { s with sched := resumeSlip slip s.sched } := by
  refine mapActions_tidy h nofun (fun e a here named _ => ?_) nofun
    (fun e p a b here entry here' back partners _ _ => byNoteOn_together here entry here' back partners) fun a lone _ => byNoteOn_lone lone
  exact not_armed_of_held (h.paired.slip_of_byNoteOn here (fun x is => (Bool.and_eq_true _ _ ▸ is).1) named)

/-- SLIP-held pairs are freed whole, and no NOTE_OFF of a fired NOTE_ON is SLIP-held (R164). -/
theorem freeSlip_tidy (h : Tidy s) : Tidy { s with sched := freeSlip s.sched } := by
  have left (e : EntryNo) : (freeSlip s.sched).table[e] = if (s.sched.table[e]).any (Action.heldFor .slip) then none else s.sched.table[e] := by
    rw [freeSlip, mapActions_table]
    cases s.sched.table[e] with
    | none => rfl
    | some a => rfl
  refine ⟨?_, h.serving.mapped nofun fun e a _ _ => ?_, fun key => ?_⟩
  · refine h.paired.without (fun e => (s.sched.table[e]).any (Action.heldFor .slip) = true) (fun e p a here entry => ?_) left
    obtain ⟨b, at_, -, -, together⟩ := (h.paired e a here).named p entry
    rw [here, at_, Option.any_some, Option.any_some, together]
  · split
    · rename_i held
      exact .inr ⟨unarmed_some (not_armed_of_held held), unarmed_none⟩
    · exact .inl rfl
  · refine (h.counted key).trans (firedOffs_congr fun e => ?_).symm
    rw [left]
    split
    · rename_i slips
      obtain ⟨a, here, held⟩ := (Option.any_eq_true _ _).1 slips
      refine Eq.symm (Bool.eq_false_iff.2 fun fired => ?_)
      rw [here, isFiredOff_iff] at fired
      obtain ⟨kind, floor, pair⟩ := fired
      have awake := ((h.paired e a here).lone (by rw [pair]; nofun)).2
      rw [held] at awake
      cases awake
    · rfl

/-! ## Insertion (R149) -/

theorem lowestFreeEntry_free (lowest : lowestFreeEntry sc = some e) : sc.table[e] = none := by
  simpa using List.find?_some lowest

/-- An entry given its due time: it is not ARMED as it enters (R149). -/
theorem timeEntry_tidy (h : Tidy s) (unarmed : Unarmed s.sched.table[e]) : Tidy (timeEntry e s) := by
  unfold timeEntry
  split
  · rename_i a here
    have link : ({ a with due := some (dueOf s a) } : Action).link = a.link := rfl
    refine ⟨h.paired.set_relinked here link, h.serving.entry unarmed (unarmed_some (unarmed a here)), fun key => ?_⟩
    exact (h.counted key).trans (firedOffs_set_relinked here link key).symm
  · exact h

theorem timeEntry_table_of_ne {g : EntryNo} (other : g ≠ e) : (timeEntry e s).sched.table[g] = s.sched.table[g] := by
  unfold timeEntry
  split
  · rw [setEntry_table, vector_set_getElem, if_neg other]
  · rfl

theorem entering_not_armed (how : Entering) (c : ChannelNo) : how.state ≠ .armed c := by cases how <;> nofun

/-- An action with no partner, not ARMED, enters a FREE entry (R149). -/
theorem Tidy.enters (h : Tidy s) (free : s.sched.table[e] = none) (lone : a.lone) (unarmed : ∀ c, a.state ≠ .armed c)
    (unfired : ∀ key, isFiredOff key (some a) = false) : Tidy { s with sched := setEntry e (some a) s.sched } := by
  refine ⟨h.paired.enters free lone, h.serving.entry (by rw [free]; exact unarmed_none) (unarmed_some unarmed), fun key => ?_⟩
  refine (h.counted key).trans ?_
  rw [setEntry_table, firedOffs_set, free, unfired]
  rfl

/-- A NOTE_ON and its NOTE_OFF, neither ARMED, enter FREE entries (R149). -/
theorem Tidy.enter {on off : EntryNo} (h : Tidy s) (apart : on ≠ off) (free : s.sched.table[on] = none) (free' : s.sched.table[off] = none)
    (kind : a.kind = .noteOn key) (kind' : b.kind = .noteOff key) (names : a.pair = .entry off) (named : b.pair = .entry on)
    (state : a.state = b.state) (unarmed : ∀ c, a.state ≠ .armed c) :
    Tidy { s with sched := setEntry off (some b) (setEntry on (some a) s.sched) } := by
  have unfired {x : Action} {p : EntryNo} (pair : x.pair = .entry p) (key : Key) : isFiredOff key (some x) = false :=
    Bool.eq_false_iff.2 fun fired => by
      rw [isFiredOff_iff, pair] at fired
      obtain ⟨-, _, pair'⟩ := fired
      cases pair'
  have left : (s.sched.table.set on (some a))[off] = none := by rw [vector_set_getElem, if_neg apart.symm, free']
  have partners : Partners a.kind b.kind := ⟨key, .inl ⟨kind, kind'⟩⟩
  refine ⟨h.paired.enter apart free free' names named partners (by simp only [Action.heldFor, state]), ?_, fun key => ?_⟩
  · refine Serving.entry (h.serving.entry (by rw [free]; exact unarmed_none) (unarmed_some unarmed)) ?_ (unarmed_some (state ▸ unarmed))
    exact left ▸ unarmed_none
  · refine (h.counted key).trans ?_
    rw [setEntry_table, setEntry_table, firedOffs_set, firedOffs_set, left, free, unfired names, unfired named]
    rfl

end Sys2Proof.Machine
end

section
/-! What leaves the table, the channels and the hold counts alone, and what every shared operation makes of them. -/

namespace Sys2Proof.Machine

variable {s t : State}

/-- The action table, the fire channels and the hold counts of a state. -/
def State.bench (s : State) : Vector (Option Action) 64 × Vector Channel 8 × Vector Nat 64 := (s.sched.table, s.sched.channels, s.out.counts)

theorem Tidy.benched (h : Tidy s) (same : t.bench = s.bench) : Tidy t := by
  obtain ⟨table, channels, counts⟩ : t.sched.table = s.sched.table ∧ t.sched.channels = s.sched.channels ∧ t.out.counts = s.out.counts := by
    simpa [State.bench] using same
  exact h.same table channels counts

/-! ## What leaves them alone -/

theorem offerFrame_bench (body : FrameBody) (time : Time) (s : State) : (offerFrame body time s).bench = s.bench := by
  rcases offerFrame_cases body time s with ⟨-, e⟩ | ⟨-, e⟩ <;> rw [e]
  rfl

theorem faultFrameLeft_bench (f : QueuedFrame) (s : State) : (faultFrameLeft f s).bench = s.bench := by
  rcases faultFrameLeft_cases f s with e | ⟨-, -, e⟩ <;> rw [e]
  rfl

theorem reachBroaden_bench (limit : Int) (s : State) : (reachBroaden limit s).bench = s.bench := by
  unfold reachBroaden
  dsimp only
  split <;> rfl

theorem watchNext_bench (fuel : Nat) (s : State) : (watchNext fuel s).bench = s.bench := by
  induction fuel generalizing s with
  | zero => rfl
  | succ fuel ih =>
    unfold watchNext
    split
    · rfl
    · split
      · rfl
      · split
        · exact ih _
        · rfl

theorem settleWatch_bench (s : State) : (settleWatch s).bench = s.bench := watchNext_bench _ s

theorem settleMarks_bench (s : State) : (settleMarks s).bench = s.bench := by
  unfold settleMarks
  dsimp only
  repeat' split
  all_goals rfl

theorem settleNotesStep_bench (s t : State) (turn : settleNotesStep s = some t) : t.bench = s.bench := by
  unfold settleNotesStep at turn
  dsimp only at turn
  repeat' split at turn
  all_goals cases turn <;> rfl

theorem settleNotes_bench (s : State) : (settleNotes s).bench = s.bench := iterate_keeps State.bench settleNotesStep_bench 20 s

theorem startReaders_bench (beat : Nat) (s : State) : (startReaders beat s).bench = s.bench := by
  unfold startReaders
  split
  · rfl
  · rw [settleNotes_bench, settleMarks_bench]
    rfl

theorem beforeChange_bench (s : State) : (beforeChange s).bench = s.bench := by
  obtain ⟨_, _, e, -⟩ := beforeChange_cases s
  rw [e]
  rfl

theorem noteEnd_bench (s : State) : (noteEnd s).bench = s.bench := by
  unfold noteEnd
  split <;> rfl

theorem reportAnchor_bench (s : State) : (reportAnchor s).bench = s.bench := reachBroaden_bench s.position s

theorem adoptCluster_bench (p : Nat) (c : Cluster) (s : State) : (adoptCluster p c s).bench = s.bench := by
  unfold adoptCluster
  dsimp only
  split
  · split <;> rfl
  · split <;> rfl

theorem poolOnset_bench (o : Observation) (s : State) : (poolOnset o s).bench = s.bench := by
  unfold poolOnset
  dsimp only
  split
  · rfl
  · split <;> rfl

theorem clearCulprit_bench (period : Nat) (time : Time) (mean : Int) (ms : List Observation) (s : State) :
    (clearCulprit period time mean ms s).bench = s.bench := by
  unfold clearCulprit
  split
  · split <;> rfl
  · rfl

theorem acceptClose_bench (mark : Nat) (weights : Vector Peer 16 → Vector Peer 16) (s : State) : (acceptClose mark weights s).bench = s.bench := by
  rcases acceptClose_cases mark weights s with e | ⟨-, e⟩ <;> rw [e]
  rfl

theorem swellStage_bench (s : State) : (swellStage s).bench = s.bench := by
  unfold swellStage
  split <;> rfl

/-! ## Exceptions and observations (R83, R120) -/

theorem exceptionDefault_tidy {e : FollowerException} (h : Tidy s) : Tidy (exceptionDefault e s) := by
  cases e with
  | diverge => exact tidy_ite h h
  | range | slew | void | stale | overrun | stack => exact h

theorem takeException_tidy {e : FollowerException} {c : Option (Station × BitVec 8)} (h : Tidy s) : Tidy (takeException e c s) := by
  have default : Tidy (exceptionDefault e { s with follow.sticky := s.follow.sticky ||| (1#7 <<< e.bit) }) := exceptionDefault_tidy h
  rcases takeException_cases e c s with ⟨-, eq⟩ | ⟨-, ⟨-, eq⟩ | ⟨-, eq⟩⟩ <;> rw [eq]
  · exact h
  · exact default
  · exact raiseFault_tidy (tidy_ite default default)

theorem takeExceptionIf_tidy {cond : Bool} {e : FollowerException} {c : Option (Station × BitVec 8)} (h : Tidy s) :
    Tidy (takeExceptionIf cond e c s) := tidy_ite (takeException_tidy h) h

theorem deliver_tidy {o : Observation} (h : Tidy s) : Tidy (deliver o s) := by
  rcases deliver_cases o s with ⟨-, e⟩ | ⟨-, -, e⟩ | ⟨-, -, _, _, -, e⟩ <;> rw [e]
  · exact h
  · exact h
  · exact takeException_tidy h

theorem stage_tidy {f : State → State} (effect : ∀ {u}, Tidy u → Tidy (f u)) (h : Tidy s) : Tidy (stage f s) := by
  rcases stage_cases f s with ⟨-, e⟩ | ⟨-, e⟩ <;> rw [e]
  · exact effect h
  · exact h

theorem reportAnchor_tidy (h : Tidy s) : Tidy (reportAnchor s) := h.benched (reportAnchor_bench s)

/-! ## Play, seeks, joins and loads (R43, R46, R56, R67, R75 to R78) -/

theorem enterPlay_tidy {sect beat : Nat} {a : Anchor} {c : Change} (h : Tidy s) : Tidy (enterPlay sect a beat c s) :=
  reportAnchor_tidy (Tidy.benched (h.benched (beforeChange_bench s)) (settleWatch_bench _))

theorem completeSeek_tidy (h : Tidy s) : Tidy (completeSeek s) := by
  unfold completeSeek
  split
  · refine tidy_ite ?_ h
    dsimp only
    split
    · unfold joinComplete
      split
      · exact enterPlay_tidy h
      · exact h
    · exact h
  · exact h

theorem beginSeek_tidy {beat : Nat} (h : Tidy s) : Tidy (beginSeek beat s) :=
  completeSeek_tidy (Tidy.benched (emptyFired_tidy h) (startReaders_bench beat _))

theorem playBegin_tidy {mark : Time} (h : Tidy s) : Tidy (playBegin mark s) := by
  have sought : Tidy (if s.store.seek.any (· != 0) then beginSeek 0 { s with play := { s.play with pendingStart := none, join := none } }
      else { s with play := { s.play with pendingStart := none, join := none } }) := tidy_ite (beginSeek_tidy h) h
  unfold playBegin
  dsimp only
  split
  · exact enterPlay_tidy sought
  · exact sought

theorem joinStart_tidy {hymn : Nat} (h : Tidy s) : Tidy (joinStart hymn s) := by
  unfold joinStart
  split
  · exact tidy_ite h (beginSeek_tidy h)
  · exact h

theorem stopPlay_tidy (h : Tidy s) : Tidy (stopPlay s) := by
  refine beginSeek_tidy ?_
  exact emptyFired_tidy h

theorem testHymnEnd_tidy (h : Tidy s) : Tidy (testHymnEnd s) := tidy_ite (stopPlay_tidy h) h

theorem beginLoad_tidy {hymn : Nat} (h : Tidy s) : Tidy (beginLoad hymn s) := emptyFired_tidy h

theorem loadFailed_tidy (h : Tidy s) : Tidy (loadFailed s) := raiseFault_tidy h

theorem loadComplete_tidy (h : Tidy s) : Tidy (loadComplete s) := by
  unfold loadComplete
  dsimp only
  split
  · exact playBegin_tidy h
  · exact joinStart_tidy h
  · exact h

theorem testPrimed_tidy (h : Tidy s) : Tidy (testPrimed s) := tidy_ite (tidy_ite (loadComplete_tidy h) h) (completeSeek_tidy h)

theorem testJoin_tidy (h : Tidy s) : Tidy (testJoin s) := by
  unfold testJoin
  split
  · dsimp only
    split
    · exact h
    · exact tidy_ite (joinStart_tidy h) (beginLoad_tidy h)
    · exact tidy_ite (joinStart_tidy h) (beginLoad_tidy h)
  · exact h

/-! ## The table settled, the barrier, and insertion (R149, R152, R161) -/

theorem settleTable_tidy (h : Tidy s) : Tidy (settleTable s) := testHymnEnd_tidy (serveWaiters_tidy h)

theorem setBarrier_tidy {new : Option Nat} (h : Tidy s) : Tidy (setBarrier new s) := by
  have moved : Tidy
      { s with
        sched :=
          match new with
          | some b => unarmFrom b { s.sched with barrier := new }
          | none => { s.sched with barrier := new } } := by
    cases new with
    | none => exact h
    | some b => exact unarmFrom_tidy (s := { s with sched.barrier := some b }) h
  unfold setBarrier
  refine tidy_ite h (settleTable_tidy ?_)
  dsimp only
  split
  · exact foldl_invariant (p := Tidy) (fun _ _ => testEntry_tidy) _ moved
  · exact moved

theorem rewatch_tidy (h : Tidy s) : Tidy (rewatch s) := tidy_ite (setBarrier_tidy (h.benched (settleWatch_bench s))) (h.benched (settleWatch_bench s))

theorem insertPair_tidy {key : Key} {p q : Nat} (h : Tidy s) : Tidy (insertPair key p q s) := by
  unfold insertPair
  split
  · exact h
  · rename_i on lowest
    dsimp only
    split
    · exact h
    · rename_i off lowest'
      have free := lowestFreeEntry_free lowest
      have free' := lowestFreeEntry_free lowest'
      rw [setEntry_table, vector_set_getElem] at free'
      have apart : on ≠ off := by
        rintro rfl
        rw [if_pos rfl] at free'
        cases free'
      rw [if_neg apart.symm] at free'
      have unarmed := entering_not_armed (enteringState s true p)
      have entered := h.enter apart free free'
        (a := ⟨(enteringState s true p).state, .noteOn key, p, leadOf s.cfg (.noteOn key), none, .entry off⟩)
        (b := ⟨(enteringState s true p).state, .noteOff key, q, leadOf s.cfg (.noteOff key), none, .entry on⟩)
        rfl rfl rfl rfl rfl unarmed
      refine tidy_ite (settleTable_tidy (testEntry_tidy (testEntry_tidy (timeEntry_tidy (timeEntry_tidy entered ?_) ?_)))) entered
      · simp only [setEntry_table, vector_set_getElem, if_neg apart, if_true]
        exact unarmed_some unarmed
      · rw [timeEntry_table_of_ne apart.symm]
        simp only [setEntry_table, vector_set_getElem, if_true]
        exact unarmed_some unarmed

/-- A STOP never enters SLIP-held (R149, R163). -/
theorem enteringState_of_stop (s : State) (p : Nat) : (enteringState s false p).state ≠ .held .slip := by
  unfold enteringState
  split
  · split
    · split <;> nofun
    · nofun
    · nofun
    · nofun
  · nofun

theorem insertStop_tidy {stop : StopNo} {coil : Coil} {p : Nat} (h : Tidy s) : Tidy (insertStop stop coil p s) := by
  unfold insertStop
  split
  · exact h
  · rename_i e lowest
    let a : Action := ⟨(enteringState s false p).state, .stop stop coil, p, leadOf s.cfg (.stop stop coil), none, .absent⟩
    have unarmed := entering_not_armed (enteringState s false p)
    have lone : a.lone := by
      refine ⟨.inl ⟨stop, coil, rfl, rfl⟩, decide_eq_false (enteringState_of_stop s p)⟩
    have entered := h.enters (lowestFreeEntry_free lowest) lone unarmed fun _ => rfl
    refine tidy_ite (settleTable_tidy (testEntry_tidy (timeEntry_tidy entered ?_))) entered
    simp only [setEntry_table, vector_set_getElem, if_true]
    exact unarmed_some unarmed

end Sys2Proof.Machine
end

section
/-! The stack, holds, closes, beats, start-up, cues, the outputs, the score store and frames keep the table in order. -/

namespace Sys2Proof.Machine

variable {s t : State}

/-! ## The hypothesis stack and holds (R106, R128 to R137, R143, R144) -/

theorem writePeriod_tidy {p : Int} {c : Option (Station × BitVec 8)} (h : Tidy s) : Tidy (writePeriod p c s) := takeExceptionIf_tidy h

theorem confirmTop_tidy (h : Tidy s) : Tidy (confirmTop s) := by
  refine testHymnEnd_tidy ?_
  exact freeSlip_tidy h

theorem testExhausted_tidy (h : Tidy s) : Tidy (testExhausted s) := tidy_ite (confirmTop_tidy h) h

theorem push_tidy {p : Nat} {time : Time} (h : Tidy s) : Tidy (push p time s) := by
  refine takeExceptionIf_tidy ?_
  exact Tidy.benched h (beforeChange_bench s)

theorem pop_tidy (h : Tidy s) : Tidy (pop s) :=
  resumeSlip_tidy (s := { beforeChange s with follow := s.follow.pop }) (Tidy.benched h (beforeChange_bench s))

theorem slip_tidy {p : Nat} {time : Time} (h : Tidy s) : Tidy (slip p time s) := by
  unfold slip
  dsimp only
  refine stage_tidy (fun k => ?_) (stage_tidy (fun k => settleTable_tidy (suspendBelow_tidy k)) (push_tidy h))
  split
  · exact tidy_ite (rewatch_tidy k) (rewatch_tidy k)
  · exact rewatch_tidy k

theorem acceptCluster_tidy {p : Option Nat} {c : Cluster} (h : Tidy s) : Tidy (acceptCluster p c s) := by
  unfold acceptCluster
  split
  · exact testExhausted_tidy (h.benched (adoptCluster_bench _ _ s))
  · exact h
  · exact h

theorem releaseSteps_tidy (h : Tidy s) : Tidy (releaseSteps s) := by
  have returned {u v : State} (k : Tidy u) (sched : v.sched = returnHeld u.sched) (out : v.out = u.out) : Tidy v :=
    (returnHeld_tidy k).benched (by unfold State.bench; rw [sched, out])
  unfold releaseSteps
  split
  · exact h
  · rename_i hold _
    have anchored : Tidy (setAnchor ⟨hold.point, s.now, s.period⟩
        { beforeChange s with follow := { s.follow with hold := none, change := some .release } }) :=
      Tidy.benched h (beforeChange_bench s)
    refine stage_tidy (fun k => rewatch_tidy k) (testHymnEnd_tidy ?_)
    dsimp only
    split
    · exact returned (freeSlip_tidy anchored) rfl rfl
    · exact returned anchored rfl rfl

/-! ## Observations, closes and clusters (R72, R91 to R99, R108 to R112, R135, R144) -/

theorem judgeOnset_tidy {o : Observation} (h : Tidy s) : Tidy (judgeOnset o s) := by
  unfold judgeOnset
  split
  · exact tidy_ite h h
  · exact tidy_ite h (tidy_ite (takeException_tidy h) (h.benched (poolOnset_bench o s)))

theorem writeClose_tidy {g : Gather} {st : PlayState} {mean : Int} (h : Tidy s) : Tidy (writeClose g st mean s) := by
  refine stage_tidy (fun k => writePeriod_tidy k) (takeExceptionIf_tidy ?_)
  exact Tidy.benched h (beforeChange_bench s)

theorem acceptClose_tidy {mark : Nat} {weights : Vector Peer 16 → Vector Peer 16} (h : Tidy s) : Tidy (acceptClose mark weights s) :=
  h.benched (acceptClose_bench mark weights s)

theorem judgeMatched_tidy {g : Gather} {mean : Int} (h : Tidy s) : Tidy (judgeMatched g mean s) :=
  tidy_ite h (tidy_ite (pop_tidy h) (tidy_ite h (confirmTop_tidy h)))

/-- The end of a close, with a report or without (R111). -/
theorem closeEnd_tidy {moved : Prop} [Decidable moved] (h : Tidy s) : Tidy ((if moved then reportAnchor else endChange) s) := by
  split
  · exact reportAnchor_tidy h
  · exact h

theorem applyMatched_tidy {g : Gather} {st : PlayState} (h : Tidy s) : Tidy (applyMatched g st s) := by
  unfold applyMatched
  dsimp only
  refine testExhausted_tidy (acceptClose_tidy (stage_tidy closeEnd_tidy (stage_tidy (fun k => k.benched (clearCulprit_bench ..)) ?_)))
  split
  · exact stage_tidy judgeMatched_tidy (writeClose_tidy h)
  · exact h

theorem applyVoid_tidy {g : Gather} {st : PlayState} (h : Tidy s) : Tidy (applyVoid g st s) := by
  have voided : Tidy (takeException .void none { s with play := reportVoid s.play, follow := { s.follow with change := some .close } }) :=
    takeException_tidy h
  unfold applyVoid
  dsimp only
  refine testExhausted_tidy (acceptClose_tidy (stage_tidy closeEnd_tidy ?_))
  exact tidy_ite (stage_tidy pop_tidy (stage_tidy (fun k => takeExceptionIf_tidy k) voided)) (stage_tidy (fun k => takeExceptionIf_tidy k) voided)

theorem clusterAhead_tidy {c : Cluster} (h : Tidy s) : Tidy (clusterAhead c s) := by
  unfold clusterAhead
  split
  · exact acceptCluster_tidy (stage_tidy reportAnchor_tidy (slip_tidy h))
  · exact acceptCluster_tidy h

theorem clusterInHold_tidy {c : Cluster} (h : Tidy s) : Tidy (clusterInHold c s) := by
  have released := releaseSteps_tidy h
  unfold clusterInHold
  split
  · exact h
  · dsimp only
    split
    · exact acceptCluster_tidy (stage_tidy reportAnchor_tidy (stage_tidy slip_tidy released))
    · exact acceptCluster_tidy (stage_tidy reportAnchor_tidy released)

/-! ## Beats and holds (R71, R113 to R118, R139) -/

theorem rebase_tidy {beat : Nat} (h : Tidy s) : Tidy (rebase beat s) := by
  refine Tidy.benched ?_ (noteEnd_bench _)
  exact Tidy.benched h (beforeChange_bench s)

theorem sectionStage_tidy {beat : Nat} (h : Tidy s) : Tidy (sectionStage beat s) := by
  unfold sectionStage
  split
  · exact h
  · dsimp only
    split
    · exact writePeriod_tidy h
    · exact h

theorem broadenStage_tidy {beat : Nat} (h : Tidy s) : Tidy (broadenStage beat s) := by
  have reached := h.benched (reachBroaden_bench (24 * beat : Nat) s)
  exact tidy_ite (writePeriod_tidy reached) reached

theorem couplingStage_tidy {beat : Nat} (h : Tidy s) : Tidy (couplingStage beat s) :=
  tidy_ite h (stage_tidy writePeriod_tidy (takeExceptionIf_tidy h))

theorem pulseStage_tidy {beat : Nat} {time : Time} {code : Tempo} (h : Tidy s) : Tidy (pulseStage beat time code s) :=
  h.benched (offerFrame_bench _ _ { s with follow.resyncPending := false })

theorem beatStages_tidy {beat : Nat} (h : Tidy s) : Tidy (beatStages beat s) :=
  stage_tidy reportAnchor_tidy (stage_tidy (fun k => k.benched (swellStage_bench _)) (stage_tidy pulseStage_tidy
    (stage_tidy couplingStage_tidy (stage_tidy broadenStage_tidy (stage_tidy sectionStage_tidy (rebase_tidy h))))))

theorem takeHold_tidy {w : Watch} (h : Tidy s) : Tidy (takeHold w s) := by
  have broadened : Tidy (reachBroaden w.point { beforeChange s with follow.change := some .hold }) :=
    Tidy.benched h ((reachBroaden_bench _ _).trans (beforeChange_bench s))
  unfold takeHold
  refine reportAnchor_tidy (Tidy.benched (settleTable_tidy ?_) (settleWatch_bench _))
  exact holdFrom_tidy (s := { reachBroaden _ _ with gather := _ }) broadened

/-! ## Start-up and cues (R62 to R70, R80, R198 to R202) -/

theorem endChecks_tidy (h : Tidy s) : Tidy (endChecks s) := tidy_ite (tidy_ite h h) h

theorem offerSelect_bench (s : State) : (offerSelect s).bench = s.bench := offerFrame_bench _ _ s

theorem takeSelect_tidy {n : Nat} (h : Tidy s) : Tidy (takeSelect n s) := by
  unfold takeSelect
  split
  · exact beginLoad_tidy h
  · exact beginLoad_tidy h
  · exact beginLoad_tidy h
  · exact h

theorem takeStart_tidy {n : Nat} (h : Tidy s) : Tidy (takeStart n s) := by
  unfold takeStart
  split
  · exact tidy_ite h h
  · exact tidy_ite (playBegin_tidy h) h
  · exact h

theorem takeStop_tidy (h : Tidy s) : Tidy (takeStop s) := by
  unfold takeStop
  split
  · exact stopPlay_tidy h
  · exact stopPlay_tidy h
  · exact stopPlay_tidy h
  · exact h
  · exact tidy_ite (beginSeek_tidy h) h
  · exact tidy_ite h (tidy_ite (beginSeek_tidy h) h)
  all_goals exact h

theorem restartStation_tidy (s : State) : Tidy (restartStation s) := by
  have restarted : Tidy (restarted s) := emptyUnfired_tidy s
  exact tidy_ite (restarted.benched (offerSelect_bench _)) restarted

theorem takeCue_tidy {c : Cue} {n : Nat} (h : Tidy s) : Tidy (takeCue c n s) := by
  cases c with
  | select => exact takeSelect_tidy h
  | start => exact takeStart_tidy h
  | stop => exact takeStop_tidy h
  | restart => exact tidy_ite h (restartStation_tidy s)

/-! ## The output stage and the sound front end (R24, R32, R171 to R173, R200) -/

theorem latchFrame_tidy {frame returned : BitVec 96} (h : Tidy s) : Tidy (latchFrame frame returned s) := by
  have checked : Tidy (returnCheck returned { s with out.frame := none }) := by
    unfold returnCheck
    split
    · exact tidy_ite h (tidy_ite (endChecks_tidy h) (endChecks_tidy (tidy_ite (raiseFault_tidy h) h)))
    · exact h
  exact checked

theorem assertionTaken_tidy (h : Tidy s) : Tidy (assertionTaken s) := by
  unfold assertionTaken
  split
  · exact h
  · exact h
  · exact Tidy.benched (enterSilenced_tidy _) (offerFrame_bench _ _ _)

theorem handOn_tidy {o : Confirmed} (h : Tidy s) : Tidy (handOn o s) := by
  refine tidy_ite (Tidy.benched ?_ (offerFrame_bench _ _ _)) h
  exact deliver_tidy h

theorem completeBlock_tidy {block : Block} (h : Tidy s) : Tidy (completeBlock block s) := by
  have passed (f : FrontEnd) : Tidy (passSoundCheck { s with front := f }) := tidy_ite (endChecks_tidy h) h
  unfold completeBlock
  dsimp only
  split
  · exact handOn_tidy (passed _)
  · exact passed _

theorem takeSample_tidy {x : BitVec 16} {stamp : Time} (h : Tidy s) : Tidy (takeSample x stamp s) := tidy_ite (completeBlock_tidy h) h

/-! ## The score store (R43 to R54) -/

theorem probe_tidy {hymn low high : Nat} (h : Tidy s) : Tidy (probe hymn low high s) := tidy_ite (loadFailed_tidy h) h

theorem takeDirectory_tidy {bytes : List Byte} (h : Tidy s) : Tidy (takeDirectory bytes s) := by
  unfold takeDirectory
  split
  · exact tidy_ite (loadFailed_tidy h) (probe_tidy h)
  · exact tidy_ite (loadFailed_tidy h) (tidy_ite h (tidy_ite (probe_tidy h) (probe_tidy h)))
  · exact h

theorem takeHeader_tidy {bytes : List Byte} (h : Tidy s) : Tidy (takeHeader bytes s) := by
  unfold takeHeader
  split
  · exact tidy_ite h (loadFailed_tidy h)
  · exact h

theorem takePlan_tidy {bytes : List Byte} (h : Tidy s) : Tidy (takePlan bytes s) := by
  unfold takePlan
  split
  · split
    · exact testPrimed_tidy (Tidy.benched h (startReaders_bench 0 _))
    · exact loadFailed_tidy h
  · exact h

theorem markStep_tidy (h : Tidy s) (turn : markStep s = some t) : Tidy t := by
  unfold markStep at turn
  dsimp only at turn
  repeat' split at turn
  all_goals cases turn
  exacts [h, h, h, h, raiseFault_tidy h]

theorem runMarks_tidy (h : Tidy s) : Tidy (runMarks s) := by
  have settled : Tidy (settleMarks (iterate markStep 40 s)) :=
    Tidy.benched (iterate_invariant (fun _ _ => markStep_tidy) 40 h) (settleMarks_bench _)
  exact testPrimed_tidy (testExhausted_tidy (tidy_ite (rewatch_tidy settled) settled))

theorem takeMarkBlock_tidy {bytes : List Byte} (h : Tidy s) : Tidy (takeMarkBlock bytes s) :=
  tidy_ite (runMarks_tidy h) (runMarks_tidy (raiseFault_tidy h))

theorem noteStep_tidy (h : Tidy s) (turn : noteStep s = some t) : Tidy t := by
  unfold noteStep at turn
  split at turn
  · cases turn
  · dsimp only at turn
    split at turn
    · exact h.benched (settleNotesStep_bench s t turn)
    · repeat' split at turn
      all_goals cases turn
      exacts [h, h, raiseFault_tidy h, h]

theorem runNotes_tidy (h : Tidy s) : Tidy (runNotes s) := testPrimed_tidy (iterate_invariant (fun _ _ => noteStep_tidy) 60 h)

theorem takeNoteBlock_tidy {bytes : List Byte} (h : Tidy s) : Tidy (takeNoteBlock bytes s) :=
  tidy_ite (runNotes_tidy h) (runNotes_tidy (raiseFault_tidy h))

theorem insertNote_tidy (h : Tidy s) : Tidy (insertNote s) := by
  unfold insertNote
  split
  · exact runNotes_tidy (insertPair_tidy h)
  · exact h

theorem stopStep_tidy (h : Tidy s) (turn : stopStep s = some t) : Tidy t := by
  unfold stopStep at turn
  split at turn
  · cases turn
    exact insertStop_tidy h
  · cases turn

/-! ## Frames sent and received (R8 to R10, R17 to R20) -/

theorem returnClashed_tidy {f : QueuedFrame} (h : Tidy s) : Tidy (returnClashed f s) := by
  unfold returnClashed
  dsimp only
  split
  · exact (raiseFault_tidy h).benched (faultFrameLeft_bench _ _)
  · split
    · exact h
    · exact Tidy.benched h (faultFrameLeft_bench _ _)

theorem heardFrom_tidy {w : WireFrame} {k : ObsKind} {n : BitVec 8} (h : Tidy s) : Tidy (heardFrom w k n s) :=
  tidy_ite (takeException_tidy (s := hearPeer _ s) h) (deliver_tidy (s := hearPeer _ s) h)

theorem pulseFrom_tidy {w : WireFrame} {f : PulseFields} (h : Tidy s) : Tidy (pulseFrom w f s) := by
  refine tidy_ite h (testJoin_tidy ?_)
  exact h

theorem takeHalt_tidy (h : Tidy s) : Tidy (takeHalt s) := tidy_ite h (enterSilenced_tidy s)

theorem cueFrom_tidy {w : WireFrame} {c : Cue} {n : Nat} (h : Tidy s) : Tidy (cueFrom w c n s) := by
  refine tidy_ite ?_ (takeCue_tidy (s := hearPeer _ s) h)
  split
  · exact takeCue_tidy h
  · exact h

theorem completeOwn_tidy {f : QueuedFrame} (h : Tidy s) : Tidy (completeOwn f s) := by
  unfold completeOwn
  split
  · exact takeCue_tidy h
  · exact h.benched (faultFrameLeft_bench f s)
  · exact h

end Sys2Proof.Machine
end

section
/-! The re-time pass, the channels, and every command keep the table in order. -/

namespace Sys2Proof.Machine

variable {s t : State} {e : EntryNo} {c : ChannelNo} {a : Action}

/-! ## The re-time pass (R158, R159) -/

theorem endPass_tidy (h : Tidy s) : Tidy (endPass s) := by
  unfold endPass
  split
  · exact tidy_ite h h
  · exact h

/-- A WAITING action timed afresh (R158). -/
theorem visitWaiting_tidy (h : Tidy s) (here : s.sched.table[e] = some a) (waiting : a.state = .waiting) : Tidy (visitWaiting e a s) := by
  have unarmed (c : ChannelNo) : a.state ≠ .armed c := by rw [waiting]; nofun
  have link : ({ a with due := some (dueOf s a) } : Action).link = a.link := rfl
  refine settleTable_tidy (testEntry_tidy ⟨h.paired.set_relinked here link, ?_, fun key => ?_⟩)
  · exact h.serving.entry (here ▸ unarmed_some unarmed) (unarmed_some unarmed)
  · exact (h.counted key).trans (firedOffs_set_relinked here link key).symm

/-- An ARMED action given another due time, its channel's expiry with it (R159). -/
theorem Serving.retimed {table : Vector (Option Action) 64} {channels : Vector Channel 8} (h : Serving table channels) (here : table[e] = some a)
    (armed : a.state = .armed c) (due : Time) : Serving (table.set e (some { a with due := some due })) (channels.set c (.waiting e due)) := by
  have fit := (h.armed e a c here armed).2
  have given := h.disarm (ch := .free) here armed unarmed_none nofun
  have again := given.arm (e := e) (c := c) (a := { a with due := some due }) (by rw [vector_set_getElem, if_pos rfl]; exact unarmed_none)
    (by rw [vector_set_getElem, if_pos rfl]; nofun) armed rfl (eligible_none_iff.2 (eligible_none_iff.1 fit))
  simpa using again

theorem visitArmed_tidy (h : Tidy s) (here : s.sched.table[e] = some a) (armed : a.state = .armed c) : Tidy (visitArmed e c a s) := by
  have live := live_of_armed armed
  have fit := (h.serving.armed e a c here armed).2
  have freed : freeChannelOf a s.sched = setChannel c .free s.sched := by rw [freeChannelOf, armed]
  have waits := h.released here (waiting_link_of_live live (some (dueOf s a))) nofun
  rw [freed] at waits
  have link : ({ a with due := some (dueOf s a) } : Action).link = a.link := rfl
  refine tidy_ite (settleTable_tidy (fireAtOnce_tidy h here live fit)) (tidy_ite ?_ (settleTable_tidy waits))
  refine ⟨h.paired.set_relinked here link, h.serving.retimed here armed _, fun key => ?_⟩
  exact (h.counted key).trans (firedOffs_set_relinked here link key).symm

theorem visit_tidy (h : Tidy s) (e : EntryNo) : Tidy (visit e s) := by
  unfold visit
  split
  · exact h
  · rename_i a here
    dsimp only
    split
    · rename_i waiting
      exact visitWaiting_tidy (s := { s with sched.pass := some (.after a.position e) }) h here waiting
    · rename_i c armed
      exact visitArmed_tidy (s := { s with sched.pass := some (.after a.position e) }) h here armed
    · exact h

/-! ## The channels (R154, R156) -/

/-- A NOTE_ON at its channel's expiry gives the channel up with its entry (R154). -/
theorem applyNoteOn_setChannel {key : Key} {due : Time} (here : s.sched.table[e] = some a) (armed : a.state = .armed c) :
    applyNoteOn e key a due { s with sched := setChannel c .free s.sched } = applyNoteOn e key a due s := by
  have once := freeEntry_setChannel here armed .free
  unfold applyNoteOn dropPair
  dsimp only
  rw [once]

theorem applyNoteOff_setChannel {key : Key} (here : s.sched.table[e] = some a) (armed : a.state = .armed c) :
    applyNoteOff e key { s with sched := setChannel c .free s.sched } = applyNoteOff e key s := by
  unfold applyNoteOff
  dsimp only
  rw [freeEntry_setChannel here armed]

section

variable {expiry : Time} (here : s.sched.table[e] = some a) (armed : a.state = .armed c)

include here in
theorem applyExpired_of_stop {stop : StopNo} {coil : Coil} (kind : a.kind = .stop stop coil) :
    applyExpired c e expiry s = startPulse e stop coil c s := by
  unfold applyExpired
  rw [here]
  dsimp only
  rw [kind]

include here armed

theorem applyExpired_of_noteOn {key : Key} (kind : a.kind = .noteOn key) : applyExpired c e expiry s = applyNoteOn e key a expiry s := by
  unfold applyExpired
  rw [here]
  dsimp only
  rw [kind]
  exact applyNoteOn_setChannel here armed

theorem applyExpired_of_noteOff {key : Key} (kind : a.kind = .noteOff key) : applyExpired c e expiry s = applyNoteOff e key s := by
  unfold applyExpired
  rw [here]
  dsimp only
  rw [kind]
  exact applyNoteOff_setChannel here armed

end

theorem applyExpired_tidy {expiry : Time} (h : Tidy s) (serves : s.sched.channels[c] = .waiting e expiry) : Tidy (applyExpired c e expiry s) := by
  obtain ⟨a, here, armed⟩ := h.serving.waiting c e expiry serves
  have fit := (h.serving.armed e a c here armed).2
  cases kind : a.kind with
  | noteOn key =>
    rw [applyExpired_of_noteOn here armed kind]
    exact applyNoteOn_tidy h here kind rfl (by simp [Action.heldFor, armed])
  | noteOff key =>
    rw [applyExpired_of_noteOff here armed kind]
    exact applyNoteOff_tidy h here kind fit
  | stop stop coil =>
    rw [applyExpired_of_stop here kind]
    exact startPulse_tidy h here kind (.inr armed)

/-! ## The commands -/

/-- An outcome whose next state has its table in order. -/
def AnswersTidy (o : Host.Outcome State Fault Refusal) : Prop := ∀ t, o = .next t → Tidy t

theorem act_tidy {due : Bool} (h : Tidy s) (k : Tidy t) : AnswersTidy (act s due t) := by
  intro u e
  rcases act_cases e with ⟨-, rfl⟩ | ⟨-, rfl⟩
  · exact k
  · exact h

theorem completeRead_tidy {units : List FlashUnit} {bytes : List Byte} {use : State → State} (h : Tidy s)
    (effect : ∀ {u}, Tidy u → Tidy (use u)) : AnswersTidy (completeRead units bytes use s) :=
  act_tidy h (tidy_ite h (effect h))

theorem receiveCue_tidy {c : Cue} {bytes : List Byte} (h : Tidy s) : AnswersTidy (receiveCue c bytes s) := by
  unfold receiveCue
  split
  · split
    · exact act_tidy h (cueFrom_tidy h)
    · exact act_tidy h h
  · exact act_tidy h h

/-- The configuration read leaves the table alone, but for a raise of CONFIG (R196). -/
theorem execConfigurationSectionRead_tidy (bytes : List Byte) (h : Tidy s) : AnswersTidy (execConfigurationSectionRead bytes s) := by
  have ended : Tidy (endConfiguration (sectionConfig bytes) s) := h
  exact act_tidy h (tidy_ite (endChecks_tidy (tidy_ite (raiseFault_tidy ended) ended)) h)

theorem execFrameClash_tidy (bit : Nat) (level : Bool) (h : Tidy s) : AnswersTidy (execFrameClash bit level s) := by
  unfold execFrameClash
  split
  · exact act_tidy h h
  · exact act_tidy h (returnClashed_tidy h)

theorem execFrameComplete_tidy (h : Tidy s) : AnswersTidy (execFrameComplete s) := by
  unfold execFrameComplete
  split
  · exact act_tidy h h
  · exact act_tidy h (completeOwn_tidy h)

theorem execInvalidFrame_tidy (bytes : List Byte) (broken : List Bool) (h : Tidy s) : AnswersTidy (execInvalidFrame bytes broken s) := by
  unfold execInvalidFrame
  split
  · exact act_tidy h h
  all_goals exact act_tidy h h

theorem execDuplicate_tidy (bytes : List Byte) (h : Tidy s) : AnswersTidy (execDuplicate bytes s) := by
  unfold execDuplicate
  split
  · exact act_tidy h (raiseFault_tidy h)
  · exact act_tidy h h

theorem execHeardReceived_tidy (bytes : List Byte) (h : Tidy s) : AnswersTidy (execHeardReceived bytes s) := by
  unfold execHeardReceived
  split
  · split
    · exact act_tidy h (tidy_ite h (heardFrom_tidy h))
    · exact act_tidy h h
  · exact act_tidy h h

theorem execPulseReceived_tidy (bytes : List Byte) (h : Tidy s) : AnswersTidy (execPulseReceived bytes s) := by
  unfold execPulseReceived
  split
  · split
    · exact act_tidy h (tidy_ite h (pulseFrom_tidy h))
    · exact act_tidy h h
  · exact act_tidy h h

theorem execHaltReceived_tidy (bytes : List Byte) (h : Tidy s) : AnswersTidy (execHaltReceived bytes s) := by
  unfold execHaltReceived
  split
  · split
    · exact act_tidy h (tidy_ite h (takeHalt_tidy (s := hearPeer _ (endOfFrame bytes s)) h))
    · exact act_tidy h h
  · exact act_tidy h h

theorem execFaultReceived_tidy (bytes : List Byte) (h : Tidy s) : AnswersTidy (execFaultReceived bytes s) := by
  unfold execFaultReceived
  split
  · split
    · exact act_tidy h (tidy_ite h h)
    · exact act_tidy h h
  · exact act_tidy h h

theorem execPeerAbsenceExpiry_tidy (p : Station) (h : Tidy s) : AnswersTidy (execPeerAbsenceExpiry p s) :=
  act_tidy h h

theorem execJoinCountComplete_tidy (h : Tidy s) : AnswersTidy (execJoinCountComplete s) :=
  act_tidy h (tidy_ite (tidy_ite (enterSilenced_tidy _) h) h)

theorem execSampleTaken_tidy (edges : List SoundEdge) (ago : Nat) (h : Tidy s) : AnswersTidy (execSampleTaken edges ago s) := by
  unfold execSampleTaken
  split
  · exact act_tidy h h
  · exact act_tidy h (takeSample_tidy h)

theorem execValveFrameLatch_tidy (returned : BitVec 96) (h : Tidy s) : AnswersTidy (execValveFrameLatch returned s) := by
  unfold execValveFrameLatch
  split
  · exact act_tidy h (latchFrame_tidy h)
  · exact act_tidy h h

theorem execBothHeldRestart_tidy (h : Tidy s) : AnswersTidy (execBothHeldRestart s) :=
  act_tidy h (tidy_ite (restartStation_tidy _) (Tidy.benched h (offerFrame_bench _ _ _)))

theorem execOnsetTaken_tidy (h : Tidy s) : AnswersTidy (execOnsetTaken s) := by
  unfold execOnsetTaken
  split
  · exact act_tidy h (judgeOnset_tidy h)
  · exact act_tidy h h

theorem execReleaseTaken_tidy (h : Tidy s) : AnswersTidy (execReleaseTaken s) := by
  unfold execReleaseTaken
  split
  · exact act_tidy h (tidy_ite h h)
  · exact act_tidy h h

theorem execGatherOpen_tidy (h : Tidy s) : AnswersTidy (execGatherOpen s) := by
  unfold execGatherOpen
  split
  · refine act_tidy h ?_
    split
    · exact tidy_ite h h
    · exact h
  · exact act_tidy h h

theorem execGatherCloseExpiry_tidy (which : Fin 2) (h : Tidy s) : AnswersTidy (execGatherCloseExpiry which s) := by
  unfold execGatherCloseExpiry
  split
  · exact act_tidy h h
  · exact act_tidy h h

theorem execGatherCloseTaken_tidy (h : Tidy s) : AnswersTidy (execGatherCloseTaken s) := by
  unfold execGatherCloseTaken
  split
  · exact act_tidy h (tidy_ite (applyMatched_tidy h) (applyVoid_tidy h))
  · exact act_tidy h h

theorem execClusterTaken_tidy (h : Tidy s) : AnswersTidy (execClusterTaken s) := by
  unfold execClusterTaken
  split
  · exact act_tidy h (tidy_ite (clusterInHold_tidy h) (clusterAhead_tidy h))
  · exact act_tidy h h

theorem execBeatEvent_tidy (h : Tidy s) : AnswersTidy (execBeatEvent s) := by
  unfold execBeatEvent
  split
  · exact act_tidy h (beatStages_tidy h)
  · exact act_tidy h h

theorem execBroadenMarkReached_tidy (h : Tidy s) : AnswersTidy (execBroadenMarkReached s) := by
  unfold execBroadenMarkReached
  split
  · exact act_tidy h (h.benched (reachBroaden_bench _ s))
  · exact act_tidy h h

theorem execHoldPointReached_tidy (h : Tidy s) : AnswersTidy (execHoldPointReached s) := by
  unfold execHoldPointReached
  split
  · exact act_tidy h (takeHold_tidy h)
  · exact act_tidy h h

theorem execHoldLimitExpiry_tidy (h : Tidy s) : AnswersTidy (execHoldLimitExpiry s) := by
  unfold execHoldLimitExpiry
  split
  · exact act_tidy h h
  · exact act_tidy h h

theorem execHoldRelease_tidy (h : Tidy s) : AnswersTidy (execHoldRelease s) := by
  unfold execHoldRelease
  split
  · exact act_tidy h (stage_tidy reportAnchor_tidy (releaseSteps_tidy h))
  · exact act_tidy h h

theorem execRetimeVisit_tidy (h : Tidy s) : AnswersTidy (execRetimeVisit s) := by
  unfold execRetimeVisit
  split
  · exact act_tidy h h
  · refine act_tidy h ?_
    split
    · exact endPass_tidy (visit_tidy h _)
    · exact h

theorem execChannelExpiry_tidy (channel : ChannelNo) (h : Tidy s) : AnswersTidy (execChannelExpiry channel s) := by
  unfold execChannelExpiry
  split
  · rename_i e expiry serves
    exact act_tidy h (settleTable_tidy (applyExpired_tidy h serves))
  · exact act_tidy h h

/-- The end of a stop pulse frees a channel that serves no action (R156). -/
theorem execStopPulseEnd_tidy (channel : ChannelNo) (h : Tidy s) : AnswersTidy (execStopPulseEnd channel s) := by
  unfold execStopPulseEnd
  split
  · rename_i ends pulsing
    refine act_tidy h (settleTable_tidy ⟨h.paired, h.serving.channel ?_ nofun, h.counted⟩)
    rw [pulsing]
    nofun
  · exact act_tidy h h

/-- Every command keeps the table in order. The commands stand in groups: those that leave it alone, the resets, the flash reads, the
frames sent and received, start-up, and those whose effect is a shared operation. -/
theorem exec_tidy (c : Instr) (h : Tidy s) : AnswersTidy (exec c s) := by
  cases c with
  | valveFrameStart | cutoffPinChange _ | cutoffReleaseEdge | pwmPeriodStart | frameMark _ | syncMarkRejected _ | lineReleasedHigh
  | offPulsesEnd | lineQuiet _ => exact act_tidy h h
  | coilRelease _ coil =>
    refine act_tidy h ?_
    cases coil <;> exact h
  | resetAsserted | fullStart _ =>
    rintro t ⟨⟩
    exact tableInOrder_empty
  | configurationSectionRead bytes => exact execConfigurationSectionRead_tidy bytes h
  | soundCheckTimeout => exact act_tidy h (endChecks_tidy (tidy_ite h (raiseFault_tidy h)))
  | joinCountComplete => exact execJoinCountComplete_tidy h
  | lineHeldLow _ => exact act_tidy h (tidy_ite h (raiseFault_tidy h))
  | directoryRead _ => exact completeRead_tidy h takeDirectory_tidy
  | headerRead _ => exact completeRead_tidy h takeHeader_tidy
  | versePlanRead _ => exact completeRead_tidy h takePlan_tidy
  | markBlockRead _ => exact completeRead_tidy h takeMarkBlock_tidy
  | noteBlockRead _ => exact completeRead_tidy h takeNoteBlock_tidy
  | select _ | start _ | stop _ | restart _ => exact receiveCue_tidy h
  | syncMarkBegin =>
    refine act_tidy h ?_
    split <;> exact h
  | frameClash bit level => exact execFrameClash_tidy bit level h
  | frameComplete => exact execFrameComplete_tidy h
  | heardReceived bytes => exact execHeardReceived_tidy bytes h
  | pulseReceived bytes => exact execPulseReceived_tidy bytes h
  | haltReceived bytes => exact execHaltReceived_tidy bytes h
  | faultReceived bytes => exact execFaultReceived_tidy bytes h
  | invalidFrame bytes broken => exact execInvalidFrame_tidy bytes broken h
  | duplicate bytes => exact execDuplicate_tidy bytes h
  | peerAbsenceExpiry p => exact execPeerAbsenceExpiry_tidy p h
  | sampleTaken edges ago => exact execSampleTaken_tidy edges ago h
  | soundInputLost => exact act_tidy h (tidy_ite h (raiseFault_tidy h))
  | valveFrameLatch returned => exact execValveFrameLatch_tidy returned h
  | assertionEdge => exact act_tidy h (assertionTaken_tidy h)
  | hymnNumberStable => exact act_tidy h (h.benched (offerSelect_bench s))
  | buttonPressEdge _ => exact act_tidy h (tidy_ite (tidy_ite h h) (Tidy.benched h (offerFrame_bench _ _ _)))
  | bothHeldRestart => exact execBothHeldRestart_tidy h
  | debouncedLevelChange _ => exact act_tidy h (tidy_ite h (tidy_ite h h))
  | markAppend => exact act_tidy h (runMarks_tidy h)
  | notePairInsert => exact act_tidy h (insertNote_tidy h)
  | stopActionInsert => exact act_tidy h (runNotes_tidy (iterate_invariant (fun _ _ => stopStep_tidy) 16 h))
  | endOfScore => exact act_tidy h (testHymnEnd_tidy h)
  | onsetTaken => exact execOnsetTaken_tidy h
  | releaseTaken => exact execReleaseTaken_tidy h
  | gatherOpen => exact execGatherOpen_tidy h
  | gatherCloseExpiry which => exact execGatherCloseExpiry_tidy which h
  | gatherCloseTaken => exact execGatherCloseTaken_tidy h
  | clusterTaken => exact execClusterTaken_tidy h
  | beatEvent => exact execBeatEvent_tidy h
  | broadenMarkReached => exact execBroadenMarkReached_tidy h
  | holdPointReached => exact execHoldPointReached_tidy h
  | holdLimitExpiry => exact execHoldLimitExpiry_tidy h
  | holdRelease => exact execHoldRelease_tidy h
  | retimeVisit => exact execRetimeVisit_tidy h
  | actionArm _ => exact act_tidy h (settleTable_tidy h)
  | dueTimePassedWaiting _ => exact act_tidy h (settleTable_tidy (testEntry_tidy h))
  | channelExpiry channel => exact execChannelExpiry_tidy channel h
  | stopPulseEnd channel => exact execStopPulseEnd_tidy channel h

theorem bitTime_tidy (h : Tidy s) : Tidy (bitTime s) := by
  unfold bitTime sampleCutoff takeCutoffSample
  dsimp only
  repeat' split
  all_goals exact h

theorem step_tidy (h : Tidy s) : AnswersTidy (step s) := by
  intro t e
  unfold step at e
  split at e
  · rename_i c rest _
    exact exec_tidy c (s := { s with pending := rest }) h t e
  · cases e
    exact bitTime_tidy h

end Sys2Proof.Machine
end

section

open Sys2Proof Sys2Proof.Machine

/-- Settles O10: every operation keeps the pairing of the actions, the service of the channels and the hold counts' numbering. -/
theorem tableStaysLegal : Obligations.TableStaysLegal := by
  unfold Obligations.TableStaysLegal
  intro s t legal next
  exact (legal_and_countsMatch_iff t).2 (step_tidy ((legal_and_countsMatch_iff s).1 legal) t next)

end

section
/-! What the table's events leave (R152 to R156): the channels handed on, and what an action that fires makes of the state. -/

namespace Sys2Proof.Machine

variable {s t : State} {sc : Scheduler} {e off : EntryNo} {c : ChannelNo} {a b x y : Action} {key : Key} {due : Time}

/-! ## Which entries wait for a channel (R152) -/

theorem waitsForChannel_congr (entry : t.sched.table[e] = s.sched.table[e]) (barrier : t.sched.barrier = s.sched.barrier) (now : t.now = s.now) :
    waitsForChannel t e = waitsForChannel s e := by
  unfold waitsForChannel
  rw [readyDue_congr entry barrier, entry, now]

theorem not_waits_of_unready (unready : readyDue s.sched e = none) : waitsForChannel s e = false := by rw [waitsForChannel, unready]

/-- An action that is due beyond the horizon, if it is due at all, waits for no channel (R152). -/
theorem not_waits_of_far (here : s.sched.table[e] = some a) (far : ∀ d, a.due = some d → 200 < since d s.now) : waitsForChannel s e = false := by
  unfold waitsForChannel
  split
  · rename_i d ready
    have later := far d (readyDue_eq_some ready here).2.2
    have beyond : decide (since d s.now ≤ Config.armHorizon) = false := decide_eq_false (not_le.2 later)
    rw [not_reached_of_pos (by omega), inHorizon, beyond, Bool.and_false, Bool.false_and]
    rfl
  · rfl

/-! ## The channels handed on (R152) -/

/-- What the service of the channels leaves: the scheduler and the output stage alone change; the pass, the barrier, the hold counts and every
entry that waits for no channel stand, and a channel serves what it served or an action that waited. -/
def State.Handed (s t : State) : Prop :=
  ∃ sched out, t = { s with sched := sched, out := out } ∧ sched.pass = s.sched.pass ∧ sched.barrier = s.sched.barrier ∧
    out.counts = s.out.counts ∧ (∀ e : EntryNo, waitsForChannel s e = false → sched.table[e] = s.sched.table[e]) ∧
    ∀ (c : ChannelNo) (e : EntryNo) (d : Time), sched.channels[c] = .waiting e d →
      s.sched.channels[c] = .waiting e d ∨ waitsForChannel s e = true

theorem State.Handed.refl (s : State) : s.Handed s := ⟨_, _, rfl, rfl, rfl, rfl, fun _ _ => rfl, fun _ _ _ => .inl⟩

theorem freeEntry_pass (e : EntryNo) (sc : Scheduler) : (freeEntry e sc).pass = sc.pass := by
  unfold freeEntry freeChannelOf
  split
  · split <;> rfl
  · rfl

/-- An entry freed leaves no channel serving what it did not serve. -/
theorem freeEntry_waiting {g : EntryNo} {d : Time} (serves : (freeEntry e sc).channels[c] = .waiting g d) : sc.channels[c] = .waiting g d := by
  unfold freeEntry freeChannelOf at serves
  split at serves
  · split at serves
    · rw [show (setEntry e none (setChannel _ .free sc)).channels = sc.channels.set _ .free from rfl, vector_set_getElem] at serves
      split at serves
      · cases serves
      · exact serves
    · exact serves
  · exact serves

/-- One channel handed on to the action at an entry: that entry alone changes (R152). -/
def State.HandedTo (g : EntryNo) (s t : State) : Prop :=
  ∃ sched out, t = { s with sched := sched, out := out } ∧ sched.pass = s.sched.pass ∧ sched.barrier = s.sched.barrier ∧
    out.counts = s.out.counts ∧ (∀ e : EntryNo, e ≠ g → sched.table[e] = s.sched.table[e]) ∧
    ∀ (c : ChannelNo) (e : EntryNo) (d : Time), sched.channels[c] = .waiting e d → s.sched.channels[c] = .waiting e d ∨ e = g

theorem armed_handedTo (c : ChannelNo) (e : EntryNo) (x : Option Action) (d : Time) (s : State) :
    s.HandedTo e { s with sched := setChannel c (.waiting e d) (setEntry e x s.sched) } := by
  refine ⟨_, s.out, rfl, rfl, rfl, rfl, fun g other => ?_, fun b g d' serves => ?_⟩
  · rw [setChannel_table, setEntry_table, vector_set_getElem, if_neg other]
  · rw [setChannel_channels, vector_set_getElem] at serves
    split at serves
    · cases serves
      exact .inr rfl
    · exact .inl serves

theorem startPulse_handedTo (c : ChannelNo) (e : EntryNo) (stop : StopNo) (coil : Coil) (s : State) : s.HandedTo e (startPulse e stop coil c s) := by
  refine ⟨_, _, rfl, freeEntry_pass e s.sched, freeEntry_barrier e s.sched, by cases coil <;> rfl, fun g other => ?_, fun b g d' serves => ?_⟩
  · rw [setChannel_table, freeEntry_table, vector_set_getElem, if_neg other]
  · rw [setChannel_channels, vector_set_getElem] at serves
    split at serves
    · cases serves
    · exact .inl (freeEntry_waiting serves)

/-- A turn of the service hands a channel to an action that waits for it (R152). -/
theorem serveStep_handedTo (turn : serveStep s = some t) : ∃ g, waitsForChannel s g = true ∧ s.HandedTo g t := by
  unfold serveStep at turn
  split at turn
  case h_2 => cases turn
  rename_i c g _ next
  refine ⟨g, (List.mem_filter.1 (mem_of_leastBy next)).2, ?_⟩
  split at turn
  case h_2 => cases turn
  split at turn
  · split at turn <;> cases turn
    · exact startPulse_handedTo c g _ _ s
    · exact armed_handedTo c g _ _ s
  · cases turn
    exact armed_handedTo c g _ _ s
  · cases turn

theorem serveStep_handed {u v : State} (handed : s.Handed u) (turn : serveStep u = some v) : s.Handed v := by
  obtain ⟨sched, out, rfl, pass, barrier, counts, entries, channels⟩ := handed
  obtain ⟨g, waits, sched', out', rfl, pass', barrier', counts', entries', channels'⟩ := serveStep_handedTo turn
  have waited (e : EntryNo) (still : waitsForChannel s e = false) : waitsForChannel { s with sched := sched, out := out } e = false :=
    (waitsForChannel_congr (s := s) (t := { s with sched := sched, out := out }) (entries e still) barrier rfl).trans still
  have other (e : EntryNo) (still : waitsForChannel s e = false) : e ≠ g := fun same => by
    rw [same] at still
    rw [waited g still] at waits
    cases waits
  refine ⟨sched', out', rfl, pass'.trans pass, barrier'.trans barrier, counts'.trans counts, fun e still => ?_, fun c e d serves => ?_⟩
  · exact (entries' e (other e still)).trans (entries e still)
  · rcases channels' c e d serves with served | same
    · exact channels c e d served
    · exact .inr (Bool.not_eq_false _ ▸ fun still => other e still same)

theorem settleTable_handed (going : s.store.notes.endReached = false) : s.Handed (settleTable s) := by
  have handed : s.Handed (serveWaiters s) := iterate_invariant (fun _ _ => serveStep_handed) 8 (State.Handed.refl s)
  have going' : (serveWaiters s).store.notes.endReached = false := by
    obtain ⟨_, _, e, -⟩ := handed
    rw [e]
    exact going
  rw [settleTable, testHymnEnd_of_going going']
  exact handed

section

variable (handed : s.Handed t)

include handed

theorem State.Handed.entry (still : waitsForChannel s e = false) : t.sched.table[e] = s.sched.table[e] := by
  obtain ⟨_, _, rfl, -, -, -, entries, -⟩ := handed
  exact entries e still

theorem State.Handed.gone (free : s.sched.table[e] = none) : t.sched.table[e] = none :=
  (handed.entry (not_waits_of_unready (readyDue_of_free free))).trans free

theorem State.Handed.counts : t.out.counts = s.out.counts := by
  obtain ⟨_, _, rfl, -, -, counts, -⟩ := handed
  exact counts

theorem State.Handed.pass : t.sched.pass = s.sched.pass := by
  obtain ⟨_, _, rfl, pass, -⟩ := handed
  exact pass

theorem State.Handed.fault : t.fault = s.fault := by
  obtain ⟨_, _, rfl, -⟩ := handed
  rfl

theorem State.Handed.line : t.line = s.line := by
  obtain ⟨_, _, rfl, -⟩ := handed
  rfl

theorem State.Handed.follow : t.follow = s.follow := by
  obtain ⟨_, _, rfl, -⟩ := handed
  rfl

end

/-! ## Actions applied (R155, R156) -/

/-- A NOTE_OFF that is due beyond the horizon, if at all, is not fired by the firing of its NOTE_ON (R155). -/
theorem testReleased_of_far (here : s.sched.table[e] = some a) (far : ∀ d, a.due = some d → 200 < since d s.now) : testReleased e s = s := by
  unfold testReleased
  split
  · rename_i b d here' ready
    cases here.symm.trans here'
    have later := far d (readyDue_eq_some ready here).2.2
    split
    · rw [not_reached_of_pos (by omega)]
      rfl
    · rfl
  · rfl

theorem noteFired_off {floor : Time} : (s.noteFired e off y key floor).sched.table[off] = some { y with pair := .fired floor } := by
  simp only [State.noteFired, setEntry_table, vector_set_getElem, if_true]

theorem noteFired_on {floor : Time} (other : off ≠ e) : (s.noteFired e off y key floor).sched.table[e] = none := by
  simp only [State.noteFired, setEntry_table, freeEntry_table, vector_set_getElem, if_neg other.symm, if_true]

/-- A NOTE_ON fired below a count of 15, its NOTE_OFF due beyond the horizon, if at all (R155). -/
theorem applyNoteOn_of_fired (room : s.out.counts[key] < 15) (entry : a.pair = .entry off) (other : off ≠ e) (at_ : s.sched.table[off] = some y)
    (far : ∀ d, y.due = some d → 200 < since d s.now) : applyNoteOn e key a due s = s.noteFired e off y key (addTicks due 100) := by
  rw [applyNoteOn_of_room (not_le.2 room) entry other at_]
  exact testReleased_of_far noteFired_off far

/-- The table without a NOTE_ON and its NOTE_OFF (R153, R155). -/
theorem dropPair_table (entry : a.pair = .entry off) : (dropPair e a sc).table = (sc.table.set e none).set off none := by
  rw [dropPair_eq entry, freeEntry_table, freeEntry_table]

theorem dropPair_gone (entry : a.pair = .entry off) : (dropPair e a sc).table[e] = none ∧ (dropPair e a sc).table[off] = none := by
  rw [dropPair_table entry, vector_set_getElem, vector_set_getElem, vector_set_getElem, if_pos rfl, if_pos rfl, ite_self]
  exact ⟨rfl, rfl⟩

theorem applyNoteOff_gone : (applyNoteOff e key s).sched.table[e] = none := by
  change (freeEntry e s.sched).table[e] = none
  rw [freeEntry_table, vector_set_getElem, if_pos rfl]

end Sys2Proof.Machine
end

section
/-! CHANNEL_EXPIRY and STOP_PULSE_END (R154 to R156). -/

namespace Sys2Proof.Machine

variable {s t : State} {e : EntryNo} {c : ChannelNo} {a : Action}

theorem execChannelExpiry_of_due {expiry : Time} (serves : s.sched.channels[c] = .waiting e expiry) (due : 0 ≤ since s.now expiry) :
    exec (.channelExpiry c) s = .next (settleTable (applyExpired c e expiry s)) := by
  change execChannelExpiry c s = _
  unfold execChannelExpiry
  rw [serves]
  exact act_of_due (decide_eq_true due)

theorem execStopPulseEnd_of_due {ends : Time} (pulsing : s.sched.channels[c] = .pulsing ends) (due : 0 ≤ since s.now ends) :
    exec (.stopPulseEnd c) s = .next (settleTable { s with sched := setChannel c .free s.sched }) := by
  change execStopPulseEnd c s = _
  unfold execStopPulseEnd
  rw [pulsing]
  exact act_of_due (decide_eq_true due)

/-- A STOP that fires on its own channel leaves the entry FREE and the channel PULSING (R156). -/
theorem startPulse_of_armed {stop : StopNo} {coil : Coil} (here : s.sched.table[e] = some a) (armed : a.state = .armed c) :
    startPulse e stop coil c s =
      { s with
        sched :=
          { s.sched with
            table := s.sched.table.set e none, channels := s.sched.channels.set c (.pulsing (addTicks s.now s.cfg.stopPulse)) }
        out := s.out.withPulse stop coil (addTicks s.now s.cfg.stopPulse) } := by
  have freed : freeChannelOf a s.sched = setChannel c .free s.sched := by rw [freeChannelOf, armed]
  unfold startPulse
  dsimp only
  rw [freeEntry_of_some here, freed, pulseCoil_eq]
  simp [setEntry, setChannel]

/-- With an entry freed and no other action waiting for a channel, none waits (R152). -/
theorem not_waits_without (alone : ∀ f, f ≠ e → waitsForChannel s f = false) (others : ∀ f, f ≠ e → t.sched.table[f] = s.sched.table[f])
    (free : t.sched.table[e] = none) (barrier : t.sched.barrier = s.sched.barrier) (now : t.now = s.now) (f : EntryNo) :
    waitsForChannel t f = false := by
  by_cases same : f = e
  · rw [same]
    exact not_waits_of_unready (readyDue_of_free free)
  · exact (waitsForChannel_congr (others f same) barrier now).trans (alone f same)

end Sys2Proof.Machine
end

section

open Sys2Proof Sys2Proof.Machine

/-- Settles O54: the action of an expired channel is applied, and the channels are then handed on, which moves no hold count and no entry of
what has fired. -/
theorem channelsFire : Obligations.ChannelsFire := by
  unfold Obligations.ChannelsFire
  refine fun ch s going => ⟨fun e x expiry serves due here armed => ⟨?_, ?_, ?_⟩, fun ends pulsing due still => ?_⟩
  · intro key off y kind entry other at_ kind' back waiting far
    rw [execChannelExpiry_of_due serves due, applyExpired_of_noteOn here armed kind]
    refine ⟨fun room => ?_, fun full report => ?_⟩
    · rw [applyNoteOn_of_fired room entry other at_ far]
      have handed := settleTable_handed (s := s.noteFired e off y key (addTicks expiry 100)) going
      exact ⟨_, rfl, handed.gone (noteFired_on other), (handed.entry (not_waits_of_far noteFired_off far)).trans noteFired_off, handed.counts,
        handed.fault, handed.line, handed.follow⟩
    · obtain ⟨on, off'⟩ := dropPair_gone (e := e) (sc := s.sched) entry
      rw [applyNoteOn_of_full full.ge, raiseFault_withReport (s := { s with sched := dropPair e x s.sched }) report (by decide) (by decide)]
      have handed := settleTable_handed (s := State.withReport { s with sched := dropPair e x s.sched } 4 none) going
      exact ⟨_, rfl, handed.gone on, handed.gone off', handed.counts, handed.fault, handed.line⟩
  · intro key kind
    rw [execChannelExpiry_of_due serves due, applyExpired_of_noteOff here armed kind]
    have handed := settleTable_handed (s := applyNoteOff e key s) going
    exact ⟨_, rfl, handed.gone applyNoteOff_gone, handed.counts, handed.fault, handed.line⟩
  · intro stop coil kind alone
    rw [execChannelExpiry_of_due serves due, applyExpired_of_stop here kind, startPulse_of_armed here armed]
    refine congrArg Host.Outcome.next (settleTable_of_still (.inr ?_) going)
    exact not_waits_without alone (fun f other => by rw [vector_set_getElem, if_neg other]) (by rw [vector_set_getElem, if_pos rfl]) rfl rfl
  · rw [execStopPulseEnd_of_due pulsing due]
    exact congrArg Host.Outcome.next (settleTable_of_still (.inr still) going)

end

section
/-! DUE_TIME_PASSED_WAITING (R151, R153, R155). -/

namespace Sys2Proof.Machine

variable {s : State} {sc : Scheduler} {e : EntryNo} {a : Action} {due : Time}

theorem eligible_iff {barrier : Option Nat} :
    eligible barrier a = true ↔ (∀ b, barrier = some b → a.position < b) ∧ ∀ key p, a.kind = .noteOff key → a.pair ≠ .entry p := by
  rw [← eligible_none_iff]
  unfold eligible
  cases barrier <;> simp

theorem readyDue_of_eligible (here : sc.table[e] = some a) (waiting : a.state = .waiting) (fit : eligible sc.barrier a = true) :
    readyDue sc e = a.due := by
  unfold readyDue
  rw [here]
  exact if_pos (by simp [waiting, fit])

theorem readyDue_of_ineligible (here : sc.table[e] = some a) (unfit : ¬eligible sc.barrier a = true) : readyDue sc e = none := by
  unfold readyDue
  rw [here]
  exact if_neg fun ready => unfit (Bool.and_eq_true _ _ ▸ ready).2

/-- A WAITING action that fires at its own due time is poised as it stands (R153). -/
theorem fires_of_waiting (here : s.sched.table[e] = some a) (waiting : a.state = .waiting) (timed : a.due = some due) : s.fires e a due = s := by
  have stands : a.timed due = a := by rw [Action.timed, ← waiting, ← timed]
  have freed : freeChannelOf a s.sched = s.sched := by rw [freeChannelOf, waiting]
  have same : s.sched.table.set e (some a) = s.sched.table := by
    rw [← here]
    exact Vector.set_getElem_self _
  rw [State.fires, stands, freed, setEntry, same]

theorem execDueTimePassedWaiting_of_unready (unready : readyDue s.sched e = none) : exec (.dueTimePassedWaiting e) s = .next s :=
  act_of_not_due (by rw [overdue, unready]; rfl)

theorem execDueTimePassedWaiting_of_overdue (here : s.sched.table[e] = some a) (ready : readyDue s.sched e = some due)
    (passed : 0 ≤ since s.now due) : exec (.dueTimePassedWaiting e) s = .next (settleTable (fireAtOnce e a due s)) := by
  have reached_ : reached due s.now = true := decide_eq_true passed
  rw [show exec (.dueTimePassedWaiting e) s = _ from act_of_due (by rw [overdue, ready]; exact reached_), testEntry_of_ready here ready,
    if_pos reached_]

end Sys2Proof.Machine
end

section

open Sys2Proof Sys2Proof.Machine

/-- Settles O55: an action that may not fire is not overdue; one that may fires as it stands, and the service of the channels that follows moves
nothing of what has fired. -/
theorem lateActions : Obligations.LateActions := by
  unfold Obligations.LateActions
  refine fun e x due s going here waiting timed passed => ⟨?_, ?_, fun below => ⟨?_, ?_⟩⟩
  · rintro ⟨b, barrier, behind⟩
    refine execDueTimePassedWaiting_of_unready (readyDue_of_ineligible here fun fit => ?_)
    exact absurd ((eligible_iff.1 fit).1 b barrier) (not_lt.2 behind)
  · intro key p kind pair
    exact execDueTimePassedWaiting_of_unready (readyDue_of_ineligible here fun fit => (eligible_iff.1 fit).2 key p kind pair)
  · intro key off y kind entry other at_ kind' back waiting' far
    have fit : eligible s.sched.barrier x = true := eligible_iff.2 ⟨below, fun _ _ off _ => by rw [kind] at off; cases off⟩
    have ready : readyDue s.sched e = some due := (readyDue_of_eligible here waiting fit).trans timed
    have poised := fires_of_waiting here waiting timed
    rw [execDueTimePassedWaiting_of_overdue here ready passed]
    refine ⟨fun late report => ?_, fun timely room => ?_⟩
    · obtain ⟨on, off'⟩ := dropPair_gone (e := e) (sc := s.sched) entry
      rw [fireAtOnce_of_late kind late, poised,
        raiseFault_withReport (s := { s with sched := dropPair e x s.sched }) report (by decide) (by decide)]
      have handed := settleTable_handed (s := State.withReport { s with sched := dropPair e x s.sched } 3 none) going
      exact ⟨_, rfl, handed.gone on, handed.gone off', handed.counts, handed.fault, handed.line⟩
    · rw [fireAtOnce_of_timely kind (not_lt.2 timely), poised, applyNoteOn_of_fired room entry other at_ far]
      have handed := settleTable_handed (s := s.noteFired e off y key (addTicks due 100)) going
      exact ⟨_, rfl, handed.gone (noteFired_on other), (handed.entry (not_waits_of_far noteFired_off far)).trans noteFired_off, handed.counts,
        handed.fault, handed.line⟩
  · intro key floor kind fired
    have fit : eligible s.sched.barrier x = true := eligible_iff.2 ⟨below, fun _ _ _ entry => by rw [fired] at entry; cases entry⟩
    have ready : readyDue s.sched e = some due := (readyDue_of_eligible here waiting fit).trans timed
    rw [execDueTimePassedWaiting_of_overdue here ready passed, fireAtOnce_of_noteOff kind, fires_of_waiting here waiting timed]
    have handed := settleTable_handed (s := applyNoteOff e key s) going
    exact ⟨_, rfl, handed.gone applyNoteOff_gone, handed.counts, handed.fault, handed.line⟩

end

section
/-! A visit of the re-time pass (R150, R158, R159): where it leaves the action before it is tested, and what its firing makes of that. -/

namespace Sys2Proof.Machine

variable {s t u : State} {sc : Scheduler} {cursor : Cursor} {e off : EntryNo} {a x y : Action} {due : Time} {c ch : ChannelNo} {key : Key}
  {table : Vector (Option Action) 64} {channels : Vector Channel 8} {out : OutputStage}

/-- The due time of the statements is the one the model computes (R150). -/
theorem dueOf_of_rules (rules : s.rulesDue x due) : dueOf s x = due := by
  unfold State.rulesDue at rules
  unfold dueOf
  split at rules
  · rename_i key floor kind pair
    rw [kind, pair]
    exact rules.symm
  · rename_i key on kind pair
    obtain ⟨y, d, at_, timed, rules⟩ := rules
    rw [kind, pair]
    dsimp only [floorOf]
    rw [at_]
    dsimp only
    rw [timed]
    exact rules.symm
  · exact rules.elim
  · rename_i fired entry absent
    split
    · rename_i key kind
      cases pair : x.pair with
      | absent => exact (absent key kind pair).elim
      | fired floor => exact (fired key floor kind pair).elim
      | entry on => exact (entry key on kind pair).elim
    · exact rules.symm

/-! ## The pass (R158) -/

/-- What a visit leaves: the scheduler's pass at the action visited, the table, the channels and the output stage as given. -/
def State.left (e : EntryNo) (x : Action) (table : Vector (Option Action) 64) (channels : Vector Channel 8) (out : OutputStage) (s u : State) :
    State :=
  { u with sched := { s.sched with table := table, channels := channels, pass := some (.after x.position e) }, out := out }

theorem endPass_cases (s : State) : endPass s = s ∨ endPass s = { s with sched.pass := none } := by
  unfold endPass
  split
  · split
    · exact .inr rfl
    · exact .inl rfl
  · exact .inl rfl

/-- A visit answers with its pass going on or ended (R158). -/
theorem answers_of_left (answers : exec .retimeVisit s = .next (endPass (s.left e x table channels out u))) :
    ∃ t, exec .retimeVisit s = .next t ∧ (t.sched.pass = none ∨ t.sched.pass = some (.after x.position e)) ∧
      t = { u with sched := { s.sched with table := table, channels := channels, pass := t.sched.pass }, out := out } := by
  refine ⟨_, answers, ?_⟩
  rcases endPass_cases (s.left e x table channels out u) with same | ended
  · rw [same]
    exact ⟨.inr rfl, rfl⟩
  · rw [ended]
    exact ⟨.inl rfl, rfl⟩

/-! ## Firing at once does not ask how the action stood before it gave up its channel (R153) -/

theorem fireAtOnce_fires : fireAtOnce e (a.timed due) due (s.fires e a due) = fireAtOnce e a due s := by
  have again : (s.fires e a due).fires e (a.timed due) due = s.fires e a due := fires_of_waiting (fires_table due) rfl rfl
  rw [fireAtOnce_eq, fireAtOnce_eq, again, show (a.timed due).kind = a.kind from rfl]
  cases a.kind <;> rfl

/-! ## The action as the visit leaves it before it is tested (R158, R159) -/

/-- The action visited stands WAITING with its due time, the channels as given. -/
def State.poised (e : EntryNo) (x : Action) (due : Time) (channels : Vector Channel 8) (s : State) : State :=
  s.left e x (s.sched.table.set e (some (x.timed due))) channels s.out s

theorem poised_table : (s.poised e x due channels).sched.table[e] = some (x.timed due) := by
  simp only [State.poised, State.left, vector_set_getElem, if_true]

theorem poised_table_of_ne {f : EntryNo} (other : f ≠ e) : (s.poised e x due channels).sched.table[f] = s.sched.table[f] := by
  simp only [State.poised, State.left, vector_set_getElem, if_neg other]

section

variable (pass : s.sched.pass = some cursor) (next : nextVisit s.sched cursor = some e) (here : s.sched.table[e] = some x) (rules : s.rulesDue x due)

include pass next in
theorem execRetimeVisit_eq : exec .retimeVisit s = .next (endPass (visit e s)) := by
  change execRetimeVisit s = _
  unfold execRetimeVisit
  rw [pass]
  dsimp only
  rw [next]
  rfl

include here rules

/-- A WAITING action stands timed afresh, and is tested (R158). -/
theorem visit_of_waiting (waiting : x.state = .waiting) : visit e s = settleTable (testEntry e (s.poised e x due s.sched.channels)) := by
  have timed : x.timed due = { x with due := some (dueOf s x) } := by rw [Action.timed, ← waiting, dueOf_of_rules rules]
  unfold visit
  rw [here]
  dsimp only
  rw [waiting]
  rw [State.poised, timed]
  rfl

theorem visit_of_armed (armed : x.state = .armed ch) :
    visit e s =
      if reached due s.now then settleTable (fireAtOnce e x due { s with sched.pass := some (.after x.position e) })
      else if inHorizon s.now due then
        s.left e x (s.sched.table.set e (some { x with due := some due })) (s.sched.channels.set ch (.waiting e due)) s.out s
      else settleTable (s.poised e x due (s.sched.channels.set ch .free)) := by
  have visited : visit e s = visitArmed e ch x { s with sched.pass := some (.after x.position e) } := by
    unfold visit
    rw [here]
    dsimp only
    rw [armed]
  have again : dueOf { s with sched.pass := some (.after x.position e) } x = due := dueOf_of_rules rules
  rw [visited, visitArmed, again]
  rfl

/-- An ARMED action due beyond the horizon gives its channel up and waits (R159). -/
theorem visit_of_armed_far (armed : x.state = .armed ch) (far : 200 < since due s.now) :
    visit e s = settleTable (s.poised e x due (s.sched.channels.set ch .free)) := by
  have beyond : inHorizon s.now due = false := by
    rw [inHorizon, Bool.and_eq_false_iff]
    exact .inr (decide_eq_false (not_le.2 far))
  rw [visit_of_armed here rules armed, not_reached_of_pos (by omega), beyond]
  rfl

/-- An ARMED action due within the horizon keeps its channel (R159). -/
theorem visit_of_armed_near (armed : x.state = .armed ch) (later : 0 < since due s.now) (near : since due s.now ≤ 200) :
    visit e s = s.left e x (s.sched.table.set e (some { x with due := some due })) (s.sched.channels.set ch (.waiting e due)) s.out s := by
  have within : inHorizon s.now due = true := by
    rw [inHorizon, Bool.and_eq_true]
    exact ⟨decide_eq_true later, decide_eq_true near⟩
  rw [visit_of_armed here rules armed, not_reached_of_pos later, within]
  rfl

/-- An ARMED action that is due gives its channel up and fires (R153, R159). -/
theorem visit_of_armed_due (armed : x.state = .armed ch) (passed : 0 ≤ since s.now due) :
    visit e s = settleTable (fireAtOnce e (x.timed due) due (s.poised e x due (s.sched.channels.set ch .free))) := by
  have freed : freeChannelOf x = setChannel ch .free := by
    funext sc
    rw [freeChannelOf, armed]
  have fires : State.fires e x due { s with sched.pass := some (.after x.position e) } = s.poised e x due (s.sched.channels.set ch .free) := by
    rw [State.fires, freed]
    rfl
  have reached_ : reached due s.now = true := decide_eq_true passed
  rw [visit_of_armed here rules armed, if_pos reached_, ← fires, fireAtOnce_fires]

end

/-! ## The action poised: whether it is ready, and what waits then (R151, R152) -/

theorem readyDue_poised_of_eligible (fit : eligible s.sched.barrier x = true) : readyDue (s.poised e x due channels).sched e = some due :=
  readyDue_of_eligible poised_table rfl fit

theorem readyDue_poised_of_ineligible (unfit : ¬eligible s.sched.barrier x = true) : readyDue (s.poised e x due channels).sched e = none :=
  readyDue_of_ineligible poised_table unfit

/-- An action barred is one that is not eligible (R151, R161). -/
theorem barred_iff {barrier : Option Nat} :
    ((∃ b, barrier = some b ∧ b ≤ x.position) ∨ ∃ key p, x.kind = .noteOff key ∧ x.pair = .entry p) ↔ ¬eligible barrier x = true := by
  rw [eligible_iff, not_and_or]
  push Not
  rfl

theorem testEntry_poised_of_early (early : 0 < since due s.now) : testEntry e (s.poised e x due channels) = s.poised e x due channels := by
  by_cases fit : eligible s.sched.barrier x = true
  · rw [testEntry_of_ready poised_table (readyDue_poised_of_eligible fit), if_neg]
    exact Bool.eq_false_iff.1 (not_reached_of_pos early)
  · exact testEntry_of_unready (readyDue_poised_of_ineligible fit)

theorem not_waits_poised_of_far (far : 200 < since due s.now) : waitsForChannel (s.poised e x due channels) e = false :=
  not_waits_of_far poised_table fun d timed => by
    cases timed
    exact far

/-- With one entry changed and perhaps others that wait for no channel, none waits when no other did (R152). -/
theorem not_waits_of_alone (alone : ∀ f, f ≠ e → waitsForChannel s f = false) (self : waitsForChannel t e = false)
    (others : ∀ f, f ≠ e → t.sched.table[f] = s.sched.table[f] ∨ waitsForChannel t f = false) (barrier : t.sched.barrier = s.sched.barrier)
    (now : t.now = s.now) (f : EntryNo) : waitsForChannel t f = false := by
  by_cases same : f = e
  · rw [same]
    exact self
  · rcases others f same with stands | still
    · exact (waitsForChannel_congr stands barrier now).trans (alone f same)
    · exact still

theorem settleTable_poised (alone : ∀ f, f ≠ e → waitsForChannel s f = false) (going : s.store.notes.endReached = false)
    (self : waitsForChannel (s.poised e x due channels) e = false) :
    settleTable (s.poised e x due channels) = s.poised e x due channels :=
  settleTable_of_still (.inr (not_waits_of_alone alone self (fun _ other => .inl (poised_table_of_ne other)) rfl rfl)) going

/-- The one action within the horizon arms on the lowest FREE channel (R152). -/
theorem settleTable_of_armed (here : s.sched.table[e] = some a) (ready : readyDue s.sched e = some due) (later : 0 < since due s.now)
    (near : since due s.now ≤ 200) (lowest : lowestFreeChannel s.sched = some c) (alone : ∀ f, f ≠ e → waitsForChannel s f = false)
    (going : s.store.notes.endReached = false) :
    waitsForChannel s e = true ∧
      settleTable s = { s with sched := setChannel c (.waiting e due) (setEntry e (some { a with state := .armed c }) s.sched) } := by
  have early := not_reached_of_pos later
  have timed : a.due = some due := (readyDue_eq_some ready here).2.2
  have waits : waitsForChannel s e = true := by
    rw [waitsForChannel, ready]
    simp only [inHorizon, decide_eq_true later, Bool.true_and, Bool.or_eq_true]
    exact .inl (decide_eq_true near)
  have turn : serveStep s = some { s with sched := setChannel c (.waiting e due) (setEntry e (some { a with state := .armed c }) s.sched) } := by
    unfold serveStep
    rw [lowest, nextWaiter_of_only waits alone]
    dsimp only
    rw [here]
    dsimp only
    rw [timed]
    cases a.kind with
    | stop stop coil => exact if_neg (Bool.eq_false_iff.1 early)
    | noteOn key => rfl
    | noteOff key => rfl
  refine ⟨waits, settleTable_of_turn turn (not_waits_of_alone alone ?_ (fun f other => .inl ?_) rfl rfl) going⟩
  · refine not_waits_of_unready ?_
    unfold readyDue
    rw [setChannel_table, setEntry_table, vector_set_getElem, if_pos rfl]
    rfl
  · rw [setChannel_table, setEntry_table, vector_set_getElem, if_neg other]

/-! ## What the firing of the action makes of the visit (R153, R155, R156) -/

theorem freeEntry_of_waiting (here : sc.table[e] = some a) (waiting : a.state = .waiting) : freeEntry e sc = setEntry e none sc := by
  rw [freeEntry_of_some here, freeChannelOf, waiting]

theorem fires_poised : (s.poised e x due channels).fires e (x.timed due) due = s.poised e x due channels :=
  fires_of_waiting poised_table rfl rfl

theorem freeEntry_poised :
    freeEntry e (s.poised e x due channels).sched = (s.left e x (s.sched.table.set e none) channels out u).sched := by
  rw [freeEntry_of_waiting poised_table rfl]
  simp [setEntry, State.poised, State.left]

/-- A NOTE_ON beyond the late limit is dropped with its NOTE_OFF, and LATE reported (R153). -/
theorem fireAtOnce_poised_of_late (kind : x.kind = .noteOn key) (entry : x.pair = .entry off) (other : off ≠ e)
    (at_ : s.sched.table[off] = some y) (waiting : y.state = .waiting) (late : (s.cfg.lateLimit : Int) < since s.now due)
    (report : s.wouldReport 3) :
    fireAtOnce e (x.timed due) due (s.poised e x due channels) =
      s.left e x ((s.sched.table.set e none).set off none) channels s.out (s.withReport 3 none) := by
  have at_' : (s.left e x (s.sched.table.set e none) channels s.out s).sched.table[off] = some y := by
    rw [State.left, vector_set_getElem, if_neg other, at_]
  have dropped : dropPair e (x.timed due) (s.poised e x due channels).sched =
      (s.left e x ((s.sched.table.set e none).set off none) channels s.out s).sched := by
    rw [dropPair_eq (a := x.timed due) entry, freeEntry_poised (out := s.out) (u := s), freeEntry_of_waiting at_' waiting]
    rfl
  rw [fireAtOnce_of_late (s := s.poised e x due channels) (a := x.timed due) kind late, fires_poised, dropped]
  exact raiseFault_withReport (s := s.left e x ((s.sched.table.set e none).set off none) channels s.out s) report (by decide) (by decide)

/-- A NOTE_ON within the late limit sounds, its NOTE_OFF left FIRED with the floor 100 ticks on (R155). -/
theorem fireAtOnce_poised_of_timely (kind : x.kind = .noteOn key) (entry : x.pair = .entry off) (other : off ≠ e)
    (at_ : s.sched.table[off] = some y) (far : ∀ d, y.due = some d → 200 < since d s.now) (timely : since s.now due ≤ s.cfg.lateLimit)
    (room : s.out.counts[key] < 15) :
    fireAtOnce e (x.timed due) due (s.poised e x due channels) =
      s.left e x ((s.sched.table.set e none).set off (some { y with pair := .fired (due + 100) })) channels
        { s.out with counts := s.out.counts.set key (s.out.counts[key] + 1) } s := by
  have at_' : (s.poised e x due channels).sched.table[off] = some y := (poised_table_of_ne other).trans at_
  rw [fireAtOnce_of_timely (s := s.poised e x due channels) (a := x.timed due) kind (not_lt.2 timely), fires_poised,
    applyNoteOn_of_fired (s := s.poised e x due channels) (a := x.timed due) room entry other at_' far, State.noteFired,
    freeEntry_poised (out := s.out) (u := s)]
  rfl

theorem fireAtOnce_poised_of_noteOff (kind : x.kind = .noteOff key) :
    fireAtOnce e (x.timed due) due (s.poised e x due channels) =
      s.left e x (s.sched.table.set e none) channels { s.out with counts := s.out.counts.set key (s.out.counts[key] - 1) } s := by
  rw [fireAtOnce_of_noteOff (a := x.timed due) kind, fires_poised, applyNoteOff, freeEntry_poised (out := s.out) (u := s)]
  rfl

section

variable {stop : StopNo} {coil : Coil} (kind : x.kind = .stop stop coil)

include kind

/-- A STOP pulses its coil on the lowest FREE channel (R153, R156). -/
theorem fireAtOnce_poised_of_stop (free : channels[c] = .free) (taken : ∀ b, b < c → channels[b] ≠ .free) :
    fireAtOnce e (x.timed due) due (s.poised e x due channels) =
      s.left e x (s.sched.table.set e none) (channels.set c (.pulsing (addTicks s.now s.cfg.stopPulse)))
        (s.out.withPulse stop coil (addTicks s.now s.cfg.stopPulse)) s := by
  have lowest : lowestFreeChannel (s.poised e x due channels).sched = some c := lowestFreeChannel_of_first free taken
  rw [fireAtOnce_of_stop (a := x.timed due) kind, fires_poised, lowest]
  dsimp only
  rw [startPulse, freeEntry_poised (out := s.out) (u := s), pulseCoil_eq]
  rfl

/-- A STOP that finds no channel waits on (R153). -/
theorem fireAtOnce_poised_of_full (full : ∀ c : ChannelNo, channels[c] ≠ .free) :
    fireAtOnce e (x.timed due) due (s.poised e x due channels) = s.poised e x due channels := by
  have none : lowestFreeChannel (s.poised e x due channels).sched = Option.none := lowestFreeChannel_of_full full
  rw [fireAtOnce_of_stop (a := x.timed due) kind, fires_poised, none]

end

/-! ## The answer of a visit (R158, R159) -/

section

variable {freed : Vector Channel 8} (going : s.store.notes.endReached = false) (pass : s.sched.pass = some cursor)
  (next : nextVisit s.sched cursor = some e) (here : s.sched.table[e] = some x) (rules : s.rulesDue x due)
  (alone : ∀ f, f ≠ e → waitsForChannel s f = false)

include pass next in
theorem visited_of_visit (visits : visit e s = s.left e x table channels out u) :
    ∃ t, exec .retimeVisit s = .next t ∧ (t.sched.pass = none ∨ t.sched.pass = some (.after x.position e)) ∧
      t = { u with sched := { s.sched with table := table, channels := channels, pass := t.sched.pass }, out := out } :=
  answers_of_left ((execRetimeVisit_eq pass next).trans (congrArg (fun v => Host.Outcome.next (endPass v)) visits))

theorem timed_of_waiting (waiting : x.state = .waiting) : x.timed due = { x with due := some due } := by rw [Action.timed, ← waiting]

include going pass next in
/-- A visit that leaves the action WAITING with a due time beyond the horizon: the channels handed on then move neither it nor a hold count, and
no channel comes to serve it. -/
theorem visited_of_far (far : 200 < since due s.now) (visits : visit e s = settleTable (s.poised e x due channels)) :
    ∃ t, exec .retimeVisit s = .next t ∧ t.sched.table[e] = some (x.timed due) ∧ t.out.counts = s.out.counts ∧
      (t.sched.pass = none ∨ t.sched.pass = some (.after x.position e)) ∧
      ∀ (c : ChannelNo) (d : Time), t.sched.channels[c] = .waiting e d → channels[c] = .waiting e d := by
  have handed := settleTable_handed (s := s.poised e x due channels) going
  have still : waitsForChannel (s.poised e x due channels) e = false := not_waits_poised_of_far far
  have entry := (handed.entry still).trans poised_table
  have serves (c : ChannelNo) (d : Time) (served : (settleTable (s.poised e x due channels)).sched.channels[c] = .waiting e d) :
      channels[c] = .waiting e d := by
    obtain ⟨_, _, same, -, -, -, -, becomes⟩ := handed
    rw [same] at served
    refine (becomes c e d served).resolve_right fun waits => ?_
    rw [still] at waits
    cases waits
  refine ⟨_, execRetimeVisit_eq pass next, ?_⟩
  rw [visits]
  rcases endPass_cases (settleTable (s.poised e x due channels)) with same | ended
  · rw [same]
    exact ⟨entry, handed.counts, .inr handed.pass, serves⟩
  · rw [ended]
    exact ⟨entry, handed.counts, .inl rfl, serves⟩

include here rules in
/-- A WAITING action barred, not yet due, or a STOP that finds no channel is left as it stands poised (R151, R153). -/
theorem visit_of_unfired (waiting : x.state = .waiting)
    (unfired : ¬eligible s.sched.barrier x = true ∨ 0 < since due s.now ∨ x.isStop = true ∧ ∀ c : ChannelNo, s.sched.channels[c] ≠ .free) :
    visit e s = settleTable (s.poised e x due s.sched.channels) := by
  rw [visit_of_waiting here rules waiting]
  refine congrArg settleTable ?_
  rcases unfired with unfit | early | ⟨stops, full⟩
  · exact testEntry_of_unready (readyDue_poised_of_ineligible unfit)
  · exact testEntry_poised_of_early early
  · by_cases fit : eligible s.sched.barrier x = true
    · rw [testEntry_of_ready poised_table (readyDue_poised_of_eligible fit)]
      cases kind : x.kind with
      | stop stop coil => rw [fireAtOnce_poised_of_full kind full, ite_self]
      | noteOn key => simp [Action.isStop, kind] at stops
      | noteOff key => simp [Action.isStop, kind] at stops
    · exact testEntry_of_unready (readyDue_poised_of_ineligible fit)

include going here rules alone in
/-- A WAITING action barred, beyond the horizon, or in want of a channel waits with its due time (R158). -/
theorem visit_of_stays (waiting : x.state = .waiting)
    (stays : ¬eligible s.sched.barrier x = true ∨ 200 < since due s.now ∨
      (0 < since due s.now ∨ x.isStop = true) ∧ ∀ c : ChannelNo, s.sched.channels[c] ≠ .free) :
    visit e s = s.poised e x due s.sched.channels := by
  have unfired := visit_of_unfired here rules waiting
  rcases stays with unfit | far | ⟨early, full⟩
  · exact (unfired (.inl unfit)).trans (settleTable_poised alone going (not_waits_of_unready (readyDue_poised_of_ineligible unfit)))
  · exact (unfired (.inr (.inl (by omega)))).trans (settleTable_poised alone going (not_waits_poised_of_far far))
  · exact (unfired (.inr (early.imp_right fun stops => ⟨stops, full⟩))).trans
      (settleTable_of_still (.inl (lowestFreeChannel_of_full full)) going)

include going here rules alone in
/-- An eligible one within the horizon arms on the lowest FREE channel (R152, R158). -/
theorem visit_of_arms (waiting : x.state = .waiting) (fit : eligible s.sched.barrier x = true) (later : 0 < since due s.now)
    (near : since due s.now ≤ 200) (lowest : lowestFreeChannel s.sched = some c) :
    visit e s =
      s.left e x (s.sched.table.set e (some { x with state := .armed c, due := some due })) (s.sched.channels.set c (.waiting e due)) s.out s := by
  have ready : readyDue (s.poised e x due s.sched.channels).sched e = some due := readyDue_poised_of_eligible fit
  obtain ⟨-, armed⟩ := settleTable_of_armed poised_table ready later near lowest
    (fun f other => (waitsForChannel_congr (poised_table_of_ne other) rfl rfl).trans (alone f other)) going
  rw [visit_of_unfired here rules waiting (.inr (.inl later)), armed]
  simp [State.poised, State.left, setChannel, setEntry, Action.timed]

include here rules in
/-- An action that is due fires: a WAITING one that may, or an ARMED one, which gives its channel up (R153, R159). -/
theorem visit_of_due (passed : 0 ≤ since s.now due)
    (poised : x.state = .waiting ∧ eligible s.sched.barrier x = true ∧ freed = s.sched.channels ∨
      ∃ ch old, x.state = .armed ch ∧ s.sched.channels[ch] = .waiting e old ∧ freed = s.sched.channels.set ch .free) :
    visit e s = settleTable (fireAtOnce e (x.timed due) due (s.poised e x due freed)) := by
  have reached_ : reached due s.now = true := decide_eq_true passed
  rcases poised with ⟨waiting, fit, rfl⟩ | ⟨ch, old, armed, -, rfl⟩
  · rw [visit_of_waiting here rules waiting, testEntry_of_ready poised_table (readyDue_poised_of_eligible fit), if_pos]
    exact reached_
  · exact visit_of_armed_due here rules armed passed

include alone in
/-- With the action visited gone from the table no other action waits for a channel (R152). -/
theorem settleTable_left (going : u.store.notes.endReached = false) (now : u.now = s.now) (gone : table[e] = none)
    (others : ∀ f, f ≠ e → table[f] = s.sched.table[f] ∨ waitsForChannel (s.left e x table channels out u) f = false) :
    settleTable (s.left e x table channels out u) = s.left e x table channels out u :=
  settleTable_of_still (.inr (not_waits_of_alone alone (not_waits_of_unready (readyDue_of_free gone)) others rfl now)) going

include alone in
/-- The same with the NOTE_OFF of the action visited changed, so long as it waits for no channel. -/
theorem settleTable_left_off {v : Option Action} (going : u.store.notes.endReached = false) (now : u.now = s.now) (other : off ≠ e)
    (still : waitsForChannel (s.left e x ((s.sched.table.set e none).set off v) channels out u) off = false) :
    settleTable (s.left e x ((s.sched.table.set e none).set off v) channels out u) =
      s.left e x ((s.sched.table.set e none).set off v) channels out u := by
  refine settleTable_left alone going now ?_ fun f apart => ?_
  · rw [vector_set_getElem, if_neg other.symm, vector_set_getElem, if_pos rfl]
  · by_cases same : f = off
    · exact .inr (same ▸ still)
    · exact .inl (by rw [vector_set_getElem, if_neg same, vector_set_getElem, if_neg apart])

end

end Sys2Proof.Machine
end

section

open Sys2Proof Sys2Proof.Machine

/-- Settles O53: a visit poises the action with its due time, fires it or not, and hands the channels on; what the statement leaves open about
other actions that wait for a channel is what the service of the channels may change. -/
theorem passAndArming : Obligations.PassAndArming := by
  unfold Obligations.PassAndArming
  refine fun s going => ⟨fun cursor e x due pass next here rules => ?_, fun cursor pass last => ?_, ?_⟩
  · intro visited timed gone barred alone
    have answers {table channels out u} : visit e s = s.left e x table channels out u → visited table channels out u :=
      visited_of_visit pass next
    have barred_ : barred ↔ ¬eligible s.sched.barrier x = true := barred_iff
    refine ⟨fun waiting far => ?_, fun waiting only stays => ?_, fun c waiting only free later near at_ lowest => ?_,
      fun ch old armed serves far => ?_, fun ch armed later near => answers (visit_of_armed_near here rules armed later near),
      fun freed only passed poised => ?_⟩
    · obtain ⟨t, answer, entry, counts, ends, -⟩ :=
        visited_of_far going pass next far (visit_of_unfired here rules waiting (.inr (.inl (by omega))))
      exact ⟨t, answer, timed_of_waiting waiting ▸ entry, counts, ends⟩
    · refine answers ((visit_of_stays going here rules only waiting (stays.imp_left barred_.1)).trans ?_)
      rw [State.poised, timed_of_waiting waiting]
    · exact answers (visit_of_arms going here rules only waiting (not_not.1 (mt barred_.2 free)) later near (lowestFreeChannel_of_first at_ lowest))
    · have visits := visit_of_armed_far here rules armed far
      refine ⟨?_, fun only => answers (visits.trans (settleTable_poised only going (not_waits_poised_of_far far)))⟩
      obtain ⟨t, answer, entry, counts, -, serves'⟩ := visited_of_far going pass next far visits
      refine ⟨t, answer, entry, fun same => ?_, counts⟩
      have served := serves' ch old (same.trans serves)
      rw [vector_set_getElem, if_pos rfl] at served
      cases served
    · have visits := visit_of_due here rules passed
        (poised.imp_left fun ⟨waiting, free, same⟩ => ⟨waiting, not_not.1 (mt barred_.2 free), same⟩)
      have emptied : gone[e] = none := by rw [vector_set_getElem, if_pos rfl]
      have stands (f : EntryNo) (other : f ≠ e) : gone[f] = s.sched.table[f] := by rw [vector_set_getElem, if_neg other]
      refine ⟨fun key off y kind entry other at_ kind' back waits far => ⟨fun late report => ?_, fun timely room => ?_⟩,
        fun key floor kind fired => ?_, fun stop coil c kind free taken => ?_⟩
      · rw [fireAtOnce_poised_of_late kind entry other at_ waits late report] at visits
        refine answers (visits.trans (settleTable_left_off only going rfl other (not_waits_of_unready (readyDue_of_free ?_))))
        simp only [State.left, vector_set_getElem, if_true]
      · rw [fireAtOnce_poised_of_timely kind entry other at_ far timely room] at visits
        refine answers (visits.trans (settleTable_left_off only going rfl other
          (not_waits_of_far (a := { y with pair := .fired (due + 100) }) ?_ far)))
        simp only [State.left, vector_set_getElem, if_true]
      · rw [fireAtOnce_poised_of_noteOff kind] at visits
        exact answers (visits.trans (settleTable_left only going rfl emptied fun f other => .inl (stands f other)))
      · rw [fireAtOnce_poised_of_stop kind free taken] at visits
        exact answers (visits.trans (settleTable_left only going rfl emptied fun f other => .inl (stands f other)))
  · change execRetimeVisit s = _
    unfold execRetimeVisit
    rw [pass]
    dsimp only
    rw [last]
    rfl
  · intro e x due ch here waiting timed later near below unpaired free lowest alone
    have fit : eligible s.sched.barrier x = true := eligible_iff.2 ⟨below, unpaired⟩
    have ready : readyDue s.sched e = some due := (readyDue_of_eligible here waiting fit).trans timed
    have first : lowestFreeChannel s.sched = some ch := lowestFreeChannel_of_first free lowest
    obtain ⟨waits, armed⟩ := settleTable_of_armed here ready later near first alone going
    rw [show exec (.actionArm e) s = _ from act_of_due (by rw [waits, first]; rfl), armed]
    rfl

end

section
/-! The configuration section (R196, R197): its items in their ranges, the zones in order, and the speech delay they give a key (R148). -/

namespace Sys2Proof.Machine

variable {last lo hi n key : Nat} {z : Zone} {zones zs : List Zone} {bytes : List Byte}

/-! ## Items and their ranges (R2, R204) -/

theorem field_one (bytes : List Byte) (o : Nat) : field bytes o 1 = (bytes.getD o 0).toNat := by
  rw [field_succ, field_zero, Nat.mul_zero, Nat.add_zero]

theorem field_two (bytes : List Byte) (o : Nat) : field bytes o 2 = (bytes.getD o 0).toNat + 256 * (bytes.getD (o + 1) 0).toNat := by
  rw [field_succ, field_one]

theorem clampNat_eq (le : lo ≤ hi) (n : Nat) : clampNat lo hi n = max lo (min hi n) := by
  unfold clampNat
  split
  · omega
  · split <;> omega

theorem clampNat_le (le : lo ≤ hi) (n : Nat) : clampNat lo hi n ≤ hi := by
  rw [clampNat_eq le]
  omega

theorem le_clampNat (le : lo ≤ hi) (n : Nat) : lo ≤ clampNat lo hi n := by
  rw [clampNat_eq le]
  omega

theorem clampInt_eq {lo hi : Int} (le : lo ≤ hi) (n : Int) : clampInt lo hi n = max lo (min hi n) := by
  unfold clampInt
  split
  · omega
  · split <;> omega

/-- Two bytes as a signed number. -/
theorem toInt_ofNat_two (below : n < 65536) : (BitVec.ofNat 16 n).toInt = if n < 32768 then (n : Int) else n - 65536 := by
  rw [BitVec.toInt_eq_toNat_cond, BitVec.toNat_ofNat, Nat.mod_eq_of_lt below]
  split <;> split <;> omega

theorem two_lt (a b : Byte) : a.toNat + 256 * b.toNat < 65536 := by
  have low := a.isLt
  have high := b.isLt
  omega

theorem getLsbD_zero_ofNat (n : Nat) : (BitVec.ofNat 8 n).getLsbD 0 = decide (n % 2 = 1) := by
  rw [BitVec.getLsbD_ofNat, Nat.testBit_zero]
  rfl

theorem getLsbD_one_ofNat (n : Nat) : (BitVec.ofNat 8 n).getLsbD 1 = decide (n / 2 % 2 = 1) := by
  rw [BitVec.getLsbD_ofNat, Nat.testBit_succ, Nat.testBit_zero]
  rfl

/-! ## The zones in order (R197) -/

theorem mergeAfter_sublist (last : Nat) (zs : List Zone) : (mergeAfter last zs).Sublist zs := by
  induction zs generalizing last with
  | nil => exact List.Sublist.slnil
  | cons z zs ih =>
    unfold mergeAfter
    split
    · exact (ih z.lower).cons_cons z
    · exact (ih last).cons z

theorem mergeAfter_rises (last : Nat) (zs : List Zone) :
    (∀ z ∈ mergeAfter last zs, last < z.lower) ∧ (mergeAfter last zs).Pairwise fun a b => a.lower < b.lower := by
  induction zs generalizing last with
  | nil => exact ⟨nofun, .nil⟩
  | cons z zs ih =>
    unfold mergeAfter
    split
    · rename_i above
      obtain ⟨higher, rises⟩ := ih z.lower
      exact ⟨List.forall_mem_cons.2 ⟨above, fun y mem => above.trans (higher y mem)⟩, .cons higher rises⟩
    · exact ih last

theorem mergeZones_sublist (zs : List Zone) : (mergeZones zs).Sublist zs := by
  cases zs with
  | nil => exact List.Sublist.slnil
  | cons z zs => exact (mergeAfter_sublist z.lower zs).cons_cons z

theorem mergeZones_rises (zs : List Zone) : (mergeZones zs).Pairwise fun a b => a.lower < b.lower := by
  cases zs with
  | nil => exact .nil
  | cons z zs =>
    obtain ⟨higher, rises⟩ := mergeAfter_rises z.lower zs
    exact .cons higher rises

theorem mergeZones_head? (zs : List Zone) : (mergeZones zs).head? = zs.head? := by cases zs <;> rfl

/-- A zone above the last one kept and above every one since is kept (R197). -/
theorem mem_mergeAfter {i : Nat} (h : i < zs.length) (above : last < zs[i].lower)
    (highest : ∀ j (hj : j < i), zs[j].lower < zs[i].lower) : zs[i] ∈ mergeAfter last zs := by
  induction zs generalizing last i with
  | nil => cases h
  | cons z zs ih =>
    unfold mergeAfter
    cases i with
    | zero =>
      rw [if_pos (by exact above)]
      exact List.mem_cons_self
    | succ i =>
      have later : i < zs.length := Nat.lt_of_succ_lt_succ h
      have highest' (j : Nat) (hj : j < i) : zs[j].lower < zs[i].lower := highest (j + 1) (Nat.succ_lt_succ hj)
      split
      · exact List.mem_cons_of_mem z (ih later (highest 0 (Nat.succ_pos i)) highest')
      · exact ih later above highest'

theorem mem_mergeZones {i : Nat} (h : i < zs.length) (highest : ∀ j (hj : j < i), zs[j].lower < zs[i].lower) : zs[i] ∈ mergeZones zs := by
  cases zs with
  | nil => cases h
  | cons z zs =>
    cases i with
    | zero => exact List.mem_cons_self
    | succ i =>
      exact List.mem_cons_of_mem z (mem_mergeAfter (Nat.lt_of_succ_lt_succ h) (highest 0 (Nat.succ_pos i)) fun j hj =>
        highest (j + 1) (Nat.succ_lt_succ hj))

/-! ## The speech delay of a key (R148) -/

/-- With the bounds rising, the last zone at or below a key is the one with the greatest bound. -/
theorem speechDelay_of_greatest (rises : zones.Pairwise fun a b => a.lower < b.lower) (mem : z ∈ zones) (below : z.lower ≤ key)
    (greatest : ∀ y ∈ zones, y.lower ≤ key → y.lower ≤ z.lower) : speechDelay zones key = z.speech := by
  obtain ⟨before, after, rfl⟩ := List.append_of_mem mem
  have above : ∀ y ∈ after, z.lower < y.lower := (List.pairwise_cons.1 (List.pairwise_append.1 rises).2.1).1
  have none : after.filter (fun y => decide (y.lower ≤ key)) = [] := by
    refine List.filter_eq_nil_iff.2 fun y mem' low => ?_
    have least := greatest y (List.mem_append_right before (List.mem_cons_of_mem z mem')) (of_decide_eq_true low)
    exact absurd (above y mem') (not_lt.2 least)
  unfold speechDelay
  rw [List.filter_append, List.filter_cons, if_pos (decide_eq_true below), none, List.getLast?_concat]

/-- Below every bound it is zone 0 (R148). -/
theorem speechDelay_of_below (first : zones.head? = some z) (below : ∀ y ∈ zones, key < y.lower) : speechDelay zones key = z.speech := by
  have none : zones.filter (fun y => decide (y.lower ≤ key)) = [] :=
    List.filter_eq_nil_iff.2 fun y mem low => absurd (below y mem) (not_lt.2 (of_decide_eq_true low))
  unfold speechDelay
  rw [none, first]
  rfl

/-! ## The record of a section (R196) -/

theorem sectionDivision_val (bytes : List Byte) :
    (sectionDivision bytes).map (·.val) = if field bytes 0 1 < 8 then some (field bytes 0 1) else none := by
  unfold sectionDivision
  split <;> rfl

theorem sectionZones_ranged (mem : z ∈ sectionZones bytes) : z.lower ≤ 63 ∧ z.speech ≤ 2000 := by
  obtain ⟨i, -, rfl⟩ := List.mem_map.1 mem
  exact ⟨clampNat_le (Nat.zero_le 63) _, clampNat_le (Nat.zero_le 2000) _⟩

theorem parseSection_inRange (bytes : List Byte) : (parseSection bytes).inRange = true := by
  have zones : (mergeZones (sectionZones bytes)).all (fun z => decide (z.lower ≤ 63) && decide (z.speech ≤ 2000)) = true := by
    refine List.all_eq_true.2 fun z mem => ?_
    obtain ⟨lower, speech⟩ := sectionZones_ranged ((mergeZones_sublist _).subset mem)
    rw [decide_eq_true lower, decide_eq_true speech]
    rfl
  have least : -500 ≤ clampInt (-500) 500 (BitVec.ofNat 16 (field bytes 6 2)).toInt := by
    rw [clampInt_eq (by decide)]
    omega
  have most : clampInt (-500) 500 (BitVec.ofNat 16 (field bytes 6 2)).toInt ≤ 500 := by
    rw [clampInt_eq (by decide)]
    omega
  simp only [Configuration.inRange, parseSection, zones, least, most, clampNat_le, le_clampNat, Nat.reduceLeDiff, decide_true, Bool.and_true]

end Sys2Proof.Machine
end

section

open Sys2Proof Sys2Proof.Machine

/-- Settles O15: each item is a field of one or two bytes, clamped; the zones are those that rise above all before them. -/
theorem sectionItems : Obligations.SectionItems := by
  unfold Obligations.SectionItems
  refine ⟨fun bytes => ?_, fun zs => ⟨mergeZones_rises zs, mergeZones_sublist zs, mergeZones_head? zs, fun i h => mem_mergeZones h,
    fun key z => speechDelay_of_greatest (mergeZones_rises zs), fun key z first => speechDelay_of_below ((mergeZones_head? zs).trans first)⟩⟩
  intro one two within c
  have byte (o lo hi : Nat) (le : lo ≤ hi) : clampNat lo hi (field bytes o 1) = within lo hi (one o) := by rw [clampNat_eq le, field_one]
  have pair (o lo hi : Nat) (le : lo ≤ hi) : clampNat lo hi (field bytes o 2) = within lo hi (two o) := by rw [clampNat_eq le, field_two]
  have first {hi : Nat} (o : Nat) := byte o 0 hi (Nat.zero_le hi)
  have first' {hi : Nat} (o : Nat) := pair o 0 hi (Nat.zero_le hi)
  refine ⟨parseSection_inRange bytes, ?_, ?_, ?_, first' 2, first' 4, ?_, ?_, first' 32, first 34, first' 35, first 37, first 38, first 39,
    byte 40 2 8 (by decide), byte 41 1 60 (by decide), first 42, first 43, byte 44 1 15 (by decide), ?_, fun ch => ?_, ?_, first' 55,
    byte 57 20 64 (by decide), byte 58 1 3 (by decide), pair 59 500 3000 (by decide), byte 61 2 8 (by decide), ?_,
    pair 63 300 2500 (by decide), first' 65⟩
  · change (sectionDivision bytes).map (·.val) = _
    rw [sectionDivision_val, field_one]
  · exact (getLsbD_zero_ofNat _).trans (by rw [field_one])
  · exact (getLsbD_one_ofNat _).trans (by rw [field_one])
  · change clampInt (-500) 500 (BitVec.ofNat 16 (field bytes 6 2)).toInt = _
    rw [field_two, toInt_ofNat_two (two_lt _ _), clampInt_eq (by decide)]
  · have zone (i : Nat) : (⟨clampNat 0 63 (field bytes (8 + 3 * i) 1), clampNat 0 2000 (field bytes (9 + 3 * i) 2)⟩ : Zone) =
        ⟨within 0 63 (one (8 + 3 * i)), within 0 2000 (two (9 + 3 * i))⟩ := by rw [first, first']
    exact congrArg mergeZones (List.map_congr_left (l := List.range 8) fun i _ => zone i)
  · change (BitVec.ofNat 7 (field bytes 45 1)).toNat = _
    rw [field_one, BitVec.toNat_ofNat]
  · change (Vector.ofFn (sectionReaction bytes))[ch] = _
    rw [Fin.getElem_fin, Vector.getElem_ofFn, sectionReaction, field_one]
    rfl
  · change (BitVec.ofNat 8 (field bytes 54 1)).toNat = _
    rw [field_one, BitVec.ofNat_toNat, BitVec.setWidth_eq]
  · exact (first 62).trans ((Nat.zero_max _).trans (min_eq_right (Nat.le_of_lt_succ (bytes.getD 62 0).isLt)))

end
